-- ==== Sys2Proof/Word.lean ====
section
/-! DEFINITION. The words that travel on the control line. Station times, counts, channels and the other quantities the
SQ2 computes with are plain `Nat` (or `Int` where the spec says signed) in the state; only what the line carries as bits
is a bit vector. -/

namespace Sys2Proof

/-- One data character of the control line (R168). -/
abbrev Byte := BitVec 8

/-- A two-byte field (R179): channel, event id, booking number, multiplex, pad, TIMED duration. -/
abbrev Word16 := BitVec 16

/-- A three-byte field (R179): guide duration. -/
abbrev Word24 := BitVec 24

/-- A four-byte field (R179): station time, MB figure, series id, episode id. -/
abbrev Word32 := BitVec 32

end Sys2Proof
end

