-- ==== Sys2Proof/Machine/Crc.lean ====
section
/-! DEFINITION. The check byte of a frame (R171 step 1). -/

namespace Sys2Proof.Machine

/-- One bit of the CRC-8 with generator x⁸ + x² + x + 1, most significant bit first. -/
def crcBit (c : Byte) : Byte :=
  if c.msb then (c <<< 1) ^^^ 0x07 else c <<< 1

/-- One byte taken into the CRC. -/
def crcByte (c b : Byte) : Byte :=
  crcBit (crcBit (crcBit (crcBit (crcBit (crcBit (crcBit (crcBit (c ^^^ b))))))))

/-- The CRC-8 of some bytes: initial value 0, no final inversion. -/
def crc8 (bytes : List Byte) : Byte :=
  bytes.foldl crcByte 0

/-- The LEN character of a message: the kind byte and the payload together (R170). -/
def lenOf (payload : List Byte) : Byte := BitVec.ofNat 8 (payload.length + 1)

/-- The check byte of a message: over LEN, the kind byte and the payload (R171 step 1). -/
def checkOf (kind : Byte) (payload : List Byte) : Byte :=
  crc8 (lenOf payload :: kind :: payload)

end Sys2Proof.Machine
end

