-- ==== Sys2Proof/Syntax.lean ====
section
/-! DEFINITION. The commands of the SQ2: one constructor per row of spec/opcode_table.json. A message row carries where it
was addressed and its payload's fields at their widths on the line (R179); an expiry row names whose expiry it is. -/

namespace Sys2Proof

/-- Tuner A, index 0, and tuner B, index 1 (R17). -/
inductive TunerId where
  | a
  | b
deriving DecidableEq, Repr

/-- The strap pins as they stand when sampled (R167): ADDR3..ADDR0, and whether the rate strap is high. -/
structure Straps where
  address : BitVec 4
  rateHigh : Bool
deriving DecidableEq, Repr

/-- What happens at RESET_N (R167): it is pulled low and held, or it returns high with the straps as they then stand. -/
inductive ResetPinEvent where
  | low
  | release (straps : Straps)
deriving DecidableEq, Repr

/-- A character on the line (R168): its marker bit, its eight data bits, and whether its stop bit was high. -/
structure LineChar where
  marker : Bool
  value : Byte
  stopHigh : Bool
deriving DecidableEq, Repr

/-- Where a message is addressed (R169): the part's drop address, or 15 for every drop. -/
inductive Dest where
  | own
  | broadcast
deriving DecidableEq, Repr

/-- The payload of a message of a known kind: the fields the catalogue gives for it, or bytes whose number is not one the
catalogue gives (R171 step 4). -/
inductive Body (α : Type) where
  | fields (a : α)
  | badLength (payload : List Byte)
deriving DecidableEq, Repr

/-- PARAM_SET (R173): the setting id and the value's bytes. -/
structure ParamSetArgs where
  id : Byte
  value : List Byte
deriving DecidableEq, Repr

/-- SVC_PUT (R13). -/
structure SvcPutArgs where
  channel : Word16
  network : Byte
  multiplex : Word16
  rateClass : Byte
deriving DecidableEq, Repr

/-- TUNER_CFG (R18). -/
structure TunerCfgArgs where
  tuner : Byte
  enabled : Byte
  mask : Byte
deriving DecidableEq, Repr

/-- VIEW_ON (R20). -/
structure ViewOnArgs where
  tuner : Byte
  channel : Word16
deriving DecidableEq, Repr

/-- GUIDE_OPEN (R33): the channels, the span from `start` to before `stop`, and the REPLACE flag. -/
structure GuideOpenArgs where
  first : Word16
  last : Word16
  start : Word32
  stop : Word32
  replace : Bool
deriving DecidableEq, Repr

/-- One guide entry of a GUIDE_PUT (R34, R179). -/
structure GuidePutEntry where
  channel : Word16
  eventId : Word16
  start : Word32
  duration : Word24
  series : Option Word32
  episode : Option Word32
deriving DecidableEq, Repr

/-- GUIDE_PUT (R34): one, two or three entries. -/
inductive GuidePutArgs where
  | one (e : GuidePutEntry)
  | two (e f : GuidePutEntry)
  | three (e f g : GuidePutEntry)
deriving DecidableEq, Repr

/-- The carried entries, in the order they stand in the message. -/
def GuidePutArgs.entries : GuidePutArgs → List GuidePutEntry
  | .one e => [e]
  | .two e f => [e, f]
  | .three e f g => [e, f, g]

/-- GUIDE_FLUSH (R46): the whole store, or a range of channels. -/
inductive GuideFlushArgs where
  | whole
  | range (first last : Word16)
deriving DecidableEq, Repr

/-- RUNNING (R44). -/
structure RunningArgs where
  channel : Word16
  eventId : Word16
  status : Byte
deriving DecidableEq, Repr

/-- The fields every request payload carries after its kind (R179): a pad of 65,535 is "default"; bit 0 of the flags is
ACCURATE and bit 1 NEW_ONLY. -/
structure ReqCommon where
  importance : Byte
  prePad : Word16
  postPad : Word16
  flags : Byte
deriving DecidableEq, Repr

/-- REQ_ADD (R54), by its kind byte; `other` is a kind byte that names no request kind, with the rest of the payload. -/
inductive ReqAddArgs where
  | timed (c : ReqCommon) (channel duration : Word16) (days : Byte) (start : Word32)
  | event (c : ReqCommon) (channel eventId : Word16)
  | series (c : ReqCommon) (seriesId : Word32) (channel : Word16)
  | other (kind : Byte) (rest : List Byte)
deriving DecidableEq, Repr

/-- The part of REQ_EDIT after the request number (R59). -/
inductive ReqEditBody where
  | timed (c : ReqCommon) (duration : Word16) (days : Byte) (start : Word32)
  | event (c : ReqCommon)
  | series (c : ReqCommon)
  | other (kind : Byte) (rest : List Byte)
deriving DecidableEq, Repr

/-- REQ_EDIT (R59). -/
structure ReqEditArgs where
  number : Byte
  body : ReqEditBody
deriving DecidableEq, Repr

/-- REQ_READ (R64). -/
structure ReqReadArgs where
  start : Byte
  part : Byte
deriving DecidableEq, Repr

/-- CONFIRM (R122). -/
structure ConfirmArgs where
  booking : Word16
  code : Byte
deriving DecidableEq, Repr

/-- ALERT_MASK (R164). -/
structure AlertMaskArgs where
  source : Byte
  mask : Byte
deriving DecidableEq, Repr

/-- PANEL_STAGE (R149). -/
structure PanelStageArgs where
  trigger : Byte
  pattern : Byte
  enable : Byte
deriving DecidableEq, Repr

/-- The commands: messages of the catalogue (section 10.5), events of the line, expiries, and power and reset. -/
inductive Instr where
  | powerOn (straps : Straps)
  | resetPin (event : ResetPinEvent)
  | presentAdvance
  | assemblyTimeout (lead : List LineChar)
  | unknownKindMessage (dest : Dest) (kind : Byte) (payload : List Byte)
  | replyComplete
  | greet (dest : Dest) (body : Body Unit)
  | rest (dest : Dest) (body : Body Unit)
  | clock (dest : Dest) (body : Body Word32)
  | query (dest : Dest) (body : Body Unit)
  | paramSet (dest : Dest) (body : Body ParamSetArgs)
  | paramGet (dest : Dest) (body : Body Byte)
  | reset (dest : Dest) (body : Body Byte)
  | svcPut (dest : Dest) (body : Body SvcPutArgs)
  | svcDrop (dest : Dest) (body : Body Word16)
  | svcRead (dest : Dest) (body : Body Word16)
  | tunerCfg (dest : Dest) (body : Body TunerCfgArgs)
  | viewOn (dest : Dest) (body : Body ViewOnArgs)
  | viewOff (dest : Dest) (body : Body Byte)
  | guideOpen (dest : Dest) (body : Body GuideOpenArgs)
  | guidePut (dest : Dest) (body : Body GuidePutArgs)
  | guideFlush (dest : Dest) (body : Body GuideFlushArgs)
  | running (dest : Dest) (body : Body RunningArgs)
  | agingScan
  | reqAdd (dest : Dest) (body : Body ReqAddArgs)
  | reqEdit (dest : Dest) (body : Body ReqEditArgs)
  | reqDrop (dest : Dest) (body : Body Byte)
  | reqPause (dest : Dest) (body : Body Byte)
  | reqResume (dest : Dest) (body : Body Byte)
  | reqRead (dest : Dest) (body : Body ReqReadArgs)
  | bookRead (dest : Dest) (body : Body Word16)
  | bookCancel (dest : Dest) (body : Body Word16)
  | bookStop (dest : Dest) (body : Body Word16)
  | space (dest : Dest) (body : Body Word32)
  | hold (dest : Dest) (body : Body Byte)
  | take (dest : Dest) (body : Body Unit)
  | confirm (dest : Dest) (body : Body ConfirmArgs)
  | alertAck (dest : Dest) (body : Body Byte)
  | alertMask (dest : Dest) (body : Body AlertMaskArgs)
  | attnEnable (dest : Dest) (body : Body Byte)
  | panelStage (dest : Dest) (body : Body PanelStageArgs)
  | panelSet (dest : Dest) (body : Body Byte)
  | storeSave (dest : Dest) (body : Body Unit)
  | storeQuery (dest : Dest) (body : Body Unit)
  | eraseComplete
  | writeComplete
  | windowStart (booking : Nat)
  | lateLimit (booking : Nat)
  | takeDeadline (booking : Nat)
  | confirmTimer (booking : Nat)
  | provisionalEnd (booking : Nat)
  | wakeExpiry
  | wakeTimeout
  | warningExpiry (tuner : TunerId)
  | badCheckMessage (dest : Dest) (kind : Byte) (payload : List Byte) (check : Byte)
  | deselection (lead : List LineChar) (address : Byte)
  | impossibleLength (dest : Dest) (len : Byte)
  | powerLoss
deriving DecidableEq, Repr

end Sys2Proof
end

