-- ==== Sys2Proof/WellFormed.lean ====
section
/-! DEFINITION. Which terms of `Instr` stand for something that can happen at the part. The meanings are total: an
ill-formed command is no command of the table, and statements about commands may ask for well-formedness. -/

namespace Sys2Proof

/-- The kind codes of the catalogue (section 10.5). -/
def catalogueKinds : List Byte :=
  [0x01, 0x02, 0x03, 0x04, 0x05, 0x06, 0x07, 0x10, 0x11, 0x12, 0x13, 0x14, 0x15, 0x20, 0x21, 0x22, 0x23, 0x30, 0x31,
   0x32, 0x33, 0x34, 0x35, 0x40, 0x41, 0x42, 0x43, 0x44, 0x50, 0x51, 0x52, 0x53, 0x54, 0x60, 0x61, 0x62, 0x63]

/-- The value width of a setting in bytes, 0 for an id that names no setting (section 10.6). -/
def settingWidth (id : Byte) : Nat :=
  match id.toNat with
  | 1 => 1 | 2 => 2 | 3 => 2 | 4 => 2 | 5 => 2 | 6 => 2 | 7 => 2 | 8 => 1 | 9 => 2 | 10 => 4
  | 11 => 1 | 12 => 4 | 13 => 4 | 14 => 1 | 15 => 16 | 16 => 3 | 17 => 8 | 18 => 4 | 19 => 1
  | _ => 0

/-- A payload of at most 64 bytes (R170) whose length is none of those the catalogue gives. -/
def badLengthOk (allowed : List Nat) (payload : List Byte) : Bool :=
  payload.length ≤ 64 && !allowed.contains payload.length

/-- Well-formedness of a message whose fields need no check of their own. -/
def plainBodyOk {α : Type} (allowed : List Nat) : Body α → Bool
  | .fields _ => true
  | .badLength p => badLengthOk allowed p

/-- PARAM_SET (R171 step 4): the value has its setting's width; an id that names no setting passes with any length. -/
def paramSetOk : Body ParamSetArgs → Bool
  | .fields a => a.value.length ≤ 63 && (settingWidth a.id == 0 || a.value.length == settingWidth a.id)
  | .badLength [] => true
  | .badLength (id :: v) => v.length ≤ 63 && settingWidth id != 0 && v.length != settingWidth id

/-- Whether a byte names a request kind (R179). -/
def namesRequestKind (kind : Byte) : Bool := kind == 1 || kind == 2 || kind == 3

/-- REQ_ADD (R171 step 4): the length follows from the kind byte, the first of the payload. -/
def reqAddOk : Body ReqAddArgs → Bool
  | .fields (.other kind rest) => rest.length ≤ 63 && !namesRequestKind kind
  | .fields _ => true
  | .badLength [] => true
  | .badLength (kind :: rest) =>
    rest.length ≤ 63 && ((kind == 1 && rest.length != 15) || (kind == 2 && rest.length != 10)
      || (kind == 3 && rest.length != 12))

/-- REQ_EDIT (R171 step 4): the length follows from the kind byte, the second of the payload. -/
def reqEditOk : Body ReqEditArgs → Bool
  | .fields ⟨_, .other kind rest⟩ => rest.length ≤ 62 && !namesRequestKind kind
  | .fields _ => true
  | .badLength [] => true
  | .badLength [_] => true
  | .badLength (_ :: kind :: rest) =>
    rest.length ≤ 62 && ((kind == 1 && rest.length != 13) || (kind == 2 && rest.length != 6)
      || (kind == 3 && rest.length != 6))

/-- No run of data characters in a lead makes a whole message: `run` holds the data characters since the last address
character. A run with an impossible LEN makes none either (R170). -/
def leadOkFrom (run : List Byte) : List LineChar → Bool
  | [] => true
  | c :: cs =>
    if !c.stopHigh then leadOkFrom run cs
    else if c.marker then leadOkFrom [] cs
    else
      let run' := run ++ [c.value]
      (match run' with
        | len :: _ => len == 0 || decide (len.toNat > 65) || decide (run'.length < len.toNat + 2)
        | [] => true) && leadOkFrom run' cs

/-- A lead: characters on the line that complete no message. -/
def leadOk (lead : List LineChar) : Bool := leadOkFrom [] lead

/-- Well-formed commands. -/
def Instr.wellFormed : Instr → Bool
  | .powerOn _ => true
  | .resetPin _ => true
  | .presentAdvance => true
  | .assemblyTimeout lead => leadOk lead
  | .unknownKindMessage _ kind p => p.length ≤ 64 && !catalogueKinds.contains kind
  | .replyComplete => true
  | .greet _ b => plainBodyOk [0] b
  | .rest _ b => plainBodyOk [0] b
  | .clock _ b => plainBodyOk [4] b
  | .query _ b => plainBodyOk [0] b
  | .paramSet _ b => paramSetOk b
  | .paramGet _ b => plainBodyOk [1] b
  | .reset _ b => plainBodyOk [1] b
  | .svcPut _ b => plainBodyOk [6] b
  | .svcDrop _ b => plainBodyOk [2] b
  | .svcRead _ b => plainBodyOk [2] b
  | .tunerCfg _ b => plainBodyOk [3] b
  | .viewOn _ b => plainBodyOk [3] b
  | .viewOff _ b => plainBodyOk [1] b
  | .guideOpen _ b => plainBodyOk [13] b
  | .guidePut _ b => plainBodyOk [20, 40, 60] b
  | .guideFlush _ b => plainBodyOk [0, 4] b
  | .running _ b => plainBodyOk [5] b
  | .agingScan => true
  | .reqAdd _ b => reqAddOk b
  | .reqEdit _ b => reqEditOk b
  | .reqDrop _ b => plainBodyOk [1] b
  | .reqPause _ b => plainBodyOk [1] b
  | .reqResume _ b => plainBodyOk [1] b
  | .reqRead _ b => plainBodyOk [2] b
  | .bookRead _ b => plainBodyOk [2] b
  | .bookCancel _ b => plainBodyOk [2] b
  | .bookStop _ b => plainBodyOk [2] b
  | .space _ b => plainBodyOk [4] b
  | .hold _ b => plainBodyOk [1] b
  | .take _ b => plainBodyOk [0] b
  | .confirm _ b => plainBodyOk [3] b
  | .alertAck _ b => plainBodyOk [1] b
  | .alertMask _ b => plainBodyOk [2] b
  | .attnEnable _ b => plainBodyOk [1] b
  | .panelStage _ b => plainBodyOk [3] b
  | .panelSet _ b => plainBodyOk [1] b
  | .storeSave _ b => plainBodyOk [0] b
  | .storeQuery _ b => plainBodyOk [0] b
  | .eraseComplete => true
  | .writeComplete => true
  | .windowStart n => 1 ≤ n && n ≤ 65535
  | .lateLimit n => 1 ≤ n && n ≤ 65535
  | .takeDeadline n => 1 ≤ n && n ≤ 65535
  | .confirmTimer n => 1 ≤ n && n ≤ 65535
  | .provisionalEnd n => 1 ≤ n && n ≤ 65535
  | .wakeExpiry => true
  | .wakeTimeout => true
  | .warningExpiry _ => true
  | .badCheckMessage _ kind p check => p.length ≤ 64 && check != Machine.checkOf kind p
  | .deselection lead address => leadOk lead && address != 15
  | .impossibleLength _ len => len == 0 || 65 < len.toNat
  | .powerLoss => true

end Sys2Proof
end

