-- ==== Sys2Proof/Decode.lean ====
section
/-! DEFINITION. From the bytes of a message to the command it spells (R170, R171, R179), and back. No row of the opcode
table gives bits, so the table itself decodes nothing; the messages of the control line do have an encoding, and it stands
here. -/

namespace Sys2Proof

/-- The command a table word spells: the table gives no row any bits. -/
def decodeTableWord (_nbits _w : Nat) : Option Instr := none

/-! ### Fields, most significant byte first (R179) -/

/-- A two-byte field from its bytes. -/
def word16 (h l : Byte) : Word16 := h ++ l

/-- A three-byte field from its bytes. -/
def word24 (h m l : Byte) : Word24 := h ++ (m ++ l : BitVec 16)

/-- A four-byte field from its bytes. -/
def word32 (a b c d : Byte) : Word32 := (a ++ b : BitVec 16) ++ (c ++ d : BitVec 16)

/-- The bytes of a two-byte field. -/
def bytes16 (w : Word16) : List Byte := [w.extractLsb' 8 8, w.extractLsb' 0 8]

/-- The bytes of a three-byte field. -/
def bytes24 (w : Word24) : List Byte := [w.extractLsb' 16 8, w.extractLsb' 8 8, w.extractLsb' 0 8]

/-- The bytes of a four-byte field. -/
def bytes32 (w : Word32) : List Byte :=
  [w.extractLsb' 24 8, w.extractLsb' 16 8, w.extractLsb' 8 8, w.extractLsb' 0 8]

/-- A flag byte (R179). -/
def flagByte (b : Bool) : Byte := if b then 1 else 0

/-! ### The kind codes (section 10.5) -/

/-- The kind byte of a message command; no other command has one. -/
def kindOf : Instr → Option Byte
  | .greet .. => some 0x01
  | .rest .. => some 0x02
  | .clock .. => some 0x03
  | .query .. => some 0x04
  | .paramSet .. => some 0x05
  | .paramGet .. => some 0x06
  | .reset .. => some 0x07
  | .svcPut .. => some 0x10
  | .svcDrop .. => some 0x11
  | .svcRead .. => some 0x12
  | .tunerCfg .. => some 0x13
  | .viewOn .. => some 0x14
  | .viewOff .. => some 0x15
  | .guideOpen .. => some 0x20
  | .guidePut .. => some 0x21
  | .guideFlush .. => some 0x22
  | .running .. => some 0x23
  | .reqAdd .. => some 0x30
  | .reqEdit .. => some 0x31
  | .reqDrop .. => some 0x32
  | .reqPause .. => some 0x33
  | .reqResume .. => some 0x34
  | .reqRead .. => some 0x35
  | .bookRead .. => some 0x40
  | .bookCancel .. => some 0x41
  | .bookStop .. => some 0x42
  | .space .. => some 0x43
  | .hold .. => some 0x44
  | .take .. => some 0x50
  | .confirm .. => some 0x51
  | .alertAck .. => some 0x52
  | .alertMask .. => some 0x53
  | .attnEnable .. => some 0x54
  | .panelStage .. => some 0x60
  | .panelSet .. => some 0x61
  | .storeSave .. => some 0x62
  | .storeQuery .. => some 0x63
  | .unknownKindMessage _ kind _ => some kind
  | .badCheckMessage _ kind _ _ => some kind
  | _ => none

/-! ### Payloads -/

def decodeNone : List Byte → Body Unit
  | [] => .fields ()
  | p => .badLength p

def decodeByte : List Byte → Body Byte
  | [b] => .fields b
  | p => .badLength p

def decodeWord16 : List Byte → Body Word16
  | [h, l] => .fields (word16 h l)
  | p => .badLength p

def decodeWord32 : List Byte → Body Word32
  | [a, b, c, d] => .fields (word32 a b c d)
  | p => .badLength p

def decodeParamSet : List Byte → Body ParamSetArgs
  | [] => .badLength []
  | id :: v =>
    if settingWidth id == 0 || v.length == settingWidth id then .fields ⟨id, v⟩ else .badLength (id :: v)

def decodeSvcPut : List Byte → Body SvcPutArgs
  | [c1, c0, n, m1, m0, r] => .fields ⟨word16 c1 c0, n, word16 m1 m0, r⟩
  | p => .badLength p

def decodeTunerCfg : List Byte → Body TunerCfgArgs
  | [t, e, m] => .fields ⟨t, e, m⟩
  | p => .badLength p

def decodeViewOn : List Byte → Body ViewOnArgs
  | [t, c1, c0] => .fields ⟨t, word16 c1 c0⟩
  | p => .badLength p

def decodeGuideOpen : List Byte → Body GuideOpenArgs
  | [f1, f0, l1, l0, a3, a2, a1, a0, b3, b2, b1, b0, r] =>
    .fields ⟨word16 f1 f0, word16 l1 l0, word32 a3 a2 a1 a0, word32 b3 b2 b1 b0, r != 0⟩
  | p => .badLength p

/-- The 20 bytes of a guide entry (R179): bit 0 of the presence byte is the series id's, bit 1 the episode id's. -/
def decodeEntry : List Byte → Option (GuidePutEntry × List Byte)
  | c1 :: c0 :: e1 :: e0 :: s3 :: s2 :: s1 :: s0 :: d2 :: d1 :: d0 :: pr :: a3 :: a2 :: a1 :: a0
      :: b3 :: b2 :: b1 :: b0 :: rest =>
    some (⟨word16 c1 c0, word16 e1 e0, word32 s3 s2 s1 s0, word24 d2 d1 d0,
      if pr.getLsbD 0 then some (word32 a3 a2 a1 a0) else none,
      if pr.getLsbD 1 then some (word32 b3 b2 b1 b0) else none⟩, rest)
  | _ => none

def decodeGuidePut (p : List Byte) : Body GuidePutArgs :=
  match decodeEntry p with
  | none => .badLength p
  | some (e, []) => .fields (.one e)
  | some (e, q) =>
    match decodeEntry q with
    | none => .badLength p
    | some (f, []) => .fields (.two e f)
    | some (f, r) =>
      match decodeEntry r with
      | some (g, []) => .fields (.three e f g)
      | _ => .badLength p

def decodeGuideFlush : List Byte → Body GuideFlushArgs
  | [] => .fields .whole
  | [f1, f0, l1, l0] => .fields (.range (word16 f1 f0) (word16 l1 l0))
  | p => .badLength p

def decodeRunning : List Byte → Body RunningArgs
  | [c1, c0, e1, e0, s] => .fields ⟨word16 c1 c0, word16 e1 e0, s⟩
  | p => .badLength p

def decodeReqAdd : List Byte → Body ReqAddArgs
  | [] => .badLength []
  | kind :: rest =>
    if kind == 1 then
      match rest with
      | [i, p1, p0, q1, q0, f, c1, c0, d1, d0, days, s3, s2, s1, s0] =>
        .fields (.timed ⟨i, word16 p1 p0, word16 q1 q0, f⟩ (word16 c1 c0) (word16 d1 d0) days (word32 s3 s2 s1 s0))
      | _ => .badLength (kind :: rest)
    else if kind == 2 then
      match rest with
      | [i, p1, p0, q1, q0, f, c1, c0, e1, e0] =>
        .fields (.event ⟨i, word16 p1 p0, word16 q1 q0, f⟩ (word16 c1 c0) (word16 e1 e0))
      | _ => .badLength (kind :: rest)
    else if kind == 3 then
      match rest with
      | [i, p1, p0, q1, q0, f, s3, s2, s1, s0, c1, c0] =>
        .fields (.series ⟨i, word16 p1 p0, word16 q1 q0, f⟩ (word32 s3 s2 s1 s0) (word16 c1 c0))
      | _ => .badLength (kind :: rest)
    else .fields (.other kind rest)

def decodeReqEdit : List Byte → Body ReqEditArgs
  | [] => .badLength []
  | [n] => .badLength [n]
  | n :: kind :: rest =>
    if kind == 1 then
      match rest with
      | [i, p1, p0, q1, q0, f, d1, d0, days, s3, s2, s1, s0] =>
        .fields ⟨n, .timed ⟨i, word16 p1 p0, word16 q1 q0, f⟩ (word16 d1 d0) days (word32 s3 s2 s1 s0)⟩
      | _ => .badLength (n :: kind :: rest)
    else if kind == 2 then
      match rest with
      | [i, p1, p0, q1, q0, f] => .fields ⟨n, .event ⟨i, word16 p1 p0, word16 q1 q0, f⟩⟩
      | _ => .badLength (n :: kind :: rest)
    else if kind == 3 then
      match rest with
      | [i, p1, p0, q1, q0, f] => .fields ⟨n, .series ⟨i, word16 p1 p0, word16 q1 q0, f⟩⟩
      | _ => .badLength (n :: kind :: rest)
    else .fields ⟨n, .other kind rest⟩

def decodeReqRead : List Byte → Body ReqReadArgs
  | [s, p] => .fields ⟨s, p⟩
  | p => .badLength p

def decodeConfirm : List Byte → Body ConfirmArgs
  | [b1, b0, c] => .fields ⟨word16 b1 b0, c⟩
  | p => .badLength p

def decodeAlertMask : List Byte → Body AlertMaskArgs
  | [s, m] => .fields ⟨s, m⟩
  | p => .badLength p

def decodePanelStage : List Byte → Body PanelStageArgs
  | [t, p, e] => .fields ⟨t, p, e⟩
  | p => .badLength p

/-- The command a complete message with a good check spells (R171 steps 3 and 4). -/
def decodeMessage (d : Dest) (kind : Byte) (p : List Byte) : Instr :=
  match kind.toNat with
  | 0x01 => .greet d (decodeNone p)
  | 0x02 => .rest d (decodeNone p)
  | 0x03 => .clock d (decodeWord32 p)
  | 0x04 => .query d (decodeNone p)
  | 0x05 => .paramSet d (decodeParamSet p)
  | 0x06 => .paramGet d (decodeByte p)
  | 0x07 => .reset d (decodeByte p)
  | 0x10 => .svcPut d (decodeSvcPut p)
  | 0x11 => .svcDrop d (decodeWord16 p)
  | 0x12 => .svcRead d (decodeWord16 p)
  | 0x13 => .tunerCfg d (decodeTunerCfg p)
  | 0x14 => .viewOn d (decodeViewOn p)
  | 0x15 => .viewOff d (decodeByte p)
  | 0x20 => .guideOpen d (decodeGuideOpen p)
  | 0x21 => .guidePut d (decodeGuidePut p)
  | 0x22 => .guideFlush d (decodeGuideFlush p)
  | 0x23 => .running d (decodeRunning p)
  | 0x30 => .reqAdd d (decodeReqAdd p)
  | 0x31 => .reqEdit d (decodeReqEdit p)
  | 0x32 => .reqDrop d (decodeByte p)
  | 0x33 => .reqPause d (decodeByte p)
  | 0x34 => .reqResume d (decodeByte p)
  | 0x35 => .reqRead d (decodeReqRead p)
  | 0x40 => .bookRead d (decodeWord16 p)
  | 0x41 => .bookCancel d (decodeWord16 p)
  | 0x42 => .bookStop d (decodeWord16 p)
  | 0x43 => .space d (decodeWord32 p)
  | 0x44 => .hold d (decodeByte p)
  | 0x50 => .take d (decodeNone p)
  | 0x51 => .confirm d (decodeConfirm p)
  | 0x52 => .alertAck d (decodeByte p)
  | 0x53 => .alertMask d (decodeAlertMask p)
  | 0x54 => .attnEnable d (decodeByte p)
  | 0x60 => .panelStage d (decodePanelStage p)
  | 0x61 => .panelSet d (decodeByte p)
  | 0x62 => .storeSave d (decodeNone p)
  | 0x63 => .storeQuery d (decodeNone p)
  | _ => .unknownKindMessage d kind p

/-- The command a complete message spells: a bad check is judged before anything else (R171 step 1). -/
def decodeChecked (d : Dest) (kind : Byte) (p : List Byte) (check : Byte) : Instr :=
  if check = Machine.checkOf kind p then decodeMessage d kind p else .badCheckMessage d kind p check

/-- The data characters that follow an address character selecting the part, read as a message (R170): LEN, the kind, the
payload and the check. An impossible LEN is a command of its own; characters too few or too many are no message. -/
def decodeFrame (d : Dest) : List Byte → Option Instr
  | [] => none
  | len :: rest =>
    if len = 0 ∨ 65 < len.toNat then some (.impossibleLength d len)
    else
      match rest with
      | [] => none
      | kind :: q =>
        if q.length = len.toNat then
          match q.getLast? with
          | some check => some (decodeChecked d kind q.dropLast check)
          | none => none
        else none

/-! ### Encoding -/

def encodeNone : Body Unit → List Byte
  | .fields _ => []
  | .badLength p => p

def encodeByte : Body Byte → List Byte
  | .fields b => [b]
  | .badLength p => p

def encodeWord16 : Body Word16 → List Byte
  | .fields w => bytes16 w
  | .badLength p => p

def encodeWord32 : Body Word32 → List Byte
  | .fields w => bytes32 w
  | .badLength p => p

def encodeEntry (e : GuidePutEntry) : List Byte :=
  bytes16 e.channel ++ bytes16 e.eventId ++ bytes32 e.start ++ bytes24 e.duration
    ++ [(if e.series.isSome then 1 else 0) ||| (if e.episode.isSome then 2 else 0)]
    ++ bytes32 (e.series.getD 0) ++ bytes32 (e.episode.getD 0)

def encodeGuidePut : Body GuidePutArgs → List Byte
  | .fields a => (a.entries.map encodeEntry).flatten
  | .badLength p => p

def encodeCommon (c : ReqCommon) : List Byte :=
  c.importance :: bytes16 c.prePad ++ bytes16 c.postPad ++ [c.flags]

def encodeReqAdd : Body ReqAddArgs → List Byte
  | .fields (.timed c ch du days st) => 1 :: encodeCommon c ++ bytes16 ch ++ bytes16 du ++ [days] ++ bytes32 st
  | .fields (.event c ch ev) => 2 :: encodeCommon c ++ bytes16 ch ++ bytes16 ev
  | .fields (.series c sid ch) => 3 :: encodeCommon c ++ bytes32 sid ++ bytes16 ch
  | .fields (.other kind rest) => kind :: rest
  | .badLength p => p

def encodeReqEdit : Body ReqEditArgs → List Byte
  | .fields ⟨n, .timed c du days st⟩ => n :: 1 :: encodeCommon c ++ bytes16 du ++ [days] ++ bytes32 st
  | .fields ⟨n, .event c⟩ => n :: 2 :: encodeCommon c
  | .fields ⟨n, .series c⟩ => n :: 3 :: encodeCommon c
  | .fields ⟨n, .other kind rest⟩ => n :: kind :: rest
  | .badLength p => p

/-- The destination and the payload of a message command. -/
def payloadOf : Instr → Option (Dest × List Byte)
  | .greet d b => some (d, encodeNone b)
  | .rest d b => some (d, encodeNone b)
  | .clock d b => some (d, encodeWord32 b)
  | .query d b => some (d, encodeNone b)
  | .paramSet d (.fields a) => some (d, a.id :: a.value)
  | .paramSet d (.badLength p) => some (d, p)
  | .paramGet d b => some (d, encodeByte b)
  | .reset d b => some (d, encodeByte b)
  | .svcPut d (.fields a) => some (d, bytes16 a.channel ++ [a.network] ++ bytes16 a.multiplex ++ [a.rateClass])
  | .svcPut d (.badLength p) => some (d, p)
  | .svcDrop d b => some (d, encodeWord16 b)
  | .svcRead d b => some (d, encodeWord16 b)
  | .tunerCfg d (.fields a) => some (d, [a.tuner, a.enabled, a.mask])
  | .tunerCfg d (.badLength p) => some (d, p)
  | .viewOn d (.fields a) => some (d, a.tuner :: bytes16 a.channel)
  | .viewOn d (.badLength p) => some (d, p)
  | .viewOff d b => some (d, encodeByte b)
  | .guideOpen d (.fields a) =>
    some (d, bytes16 a.first ++ bytes16 a.last ++ bytes32 a.start ++ bytes32 a.stop ++ [flagByte a.replace])
  | .guideOpen d (.badLength p) => some (d, p)
  | .guidePut d b => some (d, encodeGuidePut b)
  | .guideFlush d (.fields .whole) => some (d, [])
  | .guideFlush d (.fields (.range f l)) => some (d, bytes16 f ++ bytes16 l)
  | .guideFlush d (.badLength p) => some (d, p)
  | .running d (.fields a) => some (d, bytes16 a.channel ++ bytes16 a.eventId ++ [a.status])
  | .running d (.badLength p) => some (d, p)
  | .reqAdd d b => some (d, encodeReqAdd b)
  | .reqEdit d b => some (d, encodeReqEdit b)
  | .reqDrop d b => some (d, encodeByte b)
  | .reqPause d b => some (d, encodeByte b)
  | .reqResume d b => some (d, encodeByte b)
  | .reqRead d (.fields a) => some (d, [a.start, a.part])
  | .reqRead d (.badLength p) => some (d, p)
  | .bookRead d b => some (d, encodeWord16 b)
  | .bookCancel d b => some (d, encodeWord16 b)
  | .bookStop d b => some (d, encodeWord16 b)
  | .space d b => some (d, encodeWord32 b)
  | .hold d b => some (d, encodeByte b)
  | .take d b => some (d, encodeNone b)
  | .confirm d (.fields a) => some (d, bytes16 a.booking ++ [a.code])
  | .confirm d (.badLength p) => some (d, p)
  | .alertAck d b => some (d, encodeByte b)
  | .alertMask d (.fields a) => some (d, [a.source, a.mask])
  | .alertMask d (.badLength p) => some (d, p)
  | .attnEnable d b => some (d, encodeByte b)
  | .panelStage d (.fields a) => some (d, [a.trigger, a.pattern, a.enable])
  | .panelStage d (.badLength p) => some (d, p)
  | .panelSet d b => some (d, encodeByte b)
  | .storeSave d b => some (d, encodeNone b)
  | .storeQuery d b => some (d, encodeNone b)
  | .unknownKindMessage d _ p => some (d, p)
  | .badCheckMessage d _ p _ => some (d, p)
  | _ => none

/-- The destination and the data characters of a message command: LEN, the kind, the payload and the check, which is
good unless the command says otherwise (R170, R171). -/
def encodeFrame (i : Instr) : Option (Dest × List Byte) :=
  match payloadOf i, kindOf i with
  | some (d, p), some kind =>
    let check := match i with
      | .badCheckMessage _ _ _ c => c
      | _ => Machine.checkOf kind p
    some (d, Machine.lenOf p :: kind :: p ++ [check])
  | _, _ => none

end Sys2Proof
end

