-- ==== Sys2Proof/Config.lean ====
section
/-! DEFINITION. The constants the spec fixes for every SQ2, and the one value it leaves open (`wideCount`, log entry 29). What else it
leaves open is the ORDER of events of one instant, which the queue of commands fixes (notes 2, 3). -/

namespace Sys2Proof.Config

/-- The last station time; the present stops here (R1). -/
def maxTime : Nat := 4294967295

/-- The earliest and the latest station time a CLOCK message may carry (R2). -/
def clockMin : Nat := 315360000
def clockMax : Nat := 4000000000

/-- A step larger than this many seconds is large (R3). -/
def largeStep : Nat := 300

/-- Seconds in a day (R7). -/
def daySeconds : Nat := 86400

/-- Capacity of the Service Table (R12), Guide Store (R28), Request Table (R51) and Booking List (R70). -/
def maxServices : Nat := 200
def maxEntries : Nat := 1200
def maxRequests : Nat := 48
def maxBookings : Nat := 240

/-- The highest channel number (R12). -/
def maxChannel : Nat := 9999

/-- The longest guide entry (R28) and the longest window (R91), in seconds. -/
def maxEntryDuration : Nat := 86400
def maxWindow : Nat := 43200

/-- The interval of aging scans (R47), and how long an ended entry is kept (R48), in seconds. -/
def scanInterval : Nat := 900
def endedGrace : Nat := 3600

/-- The bounds of a TIMED request's duration and of a request's own pads and importance (R51, R52, R55). -/
def minTimed : Nat := 60
def maxTimed : Nat := 43200
def maxPad : Nat := 3600
def maxImportance : Nat := 15

/-- The highest loss count (R66), the room of the episode history (R67) and of the skip list (R68). -/
def maxLoss : Nat := 15
def maxHistory : Nat := 12
def maxSkip : Nat := 4

/-- The highest booking number (R72). -/
def maxBookingNumber : Nat := 65535

/-- One extension of a provisional end, in seconds (R127). -/
def extension : Nat := 300

/-- Room of the notice queue and the ceiling of the lost-notice count (R156). -/
def maxNotices : Nat := 24
def maxLost : Nat := 255

/-- The longest LEN of a message (R170). -/
def maxLen : Nat := 65

/-- How many expiries taken at once one event may give before the rest wait for their own commands. The spec sets no
bound; the model's chains always end long before this one (DESIGN CHOICE, log entry 6). -/
def settleFuel : Nat := 100000

/-- The byte that carries a count above 255. R179 gives a count one byte, and GUIDE_FLUSH may count up to 1,200 entries (R46);
the spec does not state what the byte then is. A free value: nothing is known of it (log entry 29). -/
opaque wideCount : Nat → BitVec 8

end Sys2Proof.Config
end

