-- ==== Sys2Proof/Machine/State.lean ====
section
/-! DEFINITION. The state of the SQ2: one structure per block of section 1.3, all plain data, and the state right after
power-on with no image in flash. -/

namespace Sys2Proof.Machine

/-! ### Services, tuners and viewer holds (chapter 2) -/

/-- A service record (R12). -/
structure Service where
  channel : Nat
  network : Nat
  multiplex : Nat
  rateClass : Nat
deriving DecidableEq, Repr

/-- A viewer hold record (R19), with the warning expiry the Tuner Table holds for it (R24). -/
structure ViewerHold where
  channel : Nat
  multiplex : Nat
  slot : Nat
  yieldTime : Option Nat
  yieldBooking : Option Nat
  warned : Bool
  warnExpiry : Option Nat
deriving DecidableEq, Repr

/-- A tuner record (R17). Bit n of the mask stands for network n. -/
structure Tuner where
  enabled : Bool
  mask : BitVec 4
  hold : Option ViewerHold
deriving DecidableEq, Repr

/-! ### The guide (chapter 3) -/

/-- Running status (R28), numbered by R179. -/
inductive RunningStatus where
  | unknown
  | notRunning
  | soon
  | running
  | paused
deriving DecidableEq, Repr

/-- A guide entry (R28). `refreshedAt` is absent while it is pending (R39). -/
structure GuideEntry where
  slot : Nat
  channel : Nat
  eventId : Nat
  start : Nat
  duration : Nat
  series : Option Nat
  episode : Option Nat
  status : RunningStatus
  hasRun : Bool
  refreshedAt : Option Nat
  pins : Nat
  withdrawn : Bool
  settled : List Nat
  written : Bool
deriving DecidableEq, Repr

/-- What the stream record holds while the stream is OPEN (R32). -/
structure StreamWindow where
  first : Nat
  last : Nat
  start : Nat
  stop : Nat
  replace : Bool
deriving DecidableEq, Repr

/-- The Guide Store: the entries in slot order, the stream record (R32), the scan held off by a save (R47), the next scan
(R47) and the guide-full flag (R50). -/
structure GuideStore where
  entries : List GuideEntry
  stream : Option StreamWindow
  change : Bool
  agingPending : Bool
  scanWaits : Bool
  nextScan : Option Nat
  full : Bool
deriving DecidableEq, Repr

/-! ### Requests (chapter 4) -/

/-- The states of a request (R51). -/
inductive RequestState where
  | active
  | paused
  | dropping
deriving DecidableEq, Repr

/-- The fields of a TIMED request (R52). Bit n of `days` is weekday n; no bit set makes the request single. -/
structure TimedFields where
  channel : Nat
  duration : Nat
  days : BitVec 7
  start : Nat
  skip : List Int
  settledDay : Option Int
deriving DecidableEq, Repr

/-- The fields of an EVENT request (R53). -/
structure EventFields where
  channel : Nat
  eventId : Nat
  accurate : Bool
deriving DecidableEq, Repr

/-- The fields of a SERIES request (R53). -/
structure SeriesFields where
  seriesId : Nat
  channel : Nat
  newOnly : Bool
  accurate : Bool
  history : List Nat
deriving DecidableEq, Repr

/-- The kind of a request with the fields of the kind. -/
inductive RequestKind where
  | timed (f : TimedFields)
  | event (f : EventFields)
  | series (f : SeriesFields)
deriving DecidableEq, Repr

/-- A request (R51). A pad is absent when it is "default". -/
structure Request where
  number : Nat
  state : RequestState
  importance : Nat
  prePad : Option Nat
  postPad : Option Nat
  loss : Nat
  kind : RequestKind
deriving DecidableEq, Repr

/-! ### Bookings (chapters 5 to 7) -/

/-- The occurrence key of a booking (R71): a guide slot, or a local day number. -/
inductive OccurrenceKey where
  | guideSlot (slot : Nat)
  | localDay (day : Int)
deriving DecidableEq, Repr

/-- The states of a booking (R71). -/
inductive BookingState where
  | planned
  | clashed
  | late
  | due
  | starting
  | recording
deriving DecidableEq, Repr

/-- What set a provisional end short of the natural one (R71). -/
inductive CutReason where
  | yield
  | limit
deriving DecidableEq, Repr

/-- A tuner and one of its stream slots (R17). -/
structure Place where
  tuner : TunerId
  slot : Nat
deriving DecidableEq, Repr

/-- A booking (R71), with the expiries Run Control holds for it (R112) and the instant it became DUE, from which the take
deadline is computed (R112, R118). The state is absent between creation and the pass that follows (R73). -/
structure Booking where
  number : Nat
  request : Nat
  key : OccurrenceKey
  channel : Nat
  progStart : Nat
  progDuration : Nat
  winStart : Nat
  winEnd : Nat
  provEnd : Nat
  tier : Nat
  state : Option BookingState
  place : Option Place
  alternate : Bool
  spaceShort : Bool
  accurate : Bool
  partners : List Nat
  episode : Option Nat
  begun : Option Nat
  cut : Option CutReason
  dueAt : Option Nat
  windowExpiry : Option Nat
  lateExpiry : Option Nat
  takeExpiry : Option Nat
  confirmExpiry : Option Nat
  provExpiry : Option Nat
deriving DecidableEq, Repr

/-- Whose claim on a tuner an extent is: a booking's or the viewer hold's (R94). -/
inductive Claimant where
  | booking (number : Nat)
  | hold (tuner : TunerId)
deriving DecidableEq, Repr

/-- An extent of tuner occupancy (R96): from `start` to before `stop`, or without end. -/
structure Extent where
  tuner : TunerId
  slot : Nat
  multiplex : Nat
  start : Nat
  stop : Option Nat
  claimant : Claimant
deriving DecidableEq, Repr

/-- What the Planner owns: the Booking List in list order (R70), the booking-number counter (R72), the list-short flag
(R86), the tuner occupancy of the last pass (R89) and the free-space figure in MB, absent while unknown (R107). -/
structure Planner where
  bookings : List Booking
  counter : Nat
  listShort : Bool
  occupancy : List Extent
  freeSpace : Option Nat
deriving DecidableEq, Repr

/-- Run Control's own state (R111). -/
structure RunControl where
  hold : Bool
  recordings : Nat
deriving DecidableEq, Repr

/-! ### Host power and panel (chapter 8) -/

/-- Host states (R137). -/
inductive HostState where
  | unknown
  | awake
  | sleeping
  | waking
  | wakeFailed
deriving DecidableEq, Repr

/-- Wake causes (R137). -/
inductive WakeCause where
  | none
  | maint
  | booking (number : Nat)
deriving DecidableEq, Repr

/-- The host record (R137), the cause computed with the wake expiry (R142), and the wake line (R138). -/
structure HostRecord where
  state : HostState
  wakeExpiry : Option Nat
  expiryCause : WakeCause
  wakeTimer : Option Nat
  attempt : Option Nat
  failure : Option Nat
  cause : WakeCause
  wakeLine : Bool
deriving DecidableEq, Repr

/-- Panel triggers (R147). -/
inductive Trigger where
  | recFirst
  | recLast
  | wake
  | rest
deriving DecidableEq, Repr

/-- A staged pattern and its enable (R147); bit n of a pattern is line n. -/
structure Staged where
  pattern : BitVec 4
  enable : Bool
deriving DecidableEq, Repr

/-- The four staged patterns (R147). -/
structure StagedPatterns where
  recFirst : Staged
  recLast : Staged
  wake : Staged
  rest : Staged
deriving DecidableEq, Repr

/-- The Panel Output Unit (R147). -/
structure Panel where
  lines : BitVec 4
  staged : StagedPatterns
deriving DecidableEq, Repr

/-! ### Outcomes, directives, notices and alerts (chapters 7 and 9) -/

/-- Outcomes of bookings (R131). -/
inductive BookingOutcome where
  | done
  | partly
  | truncated
  | failed
  | missed
  | skipped
  | withdrawn
  | replaced
deriving DecidableEq, Repr

/-- Reasons of outcomes and END directives (R131, R179). -/
inductive Reason where
  | natural
  | early
  | yield
  | limit
  | hostStop
  | hostRestart
  | hostFail
  | noConfirm
  | clash
  | hostAbsent
  | held
  | notTaken
  | noSpace
  | withdrawn
  | replaced
  | abandon
deriving DecidableEq, Repr

/-- The contents of a BEGIN directive (R114, R152). -/
structure BeginFields where
  booking : Nat
  place : Place
  channel : Nat
  network : Nat
  multiplex : Nat
  progStart : Nat
  progDuration : Nat
  provEnd : Nat
  accurate : Bool
deriving DecidableEq, Repr

/-- Directives (R152). -/
inductive Directive where
  | beginRec (fields : BeginFields)
  | endRec (booking : Nat) (place : Place) (reason : Reason)
  | yieldTuner (tuner : TunerId) (booking : Nat)
deriving DecidableEq, Repr

/-- The payload of a BOOKING_END notice (R132 step 7). -/
structure EndReport where
  booking : Nat
  request : Nat
  outcome : BookingOutcome
  reason : Reason
  hostCode : Nat
  begun : Option Nat
  ended : Nat
  replacement : Option Nat
deriving DecidableEq, Repr

/-- States of the Image Store (R180). -/
inductive ImageState where
  | absent
  | current
  | stale
  | savingErase
  | savingWrite
  | failed
deriving DecidableEq, Repr

/-- The edge sources and the level sources of the alert table (R160). -/
inductive EdgeSource where
  | clashNew
  | viewWarn
  | bookingEnd
  | wakeFailed
deriving DecidableEq, Repr

inductive LevelSource where
  | clashPresent
  | spaceShort
  | capacity
  | storeStale
deriving DecidableEq, Repr

/-- An alert source (R160). -/
inductive Source where
  | edge (e : EdgeSource)
  | level (l : LevelSource)
deriving DecidableEq, Repr

/-- A notice: the payload of its source (R156, R160). -/
inductive Notice where
  | clashNew (booking : Nat) (partners : List Nat)
  | clashPresent (count : Nat)
  | viewWarn (tuner : TunerId) (booking : Nat) (time : Nat)
  | spaceShort (count : Nat)
  | bookingEnd (report : EndReport)
  | capacity (guideFull listShort : Bool)
  | storeStale (image : ImageState)
  | wakeFailed (time : Nat)
deriving DecidableEq, Repr

/-- The two queues, the lost-notice count and the attention enable (R151). -/
structure Outbox where
  directives : List Directive
  notices : List Notice
  lost : Nat
  attnEnable : Bool
deriving DecidableEq, Repr

/-- One flag per edge source. -/
structure EdgeFlags where
  clashNew : Bool
  viewWarn : Bool
  bookingEnd : Bool
  wakeFailed : Bool
deriving DecidableEq, Repr

/-- One flag per level source. -/
structure LevelFlags where
  clashPresent : Bool
  spaceShort : Bool
  capacity : Bool
  storeStale : Bool
deriving DecidableEq, Repr

/-- The eight masks (R160); true is set. -/
structure AlertMasks where
  edge : EdgeFlags
  level : LevelFlags
deriving DecidableEq, Repr

/-- The alert table (R160) with the condition values as last reported (R163). -/
structure AlertTable where
  masks : AlertMasks
  inService : LevelFlags
  clashCount : Nat
  spaceCount : Nat
  guideFull : Bool
  listShort : Bool
  image : ImageState
deriving DecidableEq, Repr

/-! ### Settings and the stored image (chapters 10 and 11) -/

/-- The nineteen settings (section 10.6). -/
structure Settings where
  horizonDays : Nat
  prePad : Nat
  postPad : Nat
  overrunLimit : Nat
  lateLimit : Nat
  wakeLead : Nat
  wakeTimeout : Nat
  confirmTimeout : Nat
  warnLead : Nat
  stalePeriod : Nat
  localOffset : Int
  maintFrom : Nat
  maintTo : Nat
  viewerTier : Nat
  tierMap : List Nat
  kindCeiling : List Nat
  rateClass : List Nat
  spaceReserve : Nat
  strictSpace : Bool
deriving DecidableEq, Repr

/-- What the image stores of a tuner (R180). -/
structure TunerConfig where
  enabled : Bool
  mask : BitVec 4
deriving DecidableEq, Repr

/-- The stored content (R180). -/
structure StoredContent where
  settings : Settings
  services : List Service
  tunerA : TunerConfig
  tunerB : TunerConfig
  requests : List Request
  masks : AlertMasks
  attnEnable : Bool
  staged : StagedPatterns
deriving DecidableEq, Repr

/-- A valid image: its content and its saved-at instant, absent when the clock was unset (R180). -/
structure Image where
  content : StoredContent
  savedAt : Option Nat
deriving DecidableEq, Repr

/-- Why the last save was abandoned (R180). -/
inductive AbandonCause where
  | none
  | deadline
  | reset
deriving DecidableEq, Repr

/-- The Image Store (R180): its four pieces of state, the flash (an image only while the completion marker is present),
and the image captured at the start of the write phase (R183). -/
structure ImageStore where
  state : ImageState
  changedInSave : Bool
  abandonCause : AbandonCause
  lastSaved : Option Nat
  flash : Option Image
  capture : Option Image
deriving DecidableEq, Repr

/-! ### Replies and the Line Interface (chapter 10) -/

/-- Refusal reasons (R172). -/
inductive RefuseReason where
  | check
  | kind
  | length
  | range
  | full
  | unknown
  | state
  | busy
  | clock
deriving DecidableEq, Repr

/-- Step classes of an accepted CLOCK (R3). -/
inductive StepClass where
  | none
  | first
  | forward
  | backward
deriving DecidableEq, Repr

/-- The item a TAKE reply carries (R157). -/
inductive TakenItem where
  | empty
  | directive (d : Directive)
  | notice (n : Notice)
deriving DecidableEq, Repr

/-- The fields of a QUERY reply (R175). -/
structure QueryReport where
  clockSet : Bool
  present : Nat
  host : HostState
  hold : Bool
  attnEnable : Bool
  services : Nat
  entries : Nat
  active : Nat
  paused : Nat
  dropping : Nat
  planned : Nat
  clashed : Nat
  late : Nat
  due : Nat
  starting : Nat
  recording : Nat
  directives : Nat
  notices : Nat
  lost : Nat
  image : ImageState
  nextWake : Option Nat
  recordings : Nat
deriving DecidableEq, Repr

/-- The result words of the replies that report one in words. -/
inductive PutResult where
  | inserted
  | unchanged
  | updated
deriving DecidableEq, Repr

inductive DropResult where
  | alreadyDropping
  | removed
  | dropping (remaining : Nat)
deriving DecidableEq, Repr

/-- The counts of a GUIDE_PUT reply (R34). -/
structure PutCounts where
  stored : Nat
  outside : Nat
  unknown : Nat
  invalid : Nat
  discarded : Nat
deriving DecidableEq, Repr

/-- The fields of an accepted message's reply, by message kind. -/
inductive ReplyBody where
  | greet (found : HostState) (cause : WakeCause)
  | rest (state : HostState) (wake : Option Nat)
  | clock (cls : StepClass) (old : Nat)
  | query (report : QueryReport)
  | paramSet (id : Nat) (value : List Int) (clamped changed : Bool)
  | paramGet (id : Nat) (value : List Int)
  | reset (scope : Nat)
  | svcPut (result : PutResult)
  | svcDrop
  | svcRead (records : List Service) (next : Nat)
  | tunerCfg (changed : Bool)
  | viewOn (place : Place) (yieldTime yieldBooking : Option Nat)
  | viewOff (released : Bool)
  | guideOpen (closedEarlier : Bool)
  | guidePut (counts : PutCounts)
  | guideFlush (removed kept : Nat)
  | running (changed : Bool)
  | reqAdd (number : Nat) (clamped : Bool) (tier : Nat)
  | reqEdit (changed clamped : Bool) (tier : Nat)
  | reqDrop (result : DropResult)
  | reqPause (removed : Option Nat)
  | reqResume (resumed : Bool)
  | reqReadNone
  | reqReadMain (next : Nat) (request : Request) (tier live : Nat)
  | reqReadHistory (next : Nat) (request : Request)
  | bookRead (records : List Booking) (next : Nat)
  | bookCancel
  | bookStop
  | space (budget total flagged : Nat)
  | hold (value : Bool) (moved : Nat)
  | take (item : TakenItem) (directives notices : Nat)
  | confirm (recording : Bool)
  | alertAck (queued : Bool)
  | alertMask (changed : Bool)
  | attnEnable (value : Bool) (directives notices : Nat)
  | panelStage (changed : Bool)
  | panelSet (before : BitVec 4)
  | storeSave (state : ImageState)
  | storeQuery (state : ImageState) (valid changedInSave : Bool) (cause : AbandonCause) (lastSaved : Option Nat)
deriving DecidableEq, Repr

/-- A reply (R172): an accepted message's, or a refusal naming the kind byte refused, the reason and booking numbers. -/
inductive Reply where
  | accepted (body : ReplyBody)
  | refused (kind : Byte) (reason : RefuseReason) (bookings : List Nat)
deriving DecidableEq, Repr

/-- The rate the rate strap selects (R167). -/
inductive LineRate where
  | baud57600
  | baud115200
deriving DecidableEq, Repr

/-- The states of the Line Interface (section 10.3). ASSEMBLING holds the destination and the data characters taken so
far, LEN first; WORKING holds the complete message. -/
inductive LineState where
  | idle
  | assembling (dest : Dest) (got : List Byte)
  | skipping
  | working (dest : Dest) (kind : Byte) (payload : List Byte) (check : Byte)
  | replying
deriving DecidableEq, Repr

/-- The Line Interface: the sampled straps (R167), its state, and the reply being sent. The reply stays readable after its
last character as the last thing the part put on the line (log entry 5). -/
structure LineInterface where
  dropAddress : Nat
  rate : LineRate
  state : LineState
  reply : Option Reply
deriving DecidableEq, Repr

/-! ### Expiries to be taken at once -/

/-- An expiry by its owner: Run Control's of a booking, the Host Power Unit's, a viewer hold's, the Guide Store's. -/
inductive Due where
  | windowStart (booking : Nat)
  | lateLimit (booking : Nat)
  | takeDeadline (booking : Nat)
  | confirmTimer (booking : Nat)
  | provisionalEnd (booking : Nat)
  | wake
  | wakeTimer
  | warning (tuner : TunerId)
  | scan
deriving DecidableEq, Repr

/-! ### The whole state -/

/-- The state of the part. `pending` is the queue of commands that wait, first in, first out. `agenda` holds the expiries
that the event now being worked on must take at once (R1, R90); it is empty between commands. -/
structure State where
  pending : List Instr
  powered : Bool
  resetLow : Bool
  present : Nat
  clockSet : Bool
  settings : Settings
  services : List Service
  tunerA : Tuner
  tunerB : Tuner
  guide : GuideStore
  requests : List Request
  plan : Planner
  run : RunControl
  host : HostRecord
  panel : Panel
  outbox : Outbox
  alerts : AlertTable
  image : ImageStore
  line : LineInterface
  agenda : List Due
deriving DecidableEq, Repr

/-- The spec describes nothing that stops the machine, so no meaning raises a fault and this type has no constructor. -/
inductive Fault where
deriving DecidableEq, Repr

/-- Refusals of a command by the model. -/
inductive Refusal where
  /-- Raised by an arm of `exec` whose command has no meaning yet; safe, since it stops the run. No arm raises it. -/
  | notModelled (mnemonic : String)
deriving DecidableEq, Repr

/-! ### Reset values -/

/-- The defaults of section 10.6. -/
def Settings.defaults : Settings where
  horizonDays := 8
  prePad := 60
  postPad := 180
  overrunLimit := 3600
  lateLimit := 600
  wakeLead := 120
  wakeTimeout := 240
  confirmTimeout := 20
  warnLead := 90
  stalePeriod := 172800
  localOffset := 0
  maintFrom := 10800
  maintTo := 12600
  viewerTier := 2
  tierMap := [0, 0, 0, 0, 1, 1, 1, 1, 2, 2, 2, 2, 3, 3, 3, 3]
  kindCeiling := [3, 3, 3]
  rateClass := [300, 700, 1250, 2500]
  spaceReserve := 2000
  strictSpace := false

/-- A tuner's defaults (R17). -/
def TunerConfig.defaults : TunerConfig := ⟨true, 0xF⟩

/-- The default staged patterns (R147). -/
def StagedPatterns.defaults : StagedPatterns :=
  ⟨⟨0b0001, true⟩, ⟨0b0000, true⟩, ⟨0b0010, true⟩, ⟨0b0100, true⟩⟩

def EdgeFlags.clear : EdgeFlags := ⟨false, false, false, false⟩
def LevelFlags.clear : LevelFlags := ⟨false, false, false, false⟩

/-- All masks clear (R160). -/
def AlertMasks.clear : AlertMasks := ⟨EdgeFlags.clear, LevelFlags.clear⟩

/-- The Guide Store empty and its stream CLOSED, with no scan held (R29, R32, R47, R50). -/
def GuideStore.empty : GuideStore := ⟨[], none, false, false, false, none, false⟩

/-- The Booking List empty, its counter 1, the occupancy empty, the free space unknown (R70, R72, R86, R89, R107). -/
def Planner.empty : Planner := ⟨[], 1, false, [], none⟩

/-- The host record at power-on (R137, R138). -/
def HostRecord.powerOn : HostRecord := ⟨.unknown, none, .none, none, none, none, .none, false⟩

/-- Right after power-on with no image in flash (R178, R186): the level sources have been sampled, so one STORE_STALE
notice waits (R166). The straps and the flash are the model's choice (log entry 1). -/
def State.reset : State where
  pending := []
  powered := true
  resetLow := false
  present := 0
  clockSet := false
  settings := Settings.defaults
  services := []
  tunerA := ⟨true, 0xF, none⟩
  tunerB := ⟨true, 0xF, none⟩
  guide := GuideStore.empty
  requests := []
  plan := Planner.empty
  run := ⟨false, 0⟩
  host := HostRecord.powerOn
  panel := ⟨0, StagedPatterns.defaults⟩
  outbox := ⟨[], [.storeStale .absent], 0, true⟩
  alerts := ⟨AlertMasks.clear, ⟨false, false, false, true⟩, 0, 0, false, false, .absent⟩
  image := ⟨.absent, false, .none, none, none, none⟩
  line := ⟨14, .baud57600, .idle, none⟩
  agenda := []

end Sys2Proof.Machine
end

