-- ==== Sys2Proof/Machine/Ops.lean ====
section
/-! DEFINITION. The named operations over the tables of the part: reading, changing and reordering them. -/

namespace Sys2Proof.Machine

/-! ### Lists in order -/

/-- `x` put before the first element that `before` does not put ahead of it. -/
def insertBy {α : Type} (before : α → α → Bool) (x : α) : List α → List α
  | [] => [x]
  | y :: ys => if before x y then x :: y :: ys else y :: insertBy before x ys

/-- A list put in the order of `before`; equal elements keep their order. -/
def sortBy {α : Type} (before : α → α → Bool) : List α → List α
  | [] => []
  | x :: xs => insertStable x (sortBy before xs)
where
  /-- `x` put after nothing it ties with: it stood before the others. -/
  insertStable (x : α) : List α → List α
    | [] => [x]
    | y :: ys => if before y x then y :: insertStable x ys else x :: y :: ys

/-- A list without repeats, the first of equals kept. -/
def dedupe {α : Type} [DecidableEq α] : List α → List α
  | [] => []
  | x :: xs => x :: (dedupe xs).filter (fun y => y ≠ x)

/-- The first element that no other comes before in the order of `before`. -/
def firstBy {α : Type} (before : α → α → Bool) : List α → Option α
  | [] => none
  | x :: xs =>
    match firstBy before xs with
    | none => some x
    | some y => if before y x then some y else some x

/-- The lowest number from `n` up, within `fuel` steps, that is not taken. -/
def lowestFree (taken : List Nat) : Nat → Nat → Option Nat
  | 0, _ => none
  | fuel + 1, n => if taken.contains n then lowestFree taken fuel (n + 1) else some n

/-! ### Whether the part runs -/

/-- The part acts: its supply is present and RESET_N is high (R167, R184). -/
def State.running (s : State) : Bool := s.powered && !s.resetLow

/-! ### Writing one block's state -/

def State.withTuner (s : State) (t : TunerId) (x : Tuner) : State :=
  match t with
  | .a => { s with tunerA := x }
  | .b => { s with tunerB := x }

def State.withEntries (s : State) (es : List GuideEntry) : State :=
  { s with guide := { s.guide with entries := es } }

def State.withBookings (s : State) (bs : List Booking) : State :=
  { s with plan := { s.plan with bookings := bs } }

def State.withDirectives (s : State) (ds : List Directive) : State :=
  { s with outbox := { s.outbox with directives := ds } }

/-! ### Services and tuners -/

/-- The service record of a channel (R12). -/
def State.service? (s : State) (channel : Nat) : Option Service :=
  s.services.find? (fun v => v.channel == channel)

/-- Whether a channel has a service record. -/
def State.hasService (s : State) (channel : Nat) : Bool :=
  s.services.any (fun v => v.channel == channel)

/-- The multiplex of a channel's service; a channel in a booking always has a record (R13, R14). -/
def State.multiplexOf (s : State) (channel : Nat) : Nat :=
  match s.service? channel with
  | some v => v.multiplex
  | none => 0

/-- The network of a channel's service. -/
def State.networkOf (s : State) (channel : Nat) : Nat :=
  match s.service? channel with
  | some v => v.network
  | none => 0

def State.tuner (s : State) : TunerId → Tuner
  | .a => s.tunerA
  | .b => s.tunerB

/-- A tuner may carry a service of this network: it is enabled and its mask contains the network (R17). -/
def Tuner.reaches (t : Tuner) (network : Nat) : Bool := t.enabled && t.mask.getLsbD network

/-- Tuner A has index 0, tuner B index 1 (R17). -/
def tunerIndex : TunerId → Nat
  | .a => 0
  | .b => 1

def tunerOfIndex : Nat → Option TunerId
  | 0 => some .a
  | 1 => some .b
  | _ => none

/-! ### The guide -/

/-- The end of an entry (R28). -/
def GuideEntry.stop (e : GuideEntry) : Nat := e.start + e.duration

/-- The entry with a key (R28). -/
def State.entry? (s : State) (channel eventId : Nat) : Option GuideEntry :=
  s.guide.entries.find? (fun e => e.channel == channel && e.eventId == eventId)

/-- The entry in a guide slot (R29). -/
def State.entryAt? (s : State) (slot : Nat) : Option GuideEntry :=
  s.guide.entries.find? (fun e => e.slot == slot)

/-- The entry in a slot changed by `f`. -/
def State.mapEntry (s : State) (slot : Nat) (f : GuideEntry → GuideEntry) : State :=
  s.withEntries (s.guide.entries.map (fun e => if e.slot == slot then f e else e))

/-- Earlier by start, then by channel, then by event id (R82, R104). -/
def airsBefore (e f : GuideEntry) : Bool :=
  e.start < f.start || (e.start == f.start && (e.channel < f.channel ||
    (e.channel == f.channel && e.eventId < f.eventId)))

/-- The guide slot a key names, if it names one. -/
def OccurrenceKey.slot? : OccurrenceKey → Option Nat
  | .guideSlot n => some n
  | .localDay _ => none

/-- The pin count of the entry a booking names, one up (R30). -/
def State.pinUp (s : State) (key : OccurrenceKey) : State :=
  match key with
  | .guideSlot n => s.mapEntry n (fun e => { e with pins := e.pins + 1 })
  | .localDay _ => s

/-- The pin count of the entry a booking names, one down (R30). -/
def State.pinDown (s : State) (key : OccurrenceKey) : State :=
  match key with
  | .guideSlot n => s.mapEntry n (fun e => { e with pins := e.pins - 1 })
  | .localDay _ => s

/-- A request number put in its place in a settled set (R31). -/
def settleFor (request : Nat) (settled : List Nat) : List Nat :=
  if settled.contains request then settled else insertBy (fun a b => a < b) request settled

/-! ### Requests -/

/-- The request in a slot (R51). -/
def State.request? (s : State) (number : Nat) : Option Request :=
  s.requests.find? (fun r => r.number == number)

/-- The request in a slot changed by `f`. -/
def State.mapRequest (s : State) (number : Nat) (f : Request → Request) : State :=
  { s with requests := s.requests.map (fun r => if r.number == number then f r else r) }

/-- The channel a request names; 0 when it names none (R14, R53). -/
def Request.channel (r : Request) : Nat :=
  match r.kind with
  | .timed f => f.channel
  | .event f => f.channel
  | .series f => f.channel

def Request.isSeries (r : Request) : Bool :=
  match r.kind with
  | .series _ => true
  | _ => false

/-- A single TIMED request (R52). -/
def Request.isSingle (r : Request) : Bool :=
  match r.kind with
  | .timed f => f.days == 0
  | _ => false

/-- The ACCURATE flag; a TIMED request has none (R52). -/
def Request.accurate (r : Request) : Bool :=
  match r.kind with
  | .timed _ => false
  | .event f => f.accurate
  | .series f => f.accurate

/-- The place of a request's kind in KIND_CEILING (R56). -/
def RequestKind.index : RequestKind → Nat
  | .timed _ => 0
  | .event _ => 1
  | .series _ => 2

/-- The tier of a request (R56). -/
def tierOf (set : Settings) (r : Request) : Nat :=
  min (set.tierMap.getD r.importance 0) (set.kindCeiling.getD r.kind.index 0)

/-- The pads in force of a request (R58). -/
def prePadOf (set : Settings) (r : Request) : Nat := r.prePad.getD set.prePad
def postPadOf (set : Settings) (r : Request) : Nat := r.postPad.getD set.postPad

/-- The loss count a booking ranks by (R95). -/
def State.lossOf (s : State) (request : Nat) : Nat :=
  match s.request? request with
  | some r => r.loss
  | none => 0

/-- A request removed from the table, and its number from every settled set (R69, R31). -/
def State.removeRequest (s : State) (number : Nat) : State :=
  { s with
    requests := s.requests.filter (fun r => r.number != number)
    guide := { s.guide with
      entries := s.guide.entries.map (fun e => { e with settled := e.settled.filter (fun n => n != number) }) } }

/-! ### Bookings -/

/-- List order: by window start, then by booking number (R70). -/
def listBefore (b c : Booking) : Bool :=
  b.winStart < c.winStart || (b.winStart == c.winStart && b.number < c.number)

def State.booking? (s : State) (number : Nat) : Option Booking :=
  s.plan.bookings.find? (fun b => b.number == number)

/-- A booking changed by `f`, which keeps its window start. -/
def State.mapBooking (s : State) (number : Nat) (f : Booking → Booking) : State :=
  s.withBookings (s.plan.bookings.map (fun b => if b.number == number then f b else b))

/-- Every booking that is in a state. -/
def State.inState (s : State) (st : BookingState) : List Booking :=
  s.plan.bookings.filter (fun b => b.state == some st)

/-- Open: PLANNED or CLASHED, or not yet given a state (R73). -/
def Booking.isOpen (b : Booking) : Bool :=
  b.state == none || b.state == some .planned || b.state == some .clashed

/-- Held: LATE, DUE, STARTING or RECORDING (R73); such a booking is a fixed occupant (R93). -/
def Booking.isHeld (b : Booking) : Bool :=
  b.state == some .late || b.state == some .due || b.state == some .starting || b.state == some .recording

/-- Running: DUE, STARTING or RECORDING (spec 00 section 1.5). -/
def Booking.isRunning (b : Booking) : Bool :=
  b.state == some .due || b.state == some .starting || b.state == some .recording

/-- PLANNED, CLASHED or LATE: what REQ_PAUSE and REQ_DROP remove (R61, R63). -/
def Booking.isWaiting (b : Booking) : Bool :=
  b.state == some .planned || b.state == some .clashed || b.state == some .late

def Booking.onTuner (b : Booking) (t : TunerId) : Bool :=
  match b.place with
  | some p => p.tuner == t
  | none => false

/-- The live bookings of a request. -/
def State.liveOf (s : State) (request : Nat) : List Booking :=
  s.plan.bookings.filter (fun b => b.request == request)

/-- Whether a booking's request is a SERIES request. -/
def State.isSeriesBooking (s : State) (b : Booking) : Bool :=
  match s.request? b.request with
  | some r => r.isSeries
  | none => false

/-- A channel is in use (R13): a booking in LATE, DUE, STARTING or RECORDING carries it, or a viewer hold is on it. -/
def State.channelInUse (s : State) (channel : Nat) : Bool :=
  s.plan.bookings.any (fun b => b.isHeld && b.channel == channel)
    || [s.tunerA, s.tunerB].any (fun t => match t.hold with
      | some h => h.channel == channel
      | none => false)

/-- Bookings removed silently: no outcome, no notice, no report; their entries' pin counts fall (R61, R83). -/
def State.removeSilently (s : State) (p : Booking → Bool) : State :=
  let gone := s.plan.bookings.filter p
  gone.foldl (fun t b => t.pinDown b.key) (s.withBookings (s.plan.bookings.filter (fun b => !p b)))

/-! ### Windows (R91) -/

/-- The window start and planned window end of a programme with these pads. -/
def windowOf (start duration pre post : Nat) : Nat × Nat :=
  let ws := start - pre
  let we := min (start + duration + post) Config.maxTime
  (ws, if we - ws > Config.maxWindow then ws + Config.maxWindow else we)

/-- A booking that is not held, with its window formed afresh from its programme and its request's pads. -/
def Booking.formWindow (set : Settings) (r : Request) (b : Booking) : Booking :=
  let w := windowOf b.progStart b.progDuration (prePadOf set r) (postPadOf set r)
  { b with winStart := w.1, winEnd := w.2, provEnd := w.2 }

/-- The late limit of a booking (R112). -/
def lateLimitOf (set : Settings) (b : Booking) : Nat := min (b.winStart + set.lateLimit) b.winEnd

/-- The take deadline of a booking that became DUE at `dueAt` (R112). -/
def takeDeadlineOf (set : Settings) (b : Booking) (dueAt : Nat) : Nat :=
  min (max (lateLimitOf set b) (dueAt + set.confirmTimeout)) b.winEnd

/-- The cap of a booking's provisional end (R126). -/
def capOf (set : Settings) (b : Booking) : Nat := min (b.winEnd + set.overrunLimit) Config.maxTime

/-- The end of the horizon (R75). -/
def horizonEnd (s : State) : Nat :=
  min (s.present + s.settings.horizonDays * Config.daySeconds) Config.maxTime

/-! ### Expiries to be taken at once -/

/-- An expiry whose instant lies at or before the present when its owner sets it is to be taken at once (R1). -/
def State.atOnce (s : State) (d : Due) (t : Nat) : State :=
  if t ≤ s.present then { s with agenda := s.agenda ++ [d] } else s

end Sys2Proof.Machine
end

