-- ==== Sys2Proof/Machine/Flags.lean ====
section
/-! DEFINITION. The status flags and queues the part shows the host: the attention line, the notice queue, the alert
table, the panel lines, and the image state that every change of stored content marks. -/

namespace Sys2Proof.Machine

/-! ### The attention line (R158) -/

/-- Asserted exactly when attention is enabled and a queue holds something; released while the part does not run. -/
def State.attention (s : State) : Bool :=
  s.running && s.outbox.attnEnable && (!s.outbox.directives.isEmpty || !s.outbox.notices.isEmpty)

/-! ### Sources (R160) -/

/-- The source a notice reports. -/
def Notice.source : Notice → Source
  | .clashNew .. => .edge .clashNew
  | .clashPresent .. => .level .clashPresent
  | .viewWarn .. => .edge .viewWarn
  | .spaceShort .. => .level .spaceShort
  | .bookingEnd .. => .edge .bookingEnd
  | .capacity .. => .level .capacity
  | .storeStale .. => .level .storeStale
  | .wakeFailed .. => .edge .wakeFailed

/-- The number of a source on the line. -/
def Source.number : Source → Nat
  | .edge .clashNew => 1
  | .level .clashPresent => 2
  | .edge .viewWarn => 3
  | .level .spaceShort => 4
  | .edge .bookingEnd => 5
  | .level .capacity => 6
  | .level .storeStale => 7
  | .edge .wakeFailed => 8

def sourceOfNumber : Nat → Option Source
  | 1 => some (.edge .clashNew)
  | 2 => some (.level .clashPresent)
  | 3 => some (.edge .viewWarn)
  | 4 => some (.level .spaceShort)
  | 5 => some (.edge .bookingEnd)
  | 6 => some (.level .capacity)
  | 7 => some (.level .storeStale)
  | 8 => some (.edge .wakeFailed)
  | _ => none

def Notice.isEdge (n : Notice) : Bool :=
  match n.source with
  | .edge _ => true
  | .level _ => false

def EdgeFlags.get (f : EdgeFlags) : EdgeSource → Bool
  | .clashNew => f.clashNew
  | .viewWarn => f.viewWarn
  | .bookingEnd => f.bookingEnd
  | .wakeFailed => f.wakeFailed

def EdgeFlags.put (f : EdgeFlags) (e : EdgeSource) (v : Bool) : EdgeFlags :=
  match e with
  | .clashNew => { f with clashNew := v }
  | .viewWarn => { f with viewWarn := v }
  | .bookingEnd => { f with bookingEnd := v }
  | .wakeFailed => { f with wakeFailed := v }

def LevelFlags.get (f : LevelFlags) : LevelSource → Bool
  | .clashPresent => f.clashPresent
  | .spaceShort => f.spaceShort
  | .capacity => f.capacity
  | .storeStale => f.storeStale

def LevelFlags.put (f : LevelFlags) (l : LevelSource) (v : Bool) : LevelFlags :=
  match l with
  | .clashPresent => { f with clashPresent := v }
  | .spaceShort => { f with spaceShort := v }
  | .capacity => { f with capacity := v }
  | .storeStale => { f with storeStale := v }

def AlertMasks.get (m : AlertMasks) : Source → Bool
  | .edge e => m.edge.get e
  | .level l => m.level.get l

def AlertMasks.put (m : AlertMasks) (x : Source) (v : Bool) : AlertMasks :=
  match x with
  | .edge e => { m with edge := m.edge.put e v }
  | .level l => { m with level := m.level.put l v }

/-! ### The notice queue (R156) -/

/-- The queue without its oldest edge notice; none when it holds no edge notice. -/
def dropOldestEdge : List Notice → Option (List Notice)
  | [] => none
  | n :: ns => if n.isEdge then some ns else (dropOldestEdge ns).map (fun q => n :: q)

/-- A notice joins at the tail; when the queue is full the oldest edge notice gives way and the lost-notice count rises,
no further than 255. A full queue of level notices alone cannot come about (R156); nothing would join it. -/
def State.joinNotice (s : State) (n : Notice) : State :=
  if s.outbox.notices.length < Config.maxNotices then
    { s with outbox := { s.outbox with notices := s.outbox.notices ++ [n] } }
  else
    match dropOldestEdge s.outbox.notices with
    | some q => { s with outbox := { s.outbox with
        notices := q ++ [n]
        lost := min (s.outbox.lost + 1) Config.maxLost } }
    | none => s

/-- An event handed by an edge source's owner: it joins as a notice, or is lost when the source is masked (R161). -/
def State.edgeEvent (s : State) (n : Notice) : State :=
  if s.alerts.masks.get n.source then s else s.joinNotice n

/-! ### Level sources (R162, R163) -/

/-- The condition of a level source, judged from its held value (R163). -/
def AlertTable.condition (t : AlertTable) : LevelSource → Bool
  | .clashPresent => t.clashCount > 0
  | .spaceShort => t.spaceCount > 0
  | .capacity => t.guideFull || t.listShort
  | .storeStale => t.image != .current

/-- The notice a level source gives: its held value. -/
def AlertTable.notice (t : AlertTable) : LevelSource → Notice
  | .clashPresent => .clashPresent t.clashCount
  | .spaceShort => .spaceShort t.spaceCount
  | .capacity => .capacity t.guideFull t.listShort
  | .storeStale => .storeStale t.image

/-- One sampling queues a notice: the condition is true, the mask clear and the source not in service (R162). -/
def State.samplingQueues (s : State) (l : LevelSource) : Bool :=
  s.alerts.condition l && !s.alerts.masks.level.get l && !s.alerts.inService.get l

/-- A sampling of a level source (R162). -/
def State.sample (s : State) (l : LevelSource) : State :=
  if s.samplingQueues l then
    { s.joinNotice (s.alerts.notice l) with
      alerts := { s.alerts with inService := s.alerts.inService.put l true } }
  else s

/-- The Planner's report of the count of CLASHED bookings (R103). -/
def State.reportClashes (s : State) (n : Nat) : State :=
  State.sample { s with alerts := { s.alerts with clashCount := n } } .clashPresent

/-- The Planner's report of the count of flagged bookings (R109). -/
def State.reportSpace (s : State) (n : Nat) : State :=
  State.sample { s with alerts := { s.alerts with spaceCount := n } } .spaceShort

/-- The guide-full flag set or cleared; a change is reported to CAPACITY (R50). -/
def State.setGuideFull (s : State) (v : Bool) : State :=
  if s.guide.full = v then s
  else State.sample { s with
    guide := { s.guide with full := v }
    alerts := { s.alerts with guideFull := v } } .capacity

/-- The list-short flag set or cleared; a change is reported to CAPACITY (R86). -/
def State.setListShort (s : State) (v : Bool) : State :=
  if s.plan.listShort = v then s
  else State.sample { s with
    plan := { s.plan with listShort := v }
    alerts := { s.alerts with listShort := v } } .capacity

/-! ### The image state and changes of stored content (R181) -/

/-- The image state changed, and the change reported to the Alert Unit (R181). -/
def State.setImageState (s : State) (st : ImageState) : State :=
  if s.image.state = st then s
  else State.sample { s with
    image := { s.image with state := st }
    alerts := { s.alerts with image := st } } .storeStale

/-- A save is in progress (R180). -/
def State.saving (s : State) : Bool :=
  s.image.state == .savingErase || s.image.state == .savingWrite

/-- The stored content as the part now holds it (R180); a DROPPING request is not in it. -/
def State.storedContent (s : State) : StoredContent where
  settings := s.settings
  services := s.services
  tunerA := ⟨s.tunerA.enabled, s.tunerA.mask⟩
  tunerB := ⟨s.tunerB.enabled, s.tunerB.mask⟩
  requests := s.requests.filter (fun r => r.state != .dropping)
  masks := s.alerts.masks
  attnEnable := s.outbox.attnEnable
  staged := s.panel.staged

/-- The Image Store's act at a change of stored content (R181). -/
def State.markChanged (s : State) : State :=
  match s.image.state with
  | .current => s.setImageState .stale
  | .savingErase => { s with image := { s.image with changedInSave := true } }
  | .savingWrite => { s with image := { s.image with changedInSave := true } }
  | .stale => s
  | .absent => s
  | .failed => s

/-- `t` is the state after work that may have changed stored content held before it; a change that leaves the value as it
was is not a change (R181). -/
def State.noteChange (before : StoredContent) (t : State) : State :=
  if t.storedContent = before then t else t.markChanged

/-- Work `f` on stored content, followed by the Image Store's act if the content changed. -/
def State.changing (s : State) (f : State → State) : State :=
  State.noteChange s.storedContent (f s)

/-! ### The panel lines (R148) -/

def StagedPatterns.get (p : StagedPatterns) : Trigger → Staged
  | .recFirst => p.recFirst
  | .recLast => p.recLast
  | .wake => p.wake
  | .rest => p.rest

def StagedPatterns.put (p : StagedPatterns) (t : Trigger) (v : Staged) : StagedPatterns :=
  match t with
  | .recFirst => { p with recFirst := v }
  | .recLast => { p with recLast := v }
  | .wake => { p with wake := v }
  | .rest => { p with rest := v }

/-- A trigger: all four lines take its staged pattern when it is enabled (R148). -/
def State.applyTrigger (s : State) (t : Trigger) : State :=
  if (s.panel.staged.get t).enable then
    { s with panel := { s.panel with lines := (s.panel.staged.get t).pattern } }
  else s

/-- The recording count takes a new value and is handed to the Panel Output Unit: 0 to 1 is REC_FIRST, 1 to 0 is REC_LAST
(R111, R148). -/
def State.setRecordings (s : State) (n : Nat) : State :=
  let t := { s with run := { s.run with recordings := n } }
  if s.run.recordings = 0 ∧ n = 1 then t.applyTrigger .recFirst
  else if s.run.recordings = 1 ∧ n = 0 then t.applyTrigger .recLast
  else t

/-! ### The directive queue (R152 to R154) -/

/-- A directive joins the tail. -/
def State.queueDirective (s : State) (d : Directive) : State :=
  s.withDirectives (s.outbox.directives ++ [d])

/-- A BEGIN for this booking. -/
def Directive.isBeginFor (number : Nat) : Directive → Bool
  | .beginRec f => f.booking == number
  | _ => false

/-- A YIELD for this tuner. -/
def Directive.isYieldFor (t : TunerId) : Directive → Bool
  | .yieldTuner u _ => u == t
  | _ => false

/-- A BEGIN withdrawn from wherever it stands (R153). -/
def State.withdrawBegin (s : State) (number : Nat) : State :=
  s.withDirectives (s.outbox.directives.filter (fun d => !d.isBeginFor number))

/-- A YIELD queued; an untaken YIELD for the same tuner is removed from its place (R154). -/
def State.queueYield (s : State) (t : TunerId) (number : Nat) : State :=
  s.withDirectives (s.outbox.directives.filter (fun d => !d.isYieldFor t) ++ [.yieldTuner t number])

end Sys2Proof.Machine
end

