-- ==== Sys2Proof/Machine/LocalTime.lean ====
section
/-! DEFINITION. Local time and daily windows (R6 to R10). -/

namespace Sys2Proof.Machine

/-- LOCAL_OFFSET in seconds (R6). -/
def offsetSeconds (set : Settings) : Int := set.localOffset * 900

/-- The local sum of a station time: a signed number that does not wrap (R7). `s` may be one second before time 0, for
the search of R10. -/
def localSum (set : Settings) (s : Int) : Int := s + offsetSeconds set

/-- The local day of a station time, rounded toward minus infinity (R7). -/
def localDay (set : Settings) (s : Int) : Int := localSum set s / Config.daySeconds

/-- The time of day of a station time (R7). -/
def timeOfDay (set : Settings) (s : Int) : Nat := (localSum set s % Config.daySeconds).toNat

/-- The weekday of a local day, 0 for Monday (R7). -/
def weekday (day : Int) : Nat := ((day + 5) % 7).toNat

/-- A computed instant brought into station time (R8). -/
def clampTime (t : Int) : Nat := min t.toNat Config.maxTime

/-- The station time of time of day `t` on local day `day` (R8). -/
def dayInstant (set : Settings) (day : Int) (t : Nat) : Nat :=
  clampTime (day * Config.daySeconds - offsetSeconds set + t)

/-- Whether a time of day lies inside the daily window from `fromT` to before `toT` (R9). -/
def insideWindow (fromT toT t : Nat) : Bool :=
  if fromT < toT then fromT ≤ t && t < toT
  else if fromT > toT then t ≥ fromT || t < toT
  else false

/-- The next start of a daily window after `s` (R10); none when the window is disabled. -/
def nextWindowStart (set : Settings) (fromT toT : Nat) (s : Int) : Option Nat :=
  if fromT = toT then none
  else
    let day := localDay set s
    some (dayInstant set (if timeOfDay set s < fromT then day else day + 1) fromT)

/-- The next start of the maintenance window at or after the present, as the Host Power Unit asks for it (R10, R141). -/
def nextMaintenance (s : State) : Option Nat :=
  nextWindowStart s.settings s.settings.maintFrom s.settings.maintTo ((s.present : Int) - 1)

end Sys2Proof.Machine
end

