-- ==== Sys2Proof/Machine/Derive.lean ====
section
/-! DEFINITION. The Booking Deriver (chapter 5): the wanted set, and the Booking List brought into line with it. -/

namespace Sys2Proof.Machine

/-- An occurrence of the wanted set with the values its booking should carry (R77). -/
structure Occurrence where
  request : Nat
  key : OccurrenceKey
  start : Nat
  duration : Nat
  channel : Nat
  episode : Option Nat
deriving DecidableEq, Repr

/-- Within reach: it ends after the present and starts before the horizon end (R77). -/
def withinReach (s : State) (start duration : Nat) : Bool :=
  start + duration > s.present && start < horizonEnd s

/-- The occurrence a guide entry is for a request (R80, R81). -/
def entryOccurrence (request : Nat) (e : GuideEntry) : Occurrence :=
  ⟨request, .guideSlot e.slot, e.start, e.duration, e.channel, e.episode⟩

/-! ### The wanted set (R76 step 2) -/

/-- The occurrence of a single TIMED request (R78). -/
def wantedSingle (s : State) (number : Nat) (f : TimedFields) : List Occurrence :=
  if withinReach s f.start f.duration then
    [⟨number, .localDay (localDay s.settings f.start), f.start, f.duration, f.channel, none⟩]
  else []

/-- The local days examined for a repeating TIMED request: from the one before the present's to the horizon end's (R79). -/
def daysExamined (s : State) : List Int :=
  let first := localDay s.settings s.present - 1
  let last := localDay s.settings (horizonEnd s)
  (List.range (last - first + 1).toNat).map (fun (i : Nat) => first + (i : Int))

/-- A repeating TIMED request wants an occurrence on day `d`, reach apart (R79). -/
def wantsDay (f : TimedFields) (d : Int) : Bool :=
  f.days.getLsbD (weekday d) && !f.skip.contains d &&
    (match f.settledDay with
      | none => true
      | some sd => d > sd)

/-- The occurrences of a repeating TIMED request (R79). -/
def wantedRepeating (s : State) (number : Nat) (f : TimedFields) : List Occurrence :=
  (daysExamined s).filterMap (fun d =>
    let start := dayInstant s.settings d f.start
    if wantsDay f d && withinReach s start f.duration then
      some ⟨number, .localDay d, start, f.duration, f.channel, none⟩
    else none)

/-- The occurrence of an EVENT request (R80). -/
def wantedEvent (s : State) (number : Nat) (f : EventFields) : List Occurrence :=
  match s.entry? f.channel f.eventId with
  | none => []
  | some e =>
    if !e.withdrawn && !e.settled.contains number && s.hasService e.channel && withinReach s e.start e.duration then
      [entryOccurrence number e]
    else []

/-- The qualifying entries of a SERIES request (R81). -/
def qualifying (s : State) (number : Nat) (f : SeriesFields) : List GuideEntry :=
  s.guide.entries.filter (fun e =>
    e.series == some f.seriesId
      && (if f.channel = 0 then s.hasService e.channel else e.channel == f.channel)
      && !e.withdrawn && !e.settled.contains number && withinReach s e.start e.duration)

/-- The entry wanted of a group of one episode id, if any (R82). -/
def wantedOfGroup (s : State) (number : Nat) (f : SeriesFields) (group : List GuideEntry) (id : Nat) :
    Option GuideEntry :=
  let own := s.liveOf number
  if f.newOnly && f.history.contains id then none
  else if own.any (fun b => b.isHeld && b.episode == some id) then none
  else
    let named := group.filter (fun e => own.any (fun b => b.isOpen && b.key == .guideSlot e.slot))
    if named.isEmpty then firstBy airsBefore group else firstBy airsBefore named

/-- The occurrences of a SERIES request: every qualifying entry without an episode id, and one of each group (R81, R82). -/
def wantedSeries (s : State) (number : Nat) (f : SeriesFields) : List Occurrence :=
  let q := qualifying s number f
  let plain := q.filter (fun e => e.episode == none)
  let ids := dedupe (q.filterMap (fun e => e.episode))
  let chosen := ids.filterMap (fun id =>
    wantedOfGroup s number f (q.filter (fun e => e.episode == some id)) id)
  (plain ++ chosen).map (entryOccurrence number)

/-- What one request wants; a PAUSED or DROPPING request wants nothing (R76). -/
def wantedOf (s : State) (r : Request) : List Occurrence :=
  if r.state = .active then
    match r.kind with
    | .timed f => if f.days = 0 then wantedSingle s r.number f else wantedRepeating s r.number f
    | .event f => wantedEvent s r.number f
    | .series f => wantedSeries s r.number f
  else []

/-- The wanted set. -/
def wantedSet (s : State) : List Occurrence :=
  (s.requests.map (wantedOf s)).flatten

/-- A live booking serves an occurrence (R77): same request and key; a booking of a single TIMED request, whose key is a local
day, serves its one occurrence whatever the day. -/
def serves (s : State) (b : Booking) (o : Occurrence) : Bool :=
  b.request == o.request &&
    (b.key == o.key || (b.key.slot?.isNone && (match s.request? o.request with
      | some r => r.isSingle
      | none => false)))

/-! ### The steps of a derivation (R76) -/

/-- Step 1: days at or before the settled day leave the skip lists (R68). -/
def pruneSkips (s : State) : State :=
  s.changing (fun t => { t with requests := t.requests.map (fun r =>
    match r.kind with
    | .timed f =>
      (match f.settledDay with
        | some sd => { r with kind := .timed { f with skip := f.skip.filter (fun d => d > sd) } }
        | none => r)
    | _ => r) })

/-- Step 3: open bookings whose occurrence is not wanted leave silently (R83). -/
def removeUnwanted (wanted : List Occurrence) (s : State) : State :=
  s.removeSilently (fun b => b.isOpen && !wanted.any (serves s b))

/-- An open booking brought up to its occurrence and its request (R84). -/
def updateBooking (set : Settings) (r : Request) (o : Occurrence) (b : Booking) : Booking :=
  Booking.formWindow set r { b with
    key := o.key
    progStart := o.start
    progDuration := o.duration
    episode := o.episode
    tier := tierOf set r
    accurate := r.accurate }

/-- Step 4: the open bookings that remain are updated, and the list put in order again (R84, R70). -/
def updateOpen (wanted : List Occurrence) (s : State) : State :=
  s.withBookings (sortBy listBefore (s.plan.bookings.map (fun b =>
    if b.isOpen then
      match wanted.find? (serves s b), s.request? b.request with
      | some o, some r => updateBooking s.settings r o b
      | _, _ => b
    else b)))

/-- The number after `n` for the booking-number counter: 65,535 is followed by 1 (R72). -/
def nextNumber (n : Nat) : Nat := if n ≥ Config.maxBookingNumber then 1 else n + 1

/-- The first number from the counter on that no live booking holds (R72). At most 240 are held, so 241 tries do. -/
def freeNumber (held : List Nat) : Nat → Nat → Nat
  | 0, n => n
  | fuel + 1, n => if held.contains n then freeNumber held fuel (nextNumber n) else n

/-- The booking number the next creation takes (R72). -/
def State.newNumber (s : State) : Nat :=
  freeNumber (s.plan.bookings.map Booking.number) (Config.maxBookings + 1) s.plan.counter

/-- The booking created for an occurrence (R85). -/
def newBooking (set : Settings) (r : Request) (o : Occurrence) (number : Nat) : Booking :=
  Booking.formWindow set r
    { number := number, request := o.request, key := o.key, channel := o.channel
      progStart := o.start, progDuration := o.duration, winStart := 0, winEnd := 0, provEnd := 0
      tier := tierOf set r, state := none, place := none
      alternate := false, spaceShort := false, accurate := r.accurate
      partners := [], episode := o.episode, begun := none, cut := none, dueAt := none
      windowExpiry := none, lateExpiry := none, takeExpiry := none, confirmExpiry := none, provExpiry := none }

/-- A booking enters the list at its place, its entry's pin count rises, and the counter moves past its number
(R70, R30, R72). -/
def State.enterBooking (s : State) (b : Booking) : State :=
  let t := s.pinUp b.key
  { t with plan := { t.plan with
      bookings := insertBy listBefore b t.plan.bookings
      counter := nextNumber b.number } }

/-- The order in which occurrences are created (R86). -/
def OccurrenceKey.before (k l : OccurrenceKey) : Bool :=
  match k, l with
  | .guideSlot m, .guideSlot n => m < n
  | .localDay d, .localDay e => d < e
  | .guideSlot _, .localDay _ => true
  | .localDay _, .guideSlot _ => false

def createBefore (o p : Occurrence) : Bool :=
  o.start < p.start || (o.start == p.start && (o.request < p.request ||
    (o.request == p.request && o.key.before p.key)))

/-- One creation, while the list has room (R85, R86). -/
def createOne (s : State) (o : Occurrence) : State :=
  if s.plan.bookings.length < Config.maxBookings then
    match s.request? o.request with
    | some r => s.enterBooking (newBooking s.settings r o s.newNumber)
    | none => s
  else s

/-- The wanted occurrences no live booking serves, in the order of creation (R86). -/
def unserved (wanted : List Occurrence) (s : State) : List Occurrence :=
  sortBy createBefore (wanted.filter (fun o => !s.plan.bookings.any (fun b => serves s b o)))

/-- Steps 5 and 6: creations, and the list-short flag (R85, R86). -/
def createWanted (wanted : List Occurrence) (s : State) : State :=
  let t := (unserved wanted s).foldl createOne s
  t.setListShort (!(unserved wanted t).isEmpty)

/-- A derivation (R76). It is asked for only while the clock is set (R74). -/
def derive (s : State) : State :=
  let s := pruneSkips s
  let wanted := wantedSet s
  createWanted wanted (updateOpen wanted (removeUnwanted wanted s))

end Sys2Proof.Machine
end

