-- ==== Sys2Proof/Machine/Plan.lean ====
section
/-! DEFINITION. The Planner (chapter 6): the whole plan pass, the space part, and what a pass hands on to Run Control, the
Tuner Table and the Host Power Unit. -/

namespace Sys2Proof.Machine

/-! ### The wake expiry (R141, R142) -/

/-- The instant a PLANNED booking asks the host to be woken at (R141). -/
def wakeInstant (set : Settings) (b : Booking) : Nat := b.winStart - set.wakeLead

/-- The PLANNED bookings that are candidates for the wake expiry, in list order; in WAKE_FAILED only those whose window
starts after the failure instant (R141). -/
def wakeCandidates (s : State) : List Booking :=
  (s.inState .planned).filter (fun b =>
    if s.host.state = .wakeFailed then
      (match s.host.failure with
        | some f => b.winStart > f
        | none => true)
    else true)

/-- The earliest of some instants. -/
def earliest : List Nat → Option Nat
  | [] => none
  | t :: ts =>
    match earliest ts with
    | none => some t
    | some u => some (min t u)

/-- The wake expiry and the cause that goes with it (R141). -/
def computeWake (s : State) : Option Nat × WakeCause :=
  let cs := wakeCandidates s
  match earliest (cs.map (wakeInstant s.settings) ++ (nextMaintenance s).toList) with
  | none => (none, .none)
  | some t =>
    match cs.find? (fun b => wakeInstant s.settings b == t) with
    | some b => (some t, .booking b.number)
    | none => (some t, .maint)

/-- The host states in which a wake expiry is held (R142). -/
def HostState.holdsWake : HostState → Bool
  | .sleeping => true
  | .wakeFailed => true
  | _ => false

/-- The computation of R142: in SLEEPING and WAKE_FAILED the expiry and its cause are replaced, and an expiry at or before
the present is taken at once. -/
def recomputeWake (s : State) : State :=
  if s.host.state.holdsWake then
    let w := computeWake s
    let t := { s with host := { s.host with wakeExpiry := w.1, expiryCause := w.2 } }
    match w.1 with
    | some x => t.atOnce .wake x
    | none => t
  else s

/-! ### Viewer warnings (R23, R24) -/

/-- The warning expiry of a hold that has a yield time and has not been warned, set by R24: none while WARN_LEAD is 0. -/
def warnInstant (set : Settings) (h : ViewerHold) : Option Nat :=
  match h.yieldTime with
  | some y => if !h.warned && set.warnLead > 0 then some (y - set.warnLead) else none
  | none => none

/-- A tuner's hold replaced, its warning expiry taken at once when it lies at or before the present (R24). -/
def State.setWarning (s : State) (t : TunerId) (h : ViewerHold) : State :=
  let w := warnInstant s.settings h
  let u := s.withTuner t { s.tuner t with hold := some { h with warnExpiry := w } }
  match w with
  | some x => u.atOnce (.warning t) x
  | none => u

/-- The Tuner Table's part of a pass: the yield time is compared with the one before (R23). -/
def State.writeYield (s : State) (t : TunerId) (y : Option (Nat × Nat)) : State :=
  match (s.tuner t).hold with
  | none => s
  | some h =>
    let named := { h with yieldTime := y.map Prod.fst, yieldBooking := y.map Prod.snd }
    if named.yieldTime = h.yieldTime then
      s.withTuner t { s.tuner t with hold := some named }
    else s.setWarning t { named with warned := false }

/-! ### Step 1: windows and tiers (R91, R92) -/

/-- A booking's window and tier taken afresh at a pass: an open booking takes both, a LATE one its tier. A running booking keeps
both, its tier too, whatever becomes of its request. DEDUCED (log entry 26): so R56, R92 and R114 say, where R60 has a change of
importance reach a running booking's overrun at the next pass. -/
def refreshBooking (s : State) (b : Booking) : Booking :=
  match s.request? b.request with
  | none => b
  | some r =>
    if b.isOpen then { Booking.formWindow s.settings r b with tier := tierOf s.settings r }
    else if b.state = some .late then { b with tier := tierOf s.settings r }
    else b

def formWindows (s : State) : State :=
  s.withBookings (sortBy listBefore (s.plan.bookings.map (refreshBooking s)))

/-! ### Extents (R93, R96) -/

/-- Whether an extent overlaps the interval from `a` to before `z`. -/
def Extent.overlaps (x : Extent) (a z : Nat) : Bool :=
  x.start < z && (match x.stop with
    | some e => a < e
    | none => true) && (a < z)

/-- The fixed extent of a held booking, when it is not empty (R93). -/
def fixedExtent (s : State) (b : Booking) : Option Extent :=
  match b.isHeld, b.place with
  | true, some p =>
    let stop := min b.winEnd b.provEnd
    if stop ≤ s.present then none
    else some ⟨p.tuner, p.slot, s.multiplexOf b.channel, s.present, some stop, .booking b.number⟩
  | _, _ => none

/-- The overrun portion of a RECORDING booking, at its full extent (R94). -/
def overrunExtent (s : State) (b : Booking) : Option Extent :=
  match b.place with
  | some p =>
    if b.state = some .recording ∧ b.winEnd < b.provEnd ∧ s.present < b.provEnd then
      some ⟨p.tuner, p.slot, s.multiplexOf b.channel, max b.winEnd s.present, some b.provEnd, .booking b.number⟩
    else none
  | none => none

/-- A viewer hold at its full extent: from the present without end (R94). -/
def holdExtent (s : State) (t : TunerId) : Option Extent :=
  (s.tuner t).hold.map (fun h => ⟨t, h.slot, h.multiplex, s.present, none, .hold t⟩)

/-! ### Candidates and rank (R94, R95) -/

inductive Candidate where
  | booking (number : Nat)
  | overrun (number : Nat)
  | hold (tuner : TunerId)
deriving DecidableEq, Repr

/-- The keys of R95. -/
structure Ranked where
  tier : Nat
  isHold : Bool
  loss : Nat
  winStart : Nat
  number : Nat
  candidate : Candidate
deriving DecidableEq, Repr

/-- The rank order (R95): higher tier; then bookings and portions before holds; then higher loss count, earlier window
start, lower booking number. Two holds of equal tier carry their tuner's index as number. -/
def Ranked.before (x y : Ranked) : Bool :=
  if x.tier ≠ y.tier then x.tier > y.tier
  else if x.isHold ≠ y.isHold then !x.isHold
  else if x.loss ≠ y.loss then x.loss > y.loss
  else if x.winStart ≠ y.winStart then x.winStart < y.winStart
  else x.number < y.number

/-- Whether an open booking is a candidate: its window ends after the present, or it has no state yet (R94). -/
def isCandidate (s : State) (b : Booking) : Bool :=
  b.isOpen && (b.winEnd > s.present || b.state == none)

def candidatesOf (s : State) (b : Booking) : List Ranked :=
  (if isCandidate s b then
    [⟨b.tier, false, s.lossOf b.request, b.winStart, b.number, .booking b.number⟩] else [])
  ++ (if (overrunExtent s b).isSome then
    [⟨b.tier, false, s.lossOf b.request, b.winStart, b.number, .overrun b.number⟩] else [])

def holdCandidate (s : State) (t : TunerId) : List Ranked :=
  if (s.tuner t).hold.isSome then [⟨s.settings.viewerTier, true, 0, 0, tunerIndex t, .hold t⟩] else []

/-- The candidates of a pass in rank order. -/
def rankedCandidates (s : State) : List Ranked :=
  sortBy Ranked.before
    ((s.plan.bookings.map (candidatesOf s)).flatten ++ holdCandidate s .a ++ holdCandidate s .b)

/-! ### Fit and placement (R96 to R98) -/

/-- What a booking candidate needs: its service's network and multiplex, and its fit interval. -/
structure Need where
  network : Nat
  multiplex : Nat
  start : Nat
  stop : Nat
deriving DecidableEq, Repr

/-- Some extent on the tuner covers an instant of the interval with another multiplex (R96). -/
def multiplexBlocked (xs : List Extent) (t : TunerId) (n : Need) : Bool :=
  xs.any (fun x => x.tuner == t && x.overlaps n.start n.stop && x.multiplex != n.multiplex)

/-- Some extent on the tuner with this slot overlaps the interval (R96). -/
def slotBlocked (xs : List Extent) (t : TunerId) (n : Need) (slot : Nat) : Bool :=
  xs.any (fun x => x.tuner == t && x.slot == slot && x.overlaps n.start n.stop)

/-- The lowest slot at which the need fits a tuner, if it fits (R96). An empty fit interval fits nowhere (R94). -/
def fitSlot (s : State) (xs : List Extent) (n : Need) (t : TunerId) : Option Nat :=
  if n.start < n.stop && (s.tuner t).reaches n.network && !multiplexBlocked xs t n then
    [0, 1, 2].find? (fun k => !slotBlocked xs t n k)
  else none

/-- A tuner already carries the need's multiplex within the fit interval (R98). -/
def carries (xs : List Extent) (n : Need) (t : TunerId) : Bool :=
  xs.any (fun x => x.tuner == t && x.multiplex == n.multiplex && x.overlaps n.start n.stop)

/-- The placement chosen from one attempt (R98): a tuner already on the multiplex first, then tuner A. -/
def choosePlace (s : State) (xs : List Extent) (n : Need) : Option Place :=
  match fitSlot s xs n .a, fitSlot s xs n .b with
  | some i, some j => if carries xs n .b && !carries xs n .a then some ⟨.b, j⟩ else some ⟨.a, i⟩
  | some i, none => some ⟨.a, i⟩
  | none, some j => some ⟨.b, j⟩
  | none, none => none

/-- The two attempts (R97): against everything, and against everything but the unsettled standing claims. -/
def tryPlace (s : State) (laid claims : List Extent) (n : Need) : Option Place :=
  match choosePlace s (laid ++ claims) n with
  | some p => some p
  | none => choosePlace s laid n

/-! ### The work of step 4 -/

/-- A pass under way: the state, the extents laid so far in order, the unsettled standing claims, the newly CLASHED
bookings in rank order, and the yield times settled. -/
structure Pass where
  state : State
  laid : List Extent
  claims : List Extent
  newly : List Nat
  yieldA : Option (Nat × Nat)
  yieldB : Option (Nat × Nat)
deriving DecidableEq, Repr

def Booking.need (s : State) (b : Booking) : Need :=
  ⟨s.networkOf b.channel, s.multiplexOf b.channel, max b.winStart s.present, b.winEnd⟩

/-- A channel with no service record fits nowhere: no tuner carries it. -/
def placeFor (s : State) (laid claims : List Extent) (channel : Nat) (n : Need) : Option Place :=
  if s.hasService channel then tryPlace s laid claims n else none

/-- The extent a placed booking adds (R98). -/
def placedExtent (p : Place) (n : Need) (number : Nat) : Extent :=
  ⟨p.tuner, p.slot, n.multiplex, n.start, some n.stop, .booking number⟩

/-- The clash partners (R101): bookings whose extents overlap the fit interval on each enabled tuner with the network, in
the order laid, each once, the first three. -/
def partnersOf (s : State) (laid : List Extent) (n : Need) : List Nat :=
  (dedupe (laid.filterMap (fun x =>
    match x.claimant with
    | .booking m => if (s.tuner x.tuner).reaches n.network && x.overlaps n.start n.stop then some m else none
    | .hold _ => none))).take 3

/-- The first instant at or after `a` at which a laid extent on the same tuner overlaps a claim running from `a` to
`stop` and names another multiplex or holds its slot, with the claimant of the extent laid first among those (R99, R100). -/
def firstConflict (laid : List Extent) (t : TunerId) (slot multiplex a : Nat) (stop : Option Nat) :
    Option (Nat × Claimant) :=
  firstBy (fun x y => x.1 < y.1) (laid.filterMap (fun x =>
    if x.tuner == t && (x.multiplex != multiplex || x.slot == slot)
        && (match stop with
          | some z => x.overlaps a z
          | none => (match x.stop with
            | some e => a < e
            | none => true)) then
      some (max x.start a, x.claimant)
    else none))

/-- The candidate airings of a clashed SERIES booking (R104), in the order they are tried. -/
def candidateAirings (s : State) (r : Request) (f : SeriesFields) (episode : Nat) : List GuideEntry :=
  sortBy airsBefore (s.guide.entries.filter (fun e =>
    e.series == some f.seriesId && e.episode == some episode
      && (if f.channel = 0 then s.hasService e.channel else e.channel == f.channel)
      && !e.withdrawn && !e.settled.contains r.number && e.pins == 0
      && e.start > s.present && e.start < horizonEnd s))

/-- The first candidate airing that fits, with its placement and need (R104). -/
def findAiring (s : State) (laid claims : List Extent) (r : Request) :
    List GuideEntry → Option (GuideEntry × Place × Need)
  | [] => none
  | e :: es =>
    let w := windowOf e.start e.duration (prePadOf s.settings r) (postPadOf s.settings r)
    let n : Need := ⟨s.networkOf e.channel, s.multiplexOf e.channel, max w.1 s.present, w.2⟩
    match placeFor s laid claims e.channel n with
    | some p => some (e, p, n)
    | none => findAiring s laid claims r es

/-- An alternate airing booked in place of a clashed booking (R105): the new booking takes its number first, the clashed
booking finishes REPLACED, and the alternate enters the list. -/
def bookAlternate (w : Pass) (r : Request) (b : Booking) (e : GuideEntry) (p : Place) (n : Need) : Pass :=
  let s := w.state
  let number := s.newNumber
  let alt := { newBooking s.settings r (entryOccurrence r.number e) number with
    state := some .planned, place := some p, alternate := true }
  let t := (s.withBookings (s.plan.bookings.filter (fun c => c.number != b.number))).pinDown b.key
  let t := t.edgeEvent (.bookingEnd ⟨b.number, b.request, .replaced, .replaced, 0, b.begun, s.present, some number⟩)
  { w with state := t.enterBooking alt, laid := w.laid ++ [placedExtent p n number] }

/-- A booking that fits nowhere is made CLASHED (R101, R102), and a SERIES booking with an episode id is offered an
alternate airing at once (R104); one that is replaced makes no CLASH_NEW event (R102), so its number does not join the newly
CLASHED ones. DEDUCED (log entry 25): the partners are those of the occupancy as it stands when the booking is made CLASHED
(R101), where step 5 of R89 names them again. -/
def clashBooking (w : Pass) (b : Booking) (n : Need) : Pass :=
  let s := w.state
  let clashed := s.mapBooking b.number (fun c => { c with
    state := some .clashed, place := none, partners := partnersOf s w.laid n })
  let w' := { w with
    state := clashed
    newly := if b.state = some .clashed then w.newly else w.newly ++ [b.number] }
  match s.request? b.request, b.episode with
  | some r, some id =>
    match r.kind with
    | .series f =>
      (match findAiring clashed w.laid w.claims r (candidateAirings clashed r f id) with
        | some (e, p, n') => bookAlternate { w' with newly := w.newly } r b e p n'
        | none => w')
    | _ => w'
  | _, _ => w'

/-- A booking candidate (R97, R98, R101). -/
def placeBooking (w : Pass) (number : Nat) : Pass :=
  match w.state.booking? number with
  | none => w
  | some b =>
    let n := b.need w.state
    match placeFor w.state w.laid w.claims b.channel n with
    | some p =>
      { w with
        state := w.state.mapBooking number (fun c => { c with
          state := some .planned, place := some p, partners := [] })
        laid := w.laid ++ [placedExtent p n number] }
    | none => clashBooking w b n

/-- An overrun portion settled (R99): cut at the first conflicting instant, with cut reason YIELD. -/
def settleOverrun (w : Pass) (number : Nat) : Pass :=
  match w.state.booking? number with
  | none => w
  | some b =>
    match overrunExtent w.state b with
    | none => w
    | some x =>
      let claims := w.claims.filter (fun y => y != x)
      match firstConflict w.laid x.tuner x.slot x.multiplex x.start x.stop with
      | none => { w with laid := w.laid ++ [x], claims := claims }
      | some (t, _) =>
        { w with
          state := w.state.mapBooking number (fun c => { c with provEnd := t, cut := some .yield })
          laid := if x.start < t then w.laid ++ [{ x with stop := some t }] else w.laid
          claims := claims }

/-- A viewer hold settled (R100): its yield time is the first conflicting instant. -/
def settleHold (w : Pass) (t : TunerId) : Pass :=
  match holdExtent w.state t with
  | none => w
  | some x =>
    let claims := w.claims.filter (fun y => y != x)
    match firstConflict w.laid t x.slot x.multiplex x.start none with
    | none => { w with laid := w.laid ++ [x], claims := claims }
    | some (y, c) =>
      let number := match c with
        | .booking m => m
        | .hold _ => 0
      let laid := if x.start < y then w.laid ++ [{ x with stop := some y }] else w.laid
      match t with
      | .a => { w with laid := laid, claims := claims, yieldA := some (y, number) }
      | .b => { w with laid := laid, claims := claims, yieldB := some (y, number) }

/-- One candidate taken in rank order. -/
def takeCandidate (w : Pass) (c : Ranked) : Pass :=
  match c.candidate with
  | .booking m => placeBooking w m
  | .overrun m => settleOverrun w m
  | .hold t => settleHold w t

/-- Steps 2 to 4 on a state whose windows are formed. -/
def placeAll (s : State) : Pass :=
  (rankedCandidates s).foldl takeCandidate
    { state := s
      laid := s.plan.bookings.filterMap (fixedExtent s)
      claims := s.plan.bookings.filterMap (overrunExtent s) ++ (holdExtent s .a).toList ++ (holdExtent s .b).toList
      newly := [], yieldA := none, yieldB := none }

/-! ### Step 5: clashes (R102, R103) -/

/-- The CLASH_NEW event of a newly CLASHED booking that is still in the list (R102). -/
def clashEvent (s : State) (number : Nat) : State :=
  match s.booking? number with
  | some b => s.edgeEvent (.clashNew number b.partners)
  | none => s

def reportPassClashes (newly : List Nat) (s : State) : State :=
  let t := newly.foldl clashEvent s
  t.reportClashes (t.inState .clashed).length

/-! ### Step 6: the space part (R108, R109) -/

/-- The remaining seconds of a placed booking (R108). -/
def remainingSeconds (s : State) (b : Booking) : Nat :=
  (if b.isRunning then b.provEnd else b.winEnd) - max b.winStart s.present

/-- The size of a placed booking in MB, rounded up (R108). -/
def sizeInMB (s : State) (b : Booking) : Nat :=
  let rate := match s.service? b.channel with
    | some v => s.settings.rateClass.getD v.rateClass 0
    | none => 0
  (remainingSeconds s b * rate + 999) / 1000

/-- Placed: PLANNED, LATE, DUE, STARTING or RECORDING (R108). -/
def Booking.isPlaced (b : Booking) : Bool := b.state == some .planned || b.isHeld

/-- The budget; absent while the free-space figure is unknown (R108). -/
def budget (s : State) : Option Nat := s.plan.freeSpace.map (fun f => f - s.settings.spaceReserve)

/-- The flags written in list order, `sum` being the running sum before the first booking (R108, R109). -/
def flagSpace (s : State) (sum : Nat) : List Booking → List Booking
  | [] => []
  | b :: bs =>
    let sum' := if b.isPlaced then sum + sizeInMB s b else sum
    let short := match budget s with
      | some m => sum' > m
      | none => false
    let b' :=
      if b.state = some .planned ∨ b.state = some .late then { b with spaceShort := short }
      else if b.state = some .clashed then { b with spaceShort := false }
      else b
    b' :: flagSpace s sum' bs

/-- The total of the sizes summed (R107). -/
def totalSize (s : State) : Nat :=
  (s.plan.bookings.map (fun b => if b.isPlaced then sizeInMB s b else 0)).sum

/-- The number of PLANNED and LATE bookings flagged SPACE_SHORT (R109). -/
def flaggedCount (s : State) : Nat :=
  (s.plan.bookings.filter (fun b => b.spaceShort && (b.state == some .planned || b.state == some .late))).length

/-- The space part (R88, R108, R109). -/
def spacePart (s : State) : State :=
  let t := s.withBookings (flagSpace s 0 s.plan.bookings)
  t.reportSpace (flaggedCount t)

/-! ### Step 7: results handed on (R106) -/

/-- The expiries a booking's state asks for after a pass (R112, R117). -/
def alignBooking (set : Settings) (b : Booking) : Booking :=
  match b.state with
  | some .planned => { b with windowExpiry := some b.winStart, lateExpiry := none }
  | some .clashed => { b with windowExpiry := none, lateExpiry := some (lateLimitOf set b) }
  | some .recording => { b with provExpiry := some b.provEnd }
  | _ => b

/-- An expiry that was set or moved and lies at or before the present. -/
def movedDue (present : Nat) (old new : Option Nat) (d : Due) : List Due :=
  match new with
  | some t => if old ≠ some t ∧ t ≤ present then [d] else []
  | none => []

/-- What Run Control must take at once after a pass, of one booking (R117, R90). -/
def alignDues (s : State) (b : Booking) : List Due :=
  let c := alignBooking s.settings b
  movedDue s.present b.windowExpiry c.windowExpiry (.windowStart b.number)
    ++ movedDue s.present b.lateExpiry c.lateExpiry (.lateLimit b.number)
    ++ movedDue s.present b.provExpiry c.provExpiry (.provisionalEnd b.number)

/-- Run Control's expiries brought into line with the list (R117). -/
def alignExpiries (s : State) : State :=
  { s with
    plan := { s.plan with bookings := s.plan.bookings.map (alignBooking s.settings) }
    agenda := s.agenda ++ (s.plan.bookings.map (alignDues s)).flatten }

/-- The results of a pass handed to Run Control, the Tuner Table and the Host Power Unit (R106). The instants it sets that are
already reached are all taken once the pass is complete (R24, R90, R142); the spec gives the owners no order. DESIGN CHOICE (log
entry 7): the warning of tuner A, that of tuner B, the wake expiry, what waited before the pass, and then Run Control's in list
order, so that nothing Run Control's expiries bring about (a hold displaced, a wake expiry computed afresh) keeps one of the
others from being taken. -/
def handOn (w : Pass) : State :=
  let s := alignExpiries w.state
  let t := (State.writeYield { s with agenda := [] } .a w.yieldA).writeYield .b w.yieldB
  let t := recomputeWake t
  { t with agenda := t.agenda ++ s.agenda }

/-- Steps 5 and 6 on the outcome of step 4. -/
def reportPass (w : Pass) : Pass :=
  let s := { w.state with plan := { w.state.plan with occupancy := w.laid } }
  { w with state := spacePart (reportPassClashes w.newly s) }

/-- A whole plan pass (R89). It is asked for only while the clock is set (R88). -/
def planPass (s : State) : State :=
  handOn (reportPass (placeAll (formWindows s)))

/-- A whole pass when the clock is set (R88). -/
def passIfSet (s : State) : State := if s.clockSet then planPass s else s

/-- A derivation and the pass that follows it, when the clock is set (R74). -/
def deriveAndPass (s : State) : State := if s.clockSet then planPass (derive s) else s

end Sys2Proof.Machine
end

