-- ==== Sys2Proof/Machine/Scan.lean ====
section
/-! DEFINITION. Entries leaving the store, the aging scan (R47, R48), and the abandonment of a save (R184). -/

namespace Sys2Proof.Machine

/-- Entries that fail `keep` leave the store and their slots are free; the guide-full flag is cleared when fewer than
1,200 remain (R50). -/
def State.dropEntries (s : State) (keep : GuideEntry → Bool) : State :=
  let t := s.withEntries (s.guide.entries.filter keep)
  if t.guide.entries.length < Config.maxEntries then t.setGuideFull false else t

/-- The entry is stale at the present: not refreshed within STALE_PERIOD; one refreshed after the present, or pending, is
not stale (R48, R39). -/
def isStale (s : State) (e : GuideEntry) : Bool :=
  match e.refreshedAt with
  | some t => s.present - t > s.settings.stalePeriod
  | none => false

/-- What an aging scan removes: an unpinned entry that ended over an hour ago, is stale, or is withdrawn (R48). -/
def agedOut (s : State) (e : GuideEntry) : Bool :=
  e.pins == 0 && (s.present - e.stop > Config.endedGrace || isStale s e || e.withdrawn)

/-- An aging scan carried out: the next one is set 900 s after the present (R47, R48). -/
def runScan (s : State) : State :=
  let t := s.dropEntries (fun e => !agedOut s e)
  { t with guide := { t.guide with nextScan := some (s.present + Config.scanInterval) } }

/-- An aging scan with the derivation and pass that follow it (R48). -/
def scanNow (s : State) : State := deriveAndPass (runScan s)

/-- At the end of a save a waiting scan is carried out, or becomes pending while the stream is OPEN (R47). -/
def releaseScan (s : State) : State :=
  if s.guide.scanWaits then
    if s.guide.stream.isSome then
      { s with guide := { s.guide with scanWaits := false, agingPending := true } }
    else scanNow { s with guide := { s.guide with scanWaits := false } }
  else s

/-- A save in progress stops without a completion marker and the image state becomes FAILED (R184). -/
def stopSave (cause : AbandonCause) (s : State) : State :=
  if s.saving then
    State.setImageState
      { s with image := { s.image with changedInSave := false, abandonCause := cause, capture := none } } .failed
  else s

/-- An expiry abandons a save in progress; a waiting scan is then carried out (R184). -/
def abandonSave (s : State) : State :=
  if s.saving then releaseScan (stopSave .deadline s) else s

/-- The scan expiry falls due (R47): it becomes pending while the stream is OPEN, waits while a save is in progress, and is
carried out otherwise. -/
def scanWork (s : State) : State :=
  let t := { s with guide := { s.guide with nextScan := none } }
  if s.guide.stream.isSome then { t with guide := { t.guide with agingPending := true } }
  else if s.saving then { t with guide := { t.guide with scanWaits := true } }
  else scanNow t

end Sys2Proof.Machine
end

