-- ==== Sys2Proof/Machine/Finish.lean ====
section
/-! DEFINITION. What a finish does (R131 to R133) and what it does to a request (R65 to R69). -/

namespace Sys2Proof.Machine

/-- How a booking leaves the list other than silently: with an outcome, a reason and the host's failure code (0 unless
HOST_FAIL), or as a cancel. -/
inductive Ending where
  | outcome (o : BookingOutcome) (r : Reason) (code : Nat)
  | cancel
deriving DecidableEq, Repr

/-! ### The finish report (R65) -/

/-- The loss count after a finish (R66). -/
def lossAfter (loss : Nat) : Ending → Nat
  | .outcome .missed .clash _ => min (loss + 1) Config.maxLoss
  | .outcome .done _ _ => 0
  | _ => loss

/-- The recorded seconds of a booking that reached RECORDING and ends at `ended` (R67). -/
def recordedSeconds (b : Booking) (ended : Nat) : Nat :=
  match b.begun with
  | some t => ended - t
  | none => 0

/-- The episode id a finish earns credit for, if it earns any (R67). -/
def creditOf (b : Booking) (ended : Nat) : Ending → Option Nat
  | .outcome o _ _ =>
    if (o = .done ∨ o = .partly ∨ o = .truncated) ∧ b.begun.isSome ∧ 2 * recordedSeconds b ended ≥ b.progDuration then
      b.episode
    else none
  | .cancel => none

/-- An episode id credited: at the newest end, the oldest of twelve giving way (R67). -/
def creditHistory (history : List Nat) (id : Nat) : List Nat :=
  if history.contains id then history.filter (fun x => x != id) ++ [id]
  else (if history.length ≥ Config.maxHistory then history.drop 1 else history) ++ [id]

/-- A cancelled day joins the skip list in ascending order, the smallest of four giving way (R68). -/
def addSkip (skip : List Int) (day : Int) : List Int :=
  if skip.contains day then skip
  else insertBy (fun a b => a < b) day (if skip.length ≥ Config.maxSkip then skip.drop 1 else skip)

/-- The settled day after a finish with an outcome on a day (R68). -/
def laterDay (settled : Option Int) (day : Int) : Option Int :=
  match settled with
  | none => some day
  | some sd => some (max sd day)

/-- A repeating TIMED request's fields after a finish on `day` (R68); a single one's stand. -/
def timedAfter (f : TimedFields) (day : Int) (e : Ending) : TimedFields :=
  if f.days = 0 then f
  else match e with
    | .outcome _ _ _ => { f with settledDay := laterDay f.settledDay day }
    | .cancel => { f with skip := addSkip f.skip day }

/-- A request that is not DROPPING after the first three steps of a finish report (R65). -/
def requestAfter (r : Request) (b : Booking) (ended : Nat) (e : Ending) : Request :=
  { r with
    loss := lossAfter r.loss e
    kind := match r.kind with
      | .timed f => .timed (match b.key with
        | .localDay d => timedAfter f d e
        | .guideSlot _ => f)
      | .event f => .event f
      | .series f => .series (match creditOf b ended e with
        | some id => { f with history := creditHistory f.history id }
        | none => f) }

/-- Whether a finish removes a request that is not DROPPING (R69). -/
def endsRequest (r : Request) (e : Ending) : Bool :=
  match r.kind with
  | .event _ => (match e with
    | .outcome o _ _ => o != .withdrawn
    | .cancel => true)
  | .timed f => f.days == 0
  | .series _ => false

/-- The Request Table's act on a finish report; the booking has already left the list (R65 to R69). -/
def applyReport (b : Booking) (e : Ending) (s : State) : State :=
  match s.request? b.request with
  | none => s
  | some r =>
    s.changing (fun t =>
      if r.state = .dropping then
        if (t.liveOf r.number).isEmpty then t.removeRequest r.number else t
      else
        let u := t.mapRequest r.number (fun q => requestAfter q b s.present e)
        if endsRequest r e then u.removeRequest r.number else u)

/-! ### The finish (R132) -/

/-- Whether a finish settles the guide entry of its booking (R31). -/
def settlesEntry : Ending → Bool
  | .outcome o _ _ => o != .withdrawn && o != .replaced
  | .cancel => true

/-- Step 4: the entry's pin count falls, and the request joins its settled set. -/
def releaseEntry (b : Booking) (e : Ending) (s : State) : State :=
  let t := s.pinDown b.key
  match b.key with
  | .guideSlot n =>
    if settlesEntry e then t.mapEntry n (fun x => { x with settled := settleFor b.request x.settled }) else t
  | .localDay _ => t

/-- Step 1: the END directive due, if one is (R131). -/
def queueEnd (b : Booking) (endReason : Option Reason) (s : State) : State :=
  match endReason, b.place with
  | some r, some p => s.queueDirective (.endRec b.number p r)
  | _, _ => s

/-- Step 7: the BOOKING_END event, unless the finish is a cancel. -/
def announceEnd (b : Booking) (e : Ending) (s : State) : State :=
  match e with
  | .outcome o r code => s.edgeEvent (.bookingEnd ⟨b.number, b.request, o, r, code, b.begun, s.present, none⟩)
  | .cancel => s

/-- Steps 1 to 7 of a finish (R132). The booking's expiries and confirm timer leave with its record. -/
def finishBooking (e : Ending) (endReason : Option Reason) (b : Booking) (s : State) : State :=
  let s := queueEnd b endReason s
  let s := if b.state = some .due then s.withdrawBegin b.number else s
  let s := s.withBookings (s.plan.bookings.filter (fun c => c.number != b.number))
  let s := releaseEntry b e s
  let s := applyReport b e s
  let s := if b.state = some .recording then s.setRecordings (s.run.recordings - 1) else s
  announceEnd b e s

/-- Step 8 (R132): a derivation when a finished booking was of a SERIES request, and a whole pass, when the clock is set. -/
def afterFinish (series : Bool) (s : State) : State :=
  if series then deriveAndPass s else passIfSet s

/-- One finish that is a handing of its own. -/
def finishOne (e : Ending) (endReason : Option Reason) (b : Booking) (s : State) : State :=
  afterFinish (s.isSeriesBooking b) (finishBooking e endReason b s)

/-- The bookings a message or handing finishes, one after another, without step 8 (R133). -/
def finishEach (e : Ending) (endReason : Option Reason) (bs : List Booking) (s : State) : State :=
  bs.foldl (fun t b => finishBooking e endReason b t) s

end Sys2Proof.Machine
end

