-- ==== Sys2Proof/Machine/RunControl.lean ====
section
/-! DEFINITION. Run Control (chapter 7), and the expiries of every block taken one by one until none is left that must be
taken at once. -/

namespace Sys2Proof.Machine

/-! ### Accuracy (R126) -/

/-- The guide entry a booking names. -/
def State.entryOf (s : State) (b : Booking) : Option GuideEntry :=
  match b.key with
  | .guideSlot n => s.entryAt? n
  | .localDay _ => none

/-- A booking is accurate while its ACCURATE flag is set and its guide entry is not withdrawn (R126). -/
def isAccurate (s : State) (b : Booking) : Bool :=
  b.accurate && (match s.entryOf b with
    | some e => !e.withdrawn
    | none => false)

/-! ### Becoming DUE or LATE (R26, R114) -/

/-- A booking conflicts with its tuner's viewer hold: another multiplex, or the same slot (R26). -/
def holdConflicts (s : State) (b : Booking) (p : Place) (h : ViewerHold) : Bool :=
  s.multiplexOf b.channel != h.multiplex || p.slot == h.slot

/-- A conflicting hold is removed and a YIELD queued (R26). -/
def displaceViewer (b : Booking) (p : Place) (s : State) : State :=
  match (s.tuner p.tuner).hold with
  | some h =>
    if holdConflicts s b p h then
      (s.withTuner p.tuner { s.tuner p.tuner with hold := none }).queueYield p.tuner b.number
    else s
  | none => s

/-- The BEGIN directive of a booking, with the service record as it stands now (R114 step 3). -/
def beginFields (s : State) (b : Booking) (p : Place) : BeginFields :=
  ⟨b.number, p, b.channel, s.networkOf b.channel, s.multiplexOf b.channel, b.progStart, b.progDuration, b.provEnd,
   isAccurate s b⟩

/-- A booking becomes DUE (R114). -/
def becomeDue (b : Booking) (s : State) : State :=
  match b.place with
  | none => s
  | some p =>
    let deadline := takeDeadlineOf s.settings b s.present
    let s := s.mapBooking b.number (fun c => { c with
      state := some .due, dueAt := some s.present, windowExpiry := none, lateExpiry := none
      takeExpiry := some deadline })
    let s := displaceViewer b p s
    let s := s.queueDirective (.beginRec (beginFields s b p))
    recomputeWake (s.atOnce (.takeDeadline b.number) deadline)

/-- A booking becomes LATE with a late-limit expiry (R113 case 3). The wake expiry that the move out of PLANNED computes is taken
before a late limit already reached (log entry 7), so that it is taken at once in every case (R142). -/
def becomeLate (b : Booking) (s : State) : State :=
  let limit := lateLimitOf s.settings b
  let s := s.mapBooking b.number (fun c => { c with
    state := some .late, dueAt := none, windowExpiry := none, takeExpiry := none, lateExpiry := some limit })
  (recomputeWake s).atOnce (.lateLimit b.number) limit

/-- STRICT_SPACE turns a flagged booking away as it would become DUE (R119). -/
def turnedAway (s : State) (b : Booking) : Bool := s.settings.strictSpace && b.spaceShort

/-! ### Provisional ends (R123, R127) -/

/-- FAILED with reason NO_CONFIRM, and an END with reason ABANDON (R123). -/
def failUnconfirmed (b : Booking) (s : State) : State :=
  finishOne (.outcome .failed .noConfirm 0) (some .abandon) b s

/-- The programme is still on air, or has not been seen on air: the fourth test of R127. -/
def stillWanted (s : State) (b : Booking) : Bool :=
  match s.entryOf b with
  | some e => e.status == .running || e.status == .paused || !e.hasRun
  | none => false

/-- The four tests of R127 for an extension. -/
def extensionDue (s : State) (b : Booking) : Bool :=
  isAccurate s b && b.cut != some .yield && decide (b.winEnd ≤ b.provEnd) && stillWanted s b

/-- The outcome and reason of a RECORDING booking finishing at its provisional end (R127). -/
def endOutcome (b : Booking) : BookingOutcome × Reason :=
  match b.cut with
  | some .yield => (.truncated, .yield)
  | some .limit => (.truncated, .limit)
  | none =>
    (match b.begun with
      | some t => if t ≤ b.progStart then .done else .partly
      | none => .partly,
     if b.provEnd < b.winEnd then .early else .natural)

/-- A RECORDING booking finishes at its provisional end (R127). -/
def finishRecording (b : Booking) (s : State) : State :=
  finishOne (.outcome (endOutcome b).1 (endOutcome b).2 0) (some (endOutcome b).2) b s

/-- A booking's provisional end and cut reason written, with the expiry. -/
def setProvEnd (number t : Nat) (cut : Option CutReason) (s : State) : State :=
  s.mapBooking number (fun c => { c with provEnd := t, cut := cut, provExpiry := some t })

/-- A provisional end moved, with its expiry; taken at once when it lies at or before the present. -/
def moveProvEnd (number t : Nat) (cut : Option CutReason) (s : State) : State :=
  (setProvEnd number t cut s).atOnce (.provisionalEnd number) t

/-- The provisional end of a RECORDING booking is reached (R127). -/
def endOrExtend (b : Booking) (s : State) : State :=
  let accurate := match s.request? b.request with
    | some r => r.accurate
    | none => b.accurate
  let b := { b with accurate := accurate }
  let s := s.mapBooking b.number (fun c => { c with accurate := accurate })
  if extensionDue s b then
    let cap := capOf s.settings b
    if b.provEnd < cap then
      passIfSet (moveProvEnd b.number (min (b.provEnd + Config.extension) cap)
        (if b.cut = some .limit then none else b.cut) s)
    else
      finishRecording { b with cut := some .limit } s
  else finishRecording b s

/-- The provisional end of a booking is reached (R123, R127). -/
def provEndWork (number : Nat) (s : State) : State :=
  match s.booking? number with
  | none => s
  | some b =>
    match b.state with
    | some .starting => failUnconfirmed b s
    | some .recording => endOrExtend b s
    | _ => s

/-! ### Window starts (R113) -/

/-- A booking of the same tuner that is ending: STARTING or RECORDING, its provisional end at or before the present, on
another multiplex or in the same slot (R113). DESIGN CHOICE (log entry 31): of several such bookings the first in list order is
taken first; the spec does not say which. -/
def endingBefore (s : State) (b : Booking) : Option Booking :=
  match b.place with
  | none => none
  | some p =>
    s.plan.bookings.find? (fun c =>
      c.number != b.number && (c.state == some .starting || c.state == some .recording)
        && decide (c.provEnd ≤ s.present)
        && (match c.place with
          | some q => q.tuner == p.tuner
              && (s.multiplexOf c.channel != s.multiplexOf b.channel || q.slot == p.slot)
          | none => false))

/-- How a booking ends whose late limit is already past at its window start (R113 case 1). -/
def pastLimitEnding (s : State) (b : Booking) : Ending :=
  if s.host.state ≠ .awake then .outcome .missed .hostAbsent 0
  else if s.run.hold then .outcome .missed .held 0
  else if turnedAway s b then .outcome .skipped .noSpace 0
  else .outcome .missed .notTaken 0

/-- The window start of a PLANNED booking once nothing ending stands in its way (R113 cases 1 to 3). A finish here is a
move out of PLANNED outside a pass (R142). -/
def openWindow (b : Booking) (s : State) : State :=
  if lateLimitOf s.settings b < s.present then finishOne (pastLimitEnding s b) none b s
  else if s.host.state = .awake ∧ s.run.hold = false then
    if turnedAway s b then finishOne (.outcome .skipped .noSpace 0) none b s else becomeDue b s
  else becomeLate b s

/-- The window start of a booking (R113). When a booking of its tuner is ending, that one's provisional end is taken first
and this window start again after it. -/
def windowWork (number : Nat) (s : State) : State :=
  match s.booking? number with
  | none => s
  | some b =>
    match endingBefore s b with
    | some c =>
      let t := provEndWork c.number s
      { t with agenda := t.agenda ++ [.windowStart number] }
    | none => openWindow b s

/-! ### Late limits, take deadlines, confirm timers (R116, R123) -/

/-- The reason of a LATE booking missed at its late limit (R116). -/
def lateReason (s : State) : Reason := if s.host.state = .awake then .held else .hostAbsent

/-- How a booking ends at its late limit or take deadline (R116). -/
def limitEnding (s : State) (b : Booking) : Option Ending :=
  match b.state with
  | some .clashed => some (.outcome .missed .clash 0)
  | some .late => some (.outcome .missed (lateReason s) 0)
  | some .due => some (.outcome .missed .notTaken 0)
  | _ => none

def limitWork (number : Nat) (s : State) : State :=
  match s.booking? number with
  | none => s
  | some b =>
    match limitEnding s b with
    | some e => finishOne e none b s
    | none => s

def confirmWork (number : Nat) (s : State) : State :=
  match s.booking? number with
  | none => s
  | some b => failUnconfirmed b s

/-! ### The host's expiries (R143, R144) and warnings (R24) -/

/-- The wake expiry is taken (R143), with the cause that went with it. -/
def wakeWork (cause : WakeCause) (s : State) : State :=
  let s := { s with host := { s.host with
    cause := cause
    state := .waking
    wakeExpiry := none
    attempt := some s.present
    wakeLine := true } }
  let s := s.applyTrigger .wake
  { s with host := { s.host with wakeTimer := some (s.present + s.settings.wakeTimeout) } }

/-- The wake timer is reached (R144). -/
def wakeTimeoutWork (s : State) : State :=
  let time := s.host.attempt.getD 0
  let s := { s with host := { s.host with
    state := .wakeFailed
    wakeLine := false
    wakeTimer := none
    failure := some s.present } }
  recomputeWake (s.edgeEvent (.wakeFailed time))

/-- A hold's warning expiry is taken (R24). -/
def warningWork (t : TunerId) (s : State) : State :=
  match (s.tuner t).hold with
  | none => s
  | some h =>
    (s.withTuner t { s.tuner t with hold := some { h with warned := true, warnExpiry := none } }).edgeEvent
      (.viewWarn t (h.yieldBooking.getD 0) (h.yieldTime.getD 0))

/-! ### Taking an expiry -/

/-- An instant that has been reached. -/
def reached (present : Nat) : Option Nat → Bool
  | some t => t ≤ present
  | none => false

/-- Whether an expiry is held and its instant has been reached. -/
def isDue (d : Due) (s : State) : Bool :=
  match d with
  | .windowStart n => (match s.booking? n with
    | some b => b.state == some .planned && reached s.present b.windowExpiry
    | none => false)
  | .lateLimit n => (match s.booking? n with
    | some b => (b.state == some .clashed || b.state == some .late) && reached s.present b.lateExpiry
    | none => false)
  | .takeDeadline n => (match s.booking? n with
    | some b => b.state == some .due && reached s.present b.takeExpiry
    | none => false)
  | .confirmTimer n => (match s.booking? n with
    | some b => b.state == some .starting && reached s.present b.confirmExpiry
    | none => false)
  | .provisionalEnd n => (match s.booking? n with
    | some b => (b.state == some .starting || b.state == some .recording) && reached s.present b.provExpiry
    | none => false)
  | .wake => s.host.state.holdsWake && reached s.present s.host.wakeExpiry
  | .wakeTimer => s.host.state == .waking && reached s.present s.host.wakeTimer
  | .warning t => (match (s.tuner t).hold with
    | some h => reached s.present h.warnExpiry
    | none => false)
  | .scan => reached s.present s.guide.nextScan

/-- An expiry that abandons a save does so before its own work (R184). The scan that then runs plans afresh: what its pass makes
due at once is taken first (R90, R142), and then this expiry again, on the booking as they left it (log entry 11). -/
def abandoning (d : Due) (work : State → State) (s : State) : State :=
  if s.saving then
    let t := abandonSave s
    { t with agenda := t.agenda ++ [d] }
  else work s

/-- One expiry taken, if it is held and due. -/
def takeDue (d : Due) (s : State) : State :=
  if isDue d s then
    match d with
    | .windowStart n => abandoning d (windowWork n) s
    | .lateLimit n => abandoning d (limitWork n) s
    | .takeDeadline n => abandoning d (limitWork n) s
    | .confirmTimer n => abandoning d (confirmWork n) s
    | .provisionalEnd n => abandoning d (provEndWork n) s
    | .wake => wakeWork s.host.expiryCause (abandonSave s)
    | .wakeTimer => wakeTimeoutWork s
    | .warning t => warningWork t s
    | .scan => scanWork s
  else s

/-- The agenda worked off: each expiry with all it brings before the next (R90, R135). -/
def settleFrom : Nat → State → State
  | 0, s => { s with agenda := [] }
  | fuel + 1, s =>
    match s.agenda with
    | [] => s
    | d :: rest =>
      let t := takeDue d { s with agenda := [] }
      settleFrom fuel { t with agenda := t.agenda ++ rest }

/-- Every expiry that must be taken at once is taken. -/
@[irreducible] def settle (s : State) : State := settleFrom Config.settleFuel s

/-- An expiry as an event of its own. -/
def expire (d : Due) (s : State) : State :=
  if s.running then settle (takeDue d s) else s

/-! ### The finishes of one message (R133) -/

/-- A save in progress is abandoned before the finishes of a group that expiries bring (R184): a waiting scan runs, and what its
pass makes due at once is taken. DESIGN CHOICE (log entry 14): these come before the group's finishes and their step 8, as they
do for a single expiry (log entry 11); R90, R133 and R184 give no order. -/
def clearSave (s : State) : State := settle (abandonSave s)

/-- The finishes of one message as far as they have come: the state, whether any booking has finished, and whether one of them
was of a SERIES request. -/
structure GroupWork where
  state : State
  any : Bool
  series : Bool
deriving DecidableEq, Repr

/-- One booking of a group: `ending` says how it finishes, and one that has changed so that it does not finish is passed over.
Steps 1 to 7 of R132. -/
def finishOf (ending : State → Booking → Option (Ending × Option Reason)) (w : GroupWork) (number : Nat) : GroupWork :=
  match w.state.booking? number with
  | none => w
  | some b =>
    match ending w.state b with
    | none => w
    | some (e, endReason) =>
      ⟨finishBooking e endReason b w.state, true, w.series || w.state.isSeriesBooking b⟩

/-- Step 8, once after the last booking of a group (R133). -/
def GroupWork.close (w : GroupWork) : State := if w.any then afterFinish w.series w.state else w.state

/-- The bookings of a group finished in list order, with a save in progress abandoned first (R133, R184). DESIGN CHOICE (log entry
14): what the scan released by that save makes due at once is taken before the group's finishes (`clearSave`). -/
def finishGroup (ending : State → Booking → Option (Ending × Option Reason)) (numbers : List Nat) (s : State) : State :=
  if numbers.isEmpty then s
  else (numbers.foldl (finishOf ending) ⟨clearSave s, false, false⟩).close

/-! ### LATE bookings become DUE (R115) -/

/-- One LATE booking at GREET or HOLD off: a booking ending on its tuner is taken first. The flag tells whether the booking
must finish SKIPPED. -/
def clearWay : Nat → Nat → State → State
  | 0, _, s => s
  | fuel + 1, number, s =>
    match s.booking? number with
    | none => s
    | some b =>
      match endingBefore s b with
      | some c => clearWay fuel number (settle (takeDue (.provisionalEnd c.number) s))
      | none => s

/-- What the LATE bookings of one event have come to: the state, how many became DUE, how many finished SKIPPED, and
whether one of those was of a SERIES request. -/
structure LateWork where
  state : State
  madeDue : Nat
  skipped : Nat
  series : Bool
deriving DecidableEq, Repr

/-- One LATE booking taken (R115). Six ending bookings at most can stand in the way. -/
def takeLate (w : LateWork) (number : Nat) : LateWork :=
  let s := clearWay 6 number w.state
  match s.booking? number with
  | some b =>
    if b.state = some .late then
      if turnedAway s b then
        { w with
          state := finishBooking (.outcome .skipped .noSpace 0) none b s
          skipped := w.skipped + 1
          series := w.series || s.isSeriesBooking b }
      else { w with state := becomeDue b s, madeDue := w.madeDue + 1 }
    else { w with state := s }
  | none => { w with state := s }

/-- The LATE bookings taken in list order, when the host is AWAKE and HOLD is off (R115). -/
def takeLates (s : State) : LateWork :=
  if s.host.state = .awake ∧ s.run.hold = false then
    ((s.inState .late).map Booking.number).foldl takeLate ⟨s, 0, 0, false⟩
  else ⟨s, 0, 0, false⟩

/-! ### The early end (R128) -/

/-- The provisional end and cut reason an early end gives at value `v` before the cap is applied; none when it is not
applied (R128 steps 1 to 4). -/
def earlyEndOf (cap v : Nat) (b : Booking) : Option (Nat × Option CutReason) :=
  if b.cut = some .yield ∧ b.provEnd ≤ v then none
  else if b.provEnd < b.winEnd ∧ b.provEnd ≤ min v cap then none
  else some (min v cap, if cap < v then some .limit else none)

/-- The provisional end and cut reason the early end gives a booking now, with its request's post pad in force (R128, R58). -/
def earlyEndAt (s : State) (b : Booking) : Option (Nat × Option CutReason) :=
  let post := match s.request? b.request with
    | some r => postPadOf s.settings r
    | none => s.settings.postPad
  earlyEndOf (capOf s.settings b) (s.present + post) b

/-- The early end of one RECORDING booking; raising the provisional end is an extension and a pass follows (R128). -/
def earlyEnd (number : Nat) (s : State) : State :=
  match s.booking? number with
  | none => s
  | some b =>
    match earlyEndAt s b with
    | none => s
    | some (t, cut) =>
      let u := moveProvEnd number t cut s
      if b.provEnd < t then passIfSet u else u

/-- Whether the early end applies to a booking: RECORDING, accurate by its flag as held, and its entry NOT_RUNNING after
having run (R128). -/
def earlyEndApplies (s : State) (b : Booking) : Bool :=
  b.state == some .recording && isAccurate s b && (match s.entryOf b with
    | some e => e.status == .notRunning && e.hasRun
    | none => false)

end Sys2Proof.Machine
end

