-- ==== Sys2Proof/Machine/Intake.lean ====
section
/-! DEFINITION. The close of the guide intake stream (R40 to R42). -/

namespace Sys2Proof.Machine

/-- A channel and a start lie inside a stream's window (R32). -/
def StreamWindow.covers (w : StreamWindow) (channel start : Nat) : Bool :=
  decide (w.first ≤ channel) && decide (channel ≤ w.last) && decide (w.start ≤ start) && decide (start < w.stop)

/-! ### The replace sweep (R41) -/

/-- An entry the sweep visits: inside the window, and not written in the stream. -/
def sweepVisits (w : StreamWindow) (e : GuideEntry) : Bool := w.covers e.channel e.start && !e.written

/-- An entry the sweep removes. -/
def sweepRemoves (w : StreamWindow) (e : GuideEntry) : Bool := sweepVisits w e && e.pins == 0

/-- An entry the sweep newly withdraws. -/
def sweepWithdraws (w : StreamWindow) (e : GuideEntry) : Bool := sweepVisits w e && e.pins != 0 && !e.withdrawn

/-- The sweep over the whole store: the unpinned entries visited leave, the pinned ones are withdrawn. -/
def sweepStore (w : StreamWindow) (s : State) : State :=
  let any := s.guide.entries.any (fun e => sweepRemoves w e || sweepWithdraws w e)
  let t := s.withEntries (s.guide.entries.map (fun e => if sweepWithdraws w e then { e with withdrawn := true } else e))
  let t := t.dropEntries (fun e => !sweepRemoves w e)
  if any then { t with guide := { t.guide with change := true } } else t

/-- The guide slots handed to Run Control as newly withdrawn. -/
def sweptSlots (w : StreamWindow) (s : State) : List Nat :=
  (s.guide.entries.filter (sweepWithdraws w)).map GuideEntry.slot

/-- The PLANNED and CLASHED bookings that name one of some guide slots, in list order (R129). -/
def withdrawnBookings (slots : List Nat) (s : State) : List Booking :=
  s.plan.bookings.filter (fun b =>
    (b.state == some .planned || b.state == some .clashed) && (match b.key with
      | .guideSlot n => slots.contains n
      | .localDay _ => false))

/-- The bookings of newly withdrawn entries finish WITHDRAWN, with one step 8 for all (R129, R133). -/
def finishWithdrawn (slots : List Nat) (s : State) : State :=
  let bs := withdrawnBookings slots s
  if bs.isEmpty then s
  else settle (afterFinish (bs.any s.isSeriesBooking)
    (finishEach (.outcome .withdrawn .withdrawn 0) none bs s))

/-- The first part of the close work (R41, R129). -/
def sweepStream (w : StreamWindow) (s : State) : State :=
  if w.replace then finishWithdrawn (sweptSlots w s) (sweepStore w s) else s

/-! ### The rest of the close work (R42) -/

/-- The written-in-stream mark of every entry cleared. -/
def clearMarks (s : State) : State :=
  s.withEntries (s.guide.entries.map (fun e => { e with written := false }))

/-- A scan postponed by the stream is carried out, or waits for a save to end. -/
def postponedScan (s : State) : State :=
  if s.guide.agingPending then
    if s.saving then { s with guide := { s.guide with scanWaits := true } } else runScan s
  else s

/-- Whether the close causes a derivation, the clock being set: the change flag is set or a postponed scan runs. -/
def closeDerives (s : State) : Bool := s.guide.change || (s.guide.agingPending && !s.saving)

/-- The stream record CLOSED with both flags clear. -/
def closeRecord (s : State) : State :=
  { s with guide := { s.guide with stream := none, change := false, agingPending := false } }

/-- An OPEN stream closed with all of its close work (R41, R42). Expiries that the close's own pass sets at or before the
present are taken when the stream is CLOSED. -/
def closeStream (s : State) : State :=
  match s.guide.stream with
  | none => s
  | some w =>
    let t := clearMarks (sweepStream w s)
    let u := postponedScan t
    settle (closeRecord (if closeDerives t then deriveAndPass u else u))

/-- An OPEN stream closed without its close work, at a RESET (R40, R176 step 1). -/
def closeWithoutWork (s : State) : State := closeRecord s

end Sys2Proof.Machine
end

