-- ==== Sys2Proof/Machine/Line.lean ====
section
/-! DEFINITION. The Line Interface (chapter 10): characters, selection and assembly, and a message from its arrival to its
reply. -/

namespace Sys2Proof.Machine

/-! ### Characters (R168 to R170) -/

/-- The eleven bits of a character in the order the line carries them (R168): a start bit, the eight data bits least significant
first, the marker bit, the stop bit. DEDUCED (log entry 30): the start bit is low, being the opposite of a proper stop bit. -/
def charBits (c : LineChar) : List Bool :=
  false :: (List.range 8).map c.value.getLsbD ++ [c.marker, c.stopHigh]

/-- The character that eleven bits beginning with a start bit spell (R168); no other bits spell one. -/
def charOfBits : List Bool → Option LineChar
  | [false, b0, b1, b2, b3, b4, b5, b6, b7, marker, stop] =>
    some ⟨marker, BitVec.ofBoolListLE [b0, b1, b2, b3, b4, b5, b6, b7], stop⟩
  | _ => none

/-- Characters are taken in this state; in WORKING and REPLYING they are lost (R169). -/
def LineState.takes : LineState → Bool
  | .idle => true
  | .assembling _ _ => true
  | .skipping => true
  | .working _ _ _ _ => false
  | .replying => false

/-- Where an address character that selects the part says the message goes; none when it selects another drop (R169). -/
def selects (dropAddress : Nat) (address : Byte) : Option Dest :=
  if address.toNat = dropAddress then some .own
  else if address = 15 then some .broadcast
  else none

/-- A data character taken in ASSEMBLING: LEN first, then the kind, the payload and the check (R170). -/
def assemble (dest : Dest) (got : List Byte) : LineState :=
  match got with
  | [] => .assembling dest []
  | len :: rest =>
    if len = 0 ∨ Config.maxLen < len.toNat then .skipping
    else match rest with
      | [] => .assembling dest got
      | kind :: q =>
        if q.length < len.toNat then .assembling dest got
        else .working dest kind q.dropLast (q.getLastD 0)

/-- One character reaches the Line Interface (R168, R169). -/
def LineInterface.char (l : LineInterface) (c : LineChar) : LineInterface :=
  if !c.stopHigh || !l.state.takes then l
  else if c.marker then
    match selects l.dropAddress c.value with
    | some d => { l with state := .assembling d [] }
    | none => { l with state := .idle }
  else
    match l.state with
    | .assembling d got => { l with state := assemble d (got ++ [c.value]) }
    | _ => l

/-- Eleven bits reach the Line Interface: the character they spell, or nothing (R168). -/
def LineInterface.hearBits (l : LineInterface) (bs : List Bool) : LineInterface :=
  match charOfBits bs with
  | some c => l.char c
  | none => l

/-- Some characters, one after another. -/
def LineInterface.chars (l : LineInterface) (cs : List LineChar) : LineInterface :=
  cs.foldl LineInterface.char l

/-- A lead: characters none of which completes a message; one that would is no part of a lead and is passed over. -/
def LineInterface.lead (l : LineInterface) (cs : List LineChar) : LineInterface :=
  cs.foldl (fun m c =>
    match (m.char c).state with
    | .working _ _ _ _ => m
    | _ => m.char c) l

/-- A gap of more than 10 ms: a partial message is discarded (R169). -/
def LineInterface.gap (l : LineInterface) : LineInterface :=
  match l.state with
  | .assembling _ _ => { l with state := .idle }
  | _ => l

/-- The last character of a reply has been sent (R172). -/
def LineInterface.sent (l : LineInterface) : LineInterface :=
  match l.state with
  | .replying => { l with state := .idle }
  | _ => l

/-- A good address or data character. -/
def addressChar (v : Byte) : LineChar := ⟨true, v, true⟩
def dataChar (v : Byte) : LineChar := ⟨false, v, true⟩

/-- The address character of a message. -/
def LineInterface.addressOf (l : LineInterface) : Dest → Byte
  | .own => BitVec.ofNat 8 l.dropAddress
  | .broadcast => 15

/-- The characters of a message with these data characters. -/
def LineInterface.frameChars (l : LineInterface) (d : Dest) (data : List Byte) : List LineChar :=
  addressChar (l.addressOf d) :: data.map dataChar

/-- Line events change the Line Interface alone (R169); nothing reaches a part that does not run. -/
def State.onLine (s : State) (f : LineInterface → LineInterface) : State :=
  if s.running then { s with line := f s.line } else s

/-! ### A message (R171, R172) -/

/-- The part takes a message's characters: it runs and is neither WORKING nor REPLYING. -/
def State.hears (s : State) : Bool := s.running && s.line.state.takes

/-- What an owner answers: the reply of an accepted message, or a refusal with the bookings it names. -/
inductive Answer where
  | accept (body : ReplyBody)
  | refuse (reason : RefuseReason) (bookings : List Nat)
deriving DecidableEq, Repr

/-- A message's arrival closes an OPEN stream, unless it is GUIDE_PUT, GUIDE_OPEN, a RESET of a scope that names one, or
fails its check (R171 steps 1 and 2). -/
def closesStream : Instr → Bool
  | .guidePut _ _ => false
  | .guideOpen _ _ => false
  | .reset _ (.fields scope) => scope != 1 && scope != 2
  | .badCheckMessage _ _ _ _ => false
  | _ => true

/-- The kind byte, the payload and the check byte of a message command. -/
def kindByte (i : Instr) : Byte := (kindOf i).getD 0
def payloadBytes (i : Instr) : List Byte :=
  match payloadOf i with
  | some (_, p) => p
  | none => []
def checkByte (i : Instr) : Byte :=
  match i with
  | .badCheckMessage _ _ _ c => c
  | _ => checkOf (kindByte i) (payloadBytes i)

/-- The message complete, the Line Interface WORKING on it (R170). -/
def startWork (i : Instr) (d : Dest) (s : State) : State :=
  { s with line := { s.line with state := .working d (kindByte i) (payloadBytes i) (checkByte i) } }

/-- The message judged up to its owner: an open stream is closed first (R171 step 2). -/
def arrive (i : Instr) (d : Dest) (s : State) : State :=
  let t := startWork i d s
  if closesStream i then closeStream t else t

/-- The reply an answer makes (R172). -/
def replyOf (kind : Byte) : Answer → Reply
  | .accept b => .accepted b
  | .refuse r bs => .refused kind r bs

/-- The owner's work is complete: a message addressed to the part is answered, a broadcast one is not (R172). -/
def respond (kind : Byte) (d : Dest) (w : State × Answer) : State :=
  match d with
  | .own => { w.1 with line := { w.1.line with state := .replying, reply := some (replyOf kind w.2) } }
  | .broadcast => { w.1 with line := { w.1.line with state := .idle } }

/-- A message from its arrival to its reply. The owner gives the state after its work and its answer; a payload of a
length the catalogue does not give is refused before the owner sees it (R171 step 4). A message that arrives while
characters are not taken is lost (R169). -/
def message {α : Type} (i : Instr) (d : Dest) (body : Body α) (owner : α → State → State × Answer) (s : State) : State :=
  if s.hears then
    let t := arrive i d s
    match body with
    | .fields a => respond (kindByte i) d (owner a t)
    | .badLength _ => respond (kindByte i) d (t, .refuse .length [])
  else s

/-- Owners' answers: the state unchanged with a refusal, or an accepting reply. -/
def refuse (s : State) (r : RefuseReason) : State × Answer := (s, .refuse r [])
def accept (s : State) (b : ReplyBody) : State × Answer := (s, .accept b)

end Sys2Proof.Machine
end

