-- ==== Sys2Proof/Machine/Operands.lean ====
section
/-! DEFINITION. Operand forms: the settings by id with their value bytes and ranges (section 10.6, R173), and the fields
of a request payload with the tests and clamps of R54 and R55. -/

namespace Sys2Proof.Machine

/-! ### Settings (section 10.6) -/

/-- A row of the settings table: how many entries a setting has, the bytes of each, whether they are signed, their range,
and whether the setting is an enumeration (refused out of range) or clamped. -/
structure SettingRow where
  entries : Nat
  bytes : Nat
  signed : Bool
  lo : Int
  hi : Int
  enumeration : Bool
deriving DecidableEq, Repr

/-- The table of section 10.6; none for an id outside 1 to 19. -/
def settingRow : Nat → Option SettingRow
  | 1 => some ⟨1, 1, false, 1, 14, false⟩
  | 2 => some ⟨1, 2, false, 0, 3600, false⟩
  | 3 => some ⟨1, 2, false, 0, 3600, false⟩
  | 4 => some ⟨1, 2, false, 0, 10800, false⟩
  | 5 => some ⟨1, 2, false, 0, 3600, false⟩
  | 6 => some ⟨1, 2, false, 30, 900, false⟩
  | 7 => some ⟨1, 2, false, 60, 600, false⟩
  | 8 => some ⟨1, 1, false, 5, 60, false⟩
  | 9 => some ⟨1, 2, false, 0, 600, false⟩
  | 10 => some ⟨1, 4, false, 3600, 1209600, false⟩
  | 11 => some ⟨1, 1, true, -48, 56, false⟩
  | 12 => some ⟨1, 4, false, 0, 86399, false⟩
  | 13 => some ⟨1, 4, false, 0, 86399, false⟩
  | 14 => some ⟨1, 1, false, 0, 4, true⟩
  | 15 => some ⟨16, 1, false, 0, 3, true⟩
  | 16 => some ⟨3, 1, false, 0, 3, true⟩
  | 17 => some ⟨4, 2, false, 100, 5000, false⟩
  | 18 => some ⟨1, 4, false, 0, 1000000, false⟩
  | 19 => some ⟨1, 1, false, 0, 1, true⟩
  | _ => none

/-- A number from its bytes, most significant first (R179). -/
def natOfBytes (bs : List Byte) : Nat := bs.foldl (fun n b => n * 256 + b.toNat) 0

/-- The bytes of a number, most significant first; the low bytes of one too large. -/
def bytesOfNat : Nat → Nat → List Byte
  | 0, _ => []
  | w + 1, n => bytesOfNat w (n / 256) ++ [BitVec.ofNat 8 n]

/-- One entry of a setting's value from its bytes; a signed entry is one two's-complement byte (R179). -/
def entryOfBytes (r : SettingRow) (bs : List Byte) : Int :=
  let n := natOfBytes bs
  if r.signed && decide (n ≥ 128) then (n : Int) - 256 else n

/-- The entries a value carries (R173). -/
def SettingRow.decode (r : SettingRow) (value : List Byte) : List Int :=
  (List.range r.entries).map (fun i => entryOfBytes r ((value.drop (i * r.bytes)).take r.bytes))

/-- Every entry lies in the range. -/
def SettingRow.admits (r : SettingRow) (v : List Int) : Bool :=
  v.all (fun x => decide (r.lo ≤ x) && decide (x ≤ r.hi))

/-- Each entry brought into the range (R173). -/
def SettingRow.clamp (r : SettingRow) (v : List Int) : List Int :=
  v.map (fun x => max r.lo (min x r.hi))

/-- The value in force of a setting, entry by entry. -/
def Settings.get (set : Settings) : Nat → List Int
  | 1 => [(set.horizonDays : Int)]
  | 2 => [(set.prePad : Int)]
  | 3 => [(set.postPad : Int)]
  | 4 => [(set.overrunLimit : Int)]
  | 5 => [(set.lateLimit : Int)]
  | 6 => [(set.wakeLead : Int)]
  | 7 => [(set.wakeTimeout : Int)]
  | 8 => [(set.confirmTimeout : Int)]
  | 9 => [(set.warnLead : Int)]
  | 10 => [(set.stalePeriod : Int)]
  | 11 => [set.localOffset]
  | 12 => [(set.maintFrom : Int)]
  | 13 => [(set.maintTo : Int)]
  | 14 => [(set.viewerTier : Int)]
  | 15 => set.tierMap.map Int.ofNat
  | 16 => set.kindCeiling.map Int.ofNat
  | 17 => set.rateClass.map Int.ofNat
  | 18 => [(set.spaceReserve : Int)]
  | 19 => [if set.strictSpace then 1 else 0]
  | _ => []

/-- The first entry of a value. -/
def firstEntry (v : List Int) : Int := v.headD 0

/-- Every entry of a setting replaced at once (R173). -/
def Settings.put (set : Settings) (id : Nat) (v : List Int) : Settings :=
  match id with
  | 1 => { set with horizonDays := (firstEntry v).toNat }
  | 2 => { set with prePad := (firstEntry v).toNat }
  | 3 => { set with postPad := (firstEntry v).toNat }
  | 4 => { set with overrunLimit := (firstEntry v).toNat }
  | 5 => { set with lateLimit := (firstEntry v).toNat }
  | 6 => { set with wakeLead := (firstEntry v).toNat }
  | 7 => { set with wakeTimeout := (firstEntry v).toNat }
  | 8 => { set with confirmTimeout := (firstEntry v).toNat }
  | 9 => { set with warnLead := (firstEntry v).toNat }
  | 10 => { set with stalePeriod := (firstEntry v).toNat }
  | 11 => { set with localOffset := firstEntry v }
  | 12 => { set with maintFrom := (firstEntry v).toNat }
  | 13 => { set with maintTo := (firstEntry v).toNat }
  | 14 => { set with viewerTier := (firstEntry v).toNat }
  | 15 => { set with tierMap := v.map Int.toNat }
  | 16 => { set with kindCeiling := v.map Int.toNat }
  | 17 => { set with rateClass := v.map Int.toNat }
  | 18 => { set with spaceReserve := (firstEntry v).toNat }
  | 19 => { set with strictSpace := firstEntry v == 1 }
  | _ => set

/-- The value a PARAM_SET leaves in a setting, or none when it is refused with RANGE (R173 step 3). -/
def acceptedValue (r : SettingRow) (v : List Int) : Option (List Int) :=
  if r.enumeration then (if r.admits v then some v else none) else some (r.clamp v)

/-! ### Request payloads (R54, R55, R179) -/

/-- The flags byte of a request payload: bit 0 ACCURATE, bit 1 NEW_ONLY (R179). -/
def accurateFlag (c : ReqCommon) : Bool := c.flags.getLsbD 0
def newOnlyFlag (c : ReqCommon) : Bool := c.flags.getLsbD 1

/-- A pad as stored: 65,535 is "default", any other value is at most 3,600 (R179, R55). -/
def padOf (w : Word16) : Option Nat := if w.toNat = 65535 then none else some (min w.toNat Config.maxPad)

/-- Whether a pad was clamped. -/
def padClamped (w : Word16) : Bool := w.toNat != 65535 && decide (w.toNat > Config.maxPad)

/-- An importance as stored (R55). -/
def importanceOf (b : Byte) : Nat := min b.toNat Config.maxImportance

/-- Whether the common fields were clamped. -/
def commonClamped (c : ReqCommon) : Bool :=
  decide (c.importance.toNat > Config.maxImportance) || padClamped c.prePad || padClamped c.postPad

/-- A TIMED duration as stored (R55). -/
def timedDuration (w : Word16) : Nat := min w.toNat Config.maxTimed

def timedClamped (w : Word16) : Bool := decide (w.toNat > Config.maxTimed)

/-- The days set of a request payload: bits 0 to 6 (R179). -/
def daysOf (b : Byte) : BitVec 7 := b.truncate 7

/-- The TIMED fields that R54 test 2 judges beside the channel: the duration, the days set and the start. -/
def timedRangeOk (duration : Word16) (days : Byte) (start : Word32) : Bool :=
  decide (Config.minTimed ≤ duration.toNat) && !days.getLsbD 7
    && (if daysOf days = 0 then decide (start.toNat + timedDuration duration ≤ Config.maxTime)
        else decide (start.toNat < Config.daySeconds))

/-- A channel from 1 to 9,999, and one from 0 to 9,999. -/
def channelOk (w : Word16) : Bool := decide (1 ≤ w.toNat) && decide (w.toNat ≤ Config.maxChannel)
def channelOrAny (w : Word16) : Bool := decide (w.toNat ≤ Config.maxChannel)

/-- A request a REQ_ADD asks for, with its fields clamped, before it has a number; `none` when a field that is not clamped
is out of range (R54 test 2, R55). -/
structure AskedRequest where
  importance : Nat
  prePad : Option Nat
  postPad : Option Nat
  kind : RequestKind
  clamped : Bool
deriving DecidableEq, Repr

def asked (a : ReqAddArgs) : Option AskedRequest :=
  match a with
  | .timed c channel duration days start =>
    if channelOk channel && timedRangeOk duration days start then
      some ⟨importanceOf c.importance, padOf c.prePad, padOf c.postPad,
        .timed ⟨channel.toNat, timedDuration duration, daysOf days, start.toNat, [], none⟩,
        commonClamped c || timedClamped duration⟩
    else none
  | .event c channel eventId =>
    if channelOk channel && eventId != 0 then
      some ⟨importanceOf c.importance, padOf c.prePad, padOf c.postPad,
        .event ⟨channel.toNat, eventId.toNat, accurateFlag c⟩, commonClamped c⟩
    else none
  | .series c seriesId channel =>
    if channelOrAny channel && seriesId != 0 then
      some ⟨importanceOf c.importance, padOf c.prePad, padOf c.postPad,
        .series ⟨seriesId.toNat, channel.toNat, newOnlyFlag c, accurateFlag c, []⟩, commonClamped c⟩
    else none
  | .other _ _ => none

/-- The new request in its slot (R55). -/
def AskedRequest.request (a : AskedRequest) (number : Nat) : Request :=
  ⟨number, .active, a.importance, a.prePad, a.postPad, 0, a.kind⟩

/-- The occurrence of a single TIMED request has ended at or before the present, the clock being set (R54 test 3, R59
test 8). -/
def singleEnded (s : State) : RequestKind → Bool
  | .timed f => f.days == 0 && s.clockSet && decide (f.start + f.duration ≤ s.present)
  | _ => false

/-- Two requests duplicate each other: EVENT requests with one key, or SERIES requests with one key (R54 test 5). -/
def duplicates : RequestKind → RequestKind → Bool
  | .event f, .event g => f.channel == g.channel && f.eventId == g.eventId
  | .series f, .series g => f.seriesId == g.seriesId && f.channel == g.channel
  | _, _ => false

/-- The channel a kind names, 0 for none. -/
def RequestKind.channel : RequestKind → Nat
  | .timed f => f.channel
  | .event f => f.channel
  | .series f => f.channel

/-! ### REQ_EDIT (R59, R60) -/

/-- The fields of a REQ_EDIT that R59 test 2 judges. -/
def editRangeOk : ReqEditBody → Bool
  | .timed _ duration days start => timedRangeOk duration days start
  | .event _ => true
  | .series _ => true
  | .other _ _ => false

/-- The carried kind is the request's kind (R59 test 5). -/
def editKindOk : ReqEditBody → RequestKind → Bool
  | .timed _ _ _ _, .timed _ => true
  | .event _, .event _ => true
  | .series _, .series _ => true
  | _, _ => false

/-- A TIMED edit does not turn a repeating request single, nor the reverse (R59 test 6). -/
def editDaysOk : ReqEditBody → RequestKind → Bool
  | .timed _ _ days _, .timed f => (daysOf days == 0) == (f.days == 0)
  | _, _ => true

/-- The carried start and duration, after clamping, are a TIMED request's own (R59 test 7). -/
def editTimesSame : ReqEditBody → RequestKind → Bool
  | .timed _ duration _ start, .timed f => start.toNat == f.start && timedDuration duration == f.duration
  | _, _ => true

/-- The common fields of a REQ_EDIT. -/
def editCommon : ReqEditBody → ReqCommon
  | .timed c _ _ _ => c
  | .event c => c
  | .series c => c
  | .other _ _ => ⟨0, 0, 0, 0⟩

/-- Whether a REQ_EDIT's fields were clamped (R60). -/
def editClamped : ReqEditBody → Bool
  | .timed c duration _ _ => commonClamped c || timedClamped duration
  | .event c => commonClamped c
  | .series c => commonClamped c
  | .other _ _ => false

/-- A kind's fields with the carried ones in place (R60). -/
def editKind : ReqEditBody → RequestKind → RequestKind
  | .timed _ duration days start, .timed f =>
    .timed { f with duration := timedDuration duration, days := daysOf days, start := start.toNat }
  | .event c, .event f => .event { f with accurate := accurateFlag c }
  | .series c, .series f => .series { f with newOnly := newOnlyFlag c, accurate := accurateFlag c }
  | _, k => k

/-- A request with a REQ_EDIT's fields in place (R60). -/
def editedRequest (b : ReqEditBody) (r : Request) : Request :=
  { r with
    importance := importanceOf (editCommon b).importance
    prePad := padOf (editCommon b).prePad
    postPad := padOf (editCommon b).postPad
    kind := editKind b r.kind }

/-! ### Small enumerations -/

/-- A value carried as 0 or 1; none for any other (R179). -/
def flagOf (b : Byte) : Option Bool :=
  if b = 0 then some false else if b = 1 then some true else none

/-- A network mask or a panel pattern, from 0 to 15; none above (R179, R149, R150). -/
def nibbleOf (b : Byte) : Option (BitVec 4) := if b.toNat < 16 then some (b.truncate 4) else none

/-- Running status (R179). -/
def statusOf (b : Byte) : Option RunningStatus :=
  match b.toNat with
  | 0 => some .unknown
  | 1 => some .notRunning
  | 2 => some .soon
  | 3 => some .running
  | 4 => some .paused
  | _ => none

/-- Panel triggers (R179). -/
def triggerOf (b : Byte) : Option Trigger :=
  match b.toNat with
  | 1 => some .recFirst
  | 2 => some .recLast
  | 3 => some .wake
  | 4 => some .rest
  | _ => none

end Sys2Proof.Machine
end

