-- ==== Sys2Proof/Machine/Power.lean ====
section
/-! DEFINITION. Power, the reset pin and the time base: POWER_ON, POWER_LOSS, RESET_PIN, PRESENT_ADVANCE (R1, R167, R178,
R184, R186). -/

namespace Sys2Proof.Machine

/-- The stored content of a part with no image: every default (R186). -/
def StoredContent.defaults : StoredContent where
  settings := Settings.defaults
  services := []
  tunerA := TunerConfig.defaults
  tunerB := TunerConfig.defaults
  requests := []
  masks := AlertMasks.clear
  attnEnable := true
  staged := StagedPatterns.defaults

/-- The drop address the straps give: 0 and 15 give 14 (R167). -/
def dropOf (p : Straps) : Nat :=
  if p.address.toNat = 0 ∨ p.address.toNat = 15 then 14 else p.address.toNat

/-- The rate the rate strap gives (R167). -/
def rateOf (p : Straps) : LineRate := if p.rateHigh then .baud115200 else .baud57600

/-- A part that does not run: all volatile state at its power-on values, the outputs released, the panel lines low (R167).
The flash and the queue of commands are outside the volatile state. -/
def State.blank (s : State) (powered resetLow : Bool) : State where
  pending := s.pending
  powered := powered
  resetLow := resetLow
  present := 0
  clockSet := false
  settings := Settings.defaults
  services := []
  tunerA := ⟨true, 0xF, none⟩
  tunerB := ⟨true, 0xF, none⟩
  guide := GuideStore.empty
  requests := []
  plan := Planner.empty
  run := ⟨false, 0⟩
  host := HostRecord.powerOn
  panel := ⟨0, StagedPatterns.defaults⟩
  outbox := ⟨[], [], 0, true⟩
  alerts := ⟨AlertMasks.clear, LevelFlags.clear, 0, 0, false, false, .absent⟩
  image := ⟨.absent, false, .none, none, s.image.flash, none⟩
  line := ⟨14, .baud57600, .idle, none⟩
  agenda := []

/-- Stored content put into the blocks that own it (R186). -/
def State.withContent (s : State) (c : StoredContent) : State :=
  { s with
    settings := c.settings
    services := c.services
    tunerA := ⟨c.tunerA.enabled, c.tunerA.mask, none⟩
    tunerB := ⟨c.tunerB.enabled, c.tunerB.mask, none⟩
    requests := c.requests
    panel := { s.panel with staged := c.staged }
    outbox := { s.outbox with attnEnable := c.attnEnable }
    alerts := { s.alerts with masks := c.masks } }

/-- The Image Store's load: the image when its marker is present, the defaults otherwise (R186). -/
def State.loadImage (s : State) : State :=
  match s.image.flash with
  | some i =>
    { s.withContent i.content with
      image := { s.image with state := .current, lastSaved := i.savedAt }
      alerts := { (s.withContent i.content).alerts with image := .current } }
  | none => s.withContent StoredContent.defaults

/-- Each level source sampled once (R166). -/
def State.sampleAll (s : State) : State :=
  (((s.sample .clashPresent).sample .spaceShort).sample .capacity).sample .storeStale

/-- The part starts (R178): the straps are sampled, the image is loaded, the level sources are sampled. -/
def State.start (s : State) (p : Straps) : State :=
  let t := s.blank true false
  State.sampleAll (State.loadImage { t with line := ⟨dropOf p, rateOf p, .idle, none⟩ })

/-- POWER_ON: the supply comes up. While RESET_N is held low the part waits for its release (R167). -/
def powerUp (p : Straps) (s : State) : State :=
  if s.resetLow then s.blank true true else s.start p

def execPowerOn (p : Straps) (s : State) : Host.Outcome State Fault Refusal := .next (powerUp p s)

/-- RESET_PIN: RESET_N is pulled low and held, or returns high after being held low (R167). -/
def resetPinWork (e : ResetPinEvent) (s : State) : State :=
  match e with
  | .low => s.blank s.powered true
  | .release p =>
    if s.resetLow then (if s.powered then s.start p else s.blank false false) else s

def execResetPin (e : ResetPinEvent) (s : State) : Host.Outcome State Fault Refusal := .next (resetPinWork e s)

/-- POWER_LOSS: all volatile state is dropped; a save in progress has left no completion marker (R184). -/
def execPowerLoss (s : State) : Host.Outcome State Fault Refusal := .next (s.blank false s.resetLow)

/-- PRESENT_ADVANCE: a second passes; the present stops at its last value (R1). The expiries that fall at the new present are
commands of their own. -/
def advance (s : State) : State :=
  if s.running then { s with present := min (s.present + 1) Config.maxTime } else s

def execPresentAdvance (s : State) : Host.Outcome State Fault Refusal := .next (advance s)

end Sys2Proof.Machine
end

