-- ==== Sys2Proof/Machine/Setup.lean ====
section
/-! DEFINITION. The messages that belong to no single block: PARAM_SET, PARAM_GET, QUERY, RESET (R173 to R177). -/

namespace Sys2Proof.Machine

/-! ### What a changed setting causes (section 10.6) -/

/-- OVERRUN_LIMIT lowered: each RECORDING booking past its new cap is pulled down to it, or to the present (R130). -/
def pullDown (s : State) (b : Booking) : Booking :=
  let cap := capOf s.settings b
  if b.state = some .recording ∧ cap < b.provEnd then
    { b with
      provEnd := max cap s.present
      provExpiry := some (max cap s.present)
      cut := some .limit }
  else b

/-- A booking pulled down to the present finishes TRUNCATED with reason LIMIT (R130, R127). -/
def pulledEnding (s : State) (b : Booking) : Option (Ending × Option Reason) :=
  if b.state = some .recording ∧ b.cut = some .limit ∧ b.provEnd ≤ s.present then
    some (.outcome .truncated .limit 0, some .limit)
  else none

/-- A RECORDING booking whose provisional end lies past its cap. -/
def pastCap (s : State) (b : Booking) : Bool :=
  b.state == some .recording && decide (capOf s.settings b < b.provEnd)

/-- The effect of a changed OVERRUN_LIMIT (R130): a lowering pulls provisional ends down; the bookings pulled down to the
present finish as one group with one step 8 (R133); then the lowering's own pass follows, each cause having its pass (R88).
DEDUCED (log entry 24): a lowering of the setting that lowers no provisional end runs no pass, R88 naming only a lowering of
provisional ends where R130 says that a pass follows the lowering. -/
def overrunChanged (before : Nat) (s : State) : State :=
  if s.settings.overrunLimit < before && s.plan.bookings.any (pastCap s) then
    let t := s.withBookings (s.plan.bookings.map (pullDown s))
    let ended := (s.plan.bookings.filter (fun b =>
      pastCap s b && decide (capOf s.settings b ≤ s.present))).map Booking.number
    settle (passIfSet (settle (finishGroup pulledEnding ended t)))
  else s

/-- A booking's late limit or take deadline recomputed for a changed LATE_LIMIT (R118). -/
def relimit (set : Settings) (b : Booking) : Booking :=
  match b.state with
  | some .clashed => { b with lateExpiry := some (lateLimitOf set b) }
  | some .late => { b with lateExpiry := some (lateLimitOf set b) }
  | some .due => { b with takeExpiry := b.dueAt.map (takeDeadlineOf set b) }
  | _ => b

/-- A recomputed instant that lies at or before the present. -/
def limitReached (s : State) (b : Booking) : Bool :=
  match b.state with
  | some .clashed => reached s.present b.lateExpiry
  | some .late => reached s.present b.lateExpiry
  | some .due => reached s.present b.takeExpiry
  | _ => false

/-- How a booking whose limit has been reached ends (R116). -/
def reachedEnding (s : State) (b : Booking) : Option (Ending × Option Reason) :=
  if limitReached s b then (limitEnding s b).map (fun e => (e, none)) else none

/-- The effect of a changed LATE_LIMIT (R118). -/
def lateChanged (s : State) : State :=
  let t := s.withBookings (s.plan.bookings.map (relimit s.settings))
  settle (finishGroup reachedEnding ((t.plan.bookings.filter (limitReached t)).map Booking.number) t)

/-- A hold's warning expiry recomputed for a changed WARN_LEAD: of a hold with a yield time that has not been warned
(R25). -/
def rewarn (t : TunerId) (s : State) : State :=
  match (s.tuner t).hold with
  | some h => if h.yieldTime.isSome && !h.warned then s.setWarning t h else s
  | none => s

/-- The effect section 10.6 names for a changed setting, `before` being the settings before the change. DESIGN CHOICE (log entry
7): of two warnings that a changed WARN_LEAD makes due at once, tuner A's is taken first; R25 gives no order. -/
def settingEffect (id : Nat) (before : Settings) (s : State) : State :=
  match id with
  | 1 => settle (deriveAndPass s)
  | 2 => settle (deriveAndPass s)
  | 3 => settle (deriveAndPass s)
  | 4 => overrunChanged before.overrunLimit s
  | 5 => lateChanged s
  | 6 => settle (recomputeWake s)
  | 9 => settle (rewarn .b (rewarn .a s))
  | 11 => settle (recomputeWake (deriveAndPass s))
  | 12 => settle (recomputeWake s)
  | 13 => settle (recomputeWake s)
  | 14 => settle (passIfSet s)
  | 15 => settle (passIfSet s)
  | 16 => settle (passIfSet s)
  | 17 => spacePart s
  | 18 => spacePart s
  | _ => s

/-! ### PARAM_SET and PARAM_GET (R173, R174) -/

/-- A setting replaced, with the effect of the change when it is one. -/
def setSetting (id : Nat) (v : List Int) (s : State) : State :=
  if s.settings.get id = v then s
  else settingEffect id s.settings (s.changing (fun t => { t with settings := t.settings.put id v }))

/-- PARAM_SET's owner. -/
def paramSetWork (a : ParamSetArgs) (s : State) : State × Answer :=
  if s.saving then refuse s .busy
  else match settingRow a.id.toNat with
    | none => refuse s .range
    | some r =>
      match acceptedValue r (r.decode a.value) with
      | none => refuse s .range
      | some v =>
        accept (setSetting a.id.toNat v s)
          (.paramSet a.id.toNat v (v != r.decode a.value) (s.settings.get a.id.toNat != v))

def execParamSet (d : Dest) (b : Body ParamSetArgs) (s : State) : Host.Outcome State Fault Refusal :=
  .next (message (.paramSet d b) d b paramSetWork s)

/-- PARAM_GET's owner. -/
def paramGetWork (id : Byte) (s : State) : State × Answer :=
  match settingRow id.toNat with
  | none => refuse s .range
  | some _ => accept s (.paramGet id.toNat (s.settings.get id.toNat))

def execParamGet (d : Dest) (b : Body Byte) (s : State) : Host.Outcome State Fault Refusal :=
  .next (message (.paramGet d b) d b paramGetWork s)

/-! ### QUERY (R175) -/

/-- The number of requests, and of bookings, in a state. -/
def State.requestsIn (s : State) (st : RequestState) : Nat := (s.requests.filter (fun r => r.state == st)).length
def State.bookingsIn (s : State) (st : BookingState) : Nat := (s.inState st).length

/-- The part's condition as QUERY reports it. The next wake time is none when no wake expiry is held. -/
def queryReport (s : State) : QueryReport where
  clockSet := s.clockSet
  present := s.present
  host := s.host.state
  hold := s.run.hold
  attnEnable := s.outbox.attnEnable
  services := s.services.length
  entries := s.guide.entries.length
  active := s.requestsIn .active
  paused := s.requestsIn .paused
  dropping := s.requestsIn .dropping
  planned := s.bookingsIn .planned
  clashed := s.bookingsIn .clashed
  late := s.bookingsIn .late
  due := s.bookingsIn .due
  starting := s.bookingsIn .starting
  recording := s.bookingsIn .recording
  directives := s.outbox.directives.length
  notices := s.outbox.notices.length
  lost := s.outbox.lost
  image := s.image.state
  nextWake := s.host.wakeExpiry
  recordings := s.run.recordings

/-- QUERY's owner; a broadcast QUERY forms no reply and leaves the lost-notice count. -/
def queryWork (d : Dest) (_ : Unit) (s : State) : State × Answer :=
  match d with
  | .own => accept { s with outbox := { s.outbox with lost := 0 } } (.query (queryReport s))
  | .broadcast => accept s (.query (queryReport s))

def execQuery (d : Dest) (b : Body Unit) (s : State) : Host.Outcome State Fault Refusal :=
  .next (message (.query d b) d b (queryWork d) s)

/-! ### RESET (R176, R177) -/

/-- Steps 1 and 2: the stream CLOSED without its close work; a save abandoned; a scan pending or waiting discarded and the
next one set afresh (R40, R47, R184). -/
def resetStreamAndSave (s : State) : State :=
  let dropped := s.guide.agingPending || s.guide.scanWaits
  let t := stopSave .reset (closeWithoutWork s)
  { t with guide := { t.guide with
      scanWaits := false
      nextScan := if dropped then some (s.present + Config.scanInterval) else t.guide.nextScan } }

/-- Steps 3 to 6: the guide, the Booking List, the holds and the DROPPING requests go. -/
def resetTables (s : State) : State :=
  { s with
    guide := { s.guide with entries := [], full := false }
    plan := { s.plan with bookings := [], counter := 1, listShort := false, occupancy := [] }
    run := ⟨false, 0⟩
    tunerA := withoutHold s.tunerA
    tunerB := withoutHold s.tunerB
    requests := s.requests.filter (fun r => r.state != .dropping) }
where
  /-- A tuner record without its hold. -/
  withoutHold (t : Tuner) : Tuner := { t with hold := none }

/-- Step 7: the queues, the lost-notice count, the in-service flags and the condition values (R151, R160, R163). -/
def resetOutbox (s : State) : State :=
  { s with
    outbox := { s.outbox with directives := [], notices := [], lost := 0 }
    alerts := { s.alerts with
      inService := LevelFlags.clear, clashCount := 0, spaceCount := 0, guideFull := false, listShort := false } }

/-- Step 8, for DEFAULTS (R177). It counts as a change of stored content whatever the content was, so a CURRENT image
becomes STALE. -/
def resetDefaults (s : State) : State :=
  let t := (s.withContent StoredContent.defaults).markChanged
  { t with plan := { t.plan with freeSpace := none } }

/-- The work of a reset, whole (R176). -/
def resetWork (defaults : Bool) (s : State) : State :=
  let s := resetOutbox (resetTables (resetStreamAndSave s))
  let s := if defaults then resetDefaults s else s
  settle (deriveAndPass s.sampleAll)

/-- An accepted RESET: the reply is sent first, unless the message was broadcast; the Line Interface is IDLE when the work
is complete (R176). -/
def resetAccepted (d : Dest) (b : Body Byte) (defaults : Bool) (s : State) : State :=
  let t := startWork (.reset d b) d s
  let reply := match d with
    | .own => some (Reply.accepted (.reset (if defaults then 2 else 1)))
    | .broadcast => t.line.reply
  let u := resetWork defaults { t with line := { t.line with reply := reply } }
  { u with line := { u.line with state := .idle } }

/-- The scope a RESET payload names: false for SOFT, true for DEFAULTS. -/
def resetScope : Body Byte → Option Bool
  | .fields b => if b = 1 then some false else if b = 2 then some true else none
  | .badLength _ => none

/-- A RESET from its arrival: a scope that names none is refused with RANGE. -/
def resetMessage (d : Dest) (b : Body Byte) (s : State) : State :=
  match resetScope b with
  | some defaults => if s.hears then resetAccepted d b defaults s else s
  | none => message (.reset d b) d b (fun _ t => refuse t .range) s

def execReset (d : Dest) (b : Body Byte) (s : State) : Host.Outcome State Fault Refusal :=
  .next (resetMessage d b s)

end Sys2Proof.Machine
end

