-- ==== Sys2Proof/Machine/Bookings.lean ====
section
/-! DEFINITION. Bookings (chapters 5 to 7): BOOK_READ, BOOK_CANCEL, BOOK_STOP, SPACE, HOLD, CONFIRM, and the expiries
WINDOW_START, LATE_LIMIT, TAKE_DEADLINE, CONFIRM_TIMER, PROVISIONAL_END. -/

namespace Sys2Proof.Machine

/-! ### BOOK_READ (R87) -/

/-- The live bookings from a number on, in ascending order of number. -/
def bookingsFrom (s : State) (number : Nat) : List Booking :=
  sortBy (fun b c => decide (b.number < c.number)) (s.plan.bookings.filter (fun b => decide (number ≤ b.number)))

/-- The number of the first booking beyond the two returned, or 0. -/
def nextBooking (bs : List Booking) : Nat :=
  match bs.drop 2 with
  | b :: _ => b.number
  | [] => 0

/-- BOOK_READ's owner. -/
def bookReadWork (w : Word16) (s : State) : State × Answer :=
  accept s (.bookRead ((bookingsFrom s w.toNat).take 2) (nextBooking (bookingsFrom s w.toNat)))

def execBookRead (d : Dest) (b : Body Word16) (s : State) : Host.Outcome State Fault Refusal :=
  .next (message (.bookRead d b) d b bookReadWork s)

/-! ### BOOK_CANCEL and BOOK_STOP (R124, R125) -/

/-- BOOK_CANCEL's owner. -/
def bookCancelWork (w : Word16) (s : State) : State × Answer :=
  if w = 0 then refuse s .range
  else match s.booking? w.toNat with
    | none => refuse s .unknown
    | some b =>
      if b.state = some .starting ∨ b.state = some .recording then refuse s .state
      else accept (settle (finishOne .cancel none b s)) .bookCancel

def execBookCancel (d : Dest) (b : Body Word16) (s : State) : Host.Outcome State Fault Refusal :=
  .next (message (.bookCancel d b) d b bookCancelWork s)

/-- BOOK_STOP's owner. -/
def bookStopWork (w : Word16) (s : State) : State × Answer :=
  if w = 0 then refuse s .range
  else match s.booking? w.toNat with
    | none => refuse s .unknown
    | some b =>
      if b.state = some .recording then
        accept (settle (finishOne (.outcome .truncated .hostStop 0) none b s)) .bookStop
      else refuse s .state

def execBookStop (d : Dest) (b : Body Word16) (s : State) : Host.Outcome State Fault Refusal :=
  .next (message (.bookStop d b) d b bookStopWork s)

/-! ### SPACE (R107) -/

/-- The free-space figure written, and the space part run. -/
def spaceTold (v : Nat) (s : State) : State := spacePart { s with plan := { s.plan with freeSpace := some v } }

/-- SPACE's owner. DEDUCED (log entry 27): the number of bookings flagged SPACE_SHORT that the reply carries is the count the
space part makes and reports, of PLANNED and LATE bookings (R109); a running booking that keeps its flag is not counted. -/
def spaceWork (w : Word32) (s : State) : State × Answer :=
  let t := spaceTold w.toNat s
  accept t (.space ((budget t).getD 0) (totalSize t) (flaggedCount t))

def execSpace (d : Dest) (b : Body Word32) (s : State) : Host.Outcome State Fault Refusal :=
  .next (message (.space d b) d b spaceWork s)

/-! ### HOLD (R120) -/

/-- A DUE booking made LATE again: its BEGIN is withdrawn and its take deadline gives way to its late limit. -/
def holdBack (number : Nat) (s : State) : State :=
  (s.withdrawBegin number).mapBooking number (fun c => { c with
    state := some .late, dueAt := none, takeExpiry := none, lateExpiry := some (lateLimitOf s.settings c) })

/-- HOLD turned on; late limits already past finish their bookings as one group (R120, R133). -/
def holdOn (s : State) : State :=
  let due := (s.inState .due).map Booking.number
  let t := due.foldl (fun u n => holdBack n u) { s with run := { s.run with hold := true } }
  let past := due.filter (fun n => match t.booking? n with
    | some b => limitReached t b
    | none => false)
  settle (finishGroup reachedEnding past t)

/-- HOLD turned off: the LATE bookings are taken, and those turned away share one step 8 (R120, R115). -/
def holdOff (s : State) : LateWork :=
  let w := takeLates { s with run := { s.run with hold := false } }
  { w with state := settle (if w.skipped = 0 then w.state else afterFinish w.series w.state) }

/-- HOLD's owner. -/
def holdWork (b : Byte) (s : State) : State × Answer :=
  match flagOf b with
  | none => refuse s .range
  | some v =>
    if s.run.hold = v then accept s (.hold v 0)
    else if v then accept (holdOn s) (.hold true (s.inState .due).length)
    else accept (holdOff s).state (.hold false (holdOff s).madeDue)

def execHold (d : Dest) (b : Body Byte) (s : State) : Host.Outcome State Fault Refusal :=
  .next (message (.hold d b) d b holdWork s)

/-! ### CONFIRM (R122) -/

/-- A STARTING booking made RECORDING. -/
def startRecording (s : State) (b : Booking) : Booking :=
  { b with state := some .recording, begun := some s.present, confirmExpiry := none }

/-- The early end of a booking that has just reached RECORDING, where it applies (R122 step 5). -/
def earlyEndAtConfirm (number : Nat) (s : State) : State :=
  match s.booking? number with
  | some b => if earlyEndApplies s b then settle (earlyEnd number s) else s
  | none => s

/-- CONFIRM with code 0. -/
def confirmed (b : Booking) (s : State) : State :=
  let t := s.mapBooking b.number (startRecording s)
  let t := t.setRecordings (t.run.recordings + 1)
  let t := match b.provExpiry with
    | some x => t.atOnce (.provisionalEnd b.number) x
    | none => t
  earlyEndAtConfirm b.number (settle t)

/-- CONFIRM's owner. -/
def confirmMessage (a : ConfirmArgs) (s : State) : State × Answer :=
  if a.booking = 0 then refuse s .range
  else match s.booking? a.booking.toNat with
    | none => refuse s .state
    | some b =>
      if b.state = some .starting then
        if a.code = 0 then accept (confirmed b s) (.confirm true)
        else accept (settle (finishOne (.outcome .failed .hostFail a.code.toNat) none b s)) (.confirm false)
      else refuse s .state

def execConfirm (d : Dest) (b : Body ConfirmArgs) (s : State) : Host.Outcome State Fault Refusal :=
  .next (message (.confirm d b) d b confirmMessage s)

/-! ### Expiries (R113, R116, R123, R127) -/

/-- WINDOW_START. -/
def execWindowStart (n : Nat) (s : State) : Host.Outcome State Fault Refusal := .next (expire (.windowStart n) s)

/-- LATE_LIMIT. -/
def execLateLimit (n : Nat) (s : State) : Host.Outcome State Fault Refusal := .next (expire (.lateLimit n) s)

/-- TAKE_DEADLINE. -/
def execTakeDeadline (n : Nat) (s : State) : Host.Outcome State Fault Refusal := .next (expire (.takeDeadline n) s)

/-- CONFIRM_TIMER. -/
def execConfirmTimer (n : Nat) (s : State) : Host.Outcome State Fault Refusal := .next (expire (.confirmTimer n) s)

/-- PROVISIONAL_END. -/
def execProvisionalEnd (n : Nat) (s : State) : Host.Outcome State Fault Refusal := .next (expire (.provisionalEnd n) s)

end Sys2Proof.Machine
end

