-- ==== Sys2Proof/Machine/Clock.lean ====
section
/-! DEFINITION. CLOCK (R2 to R5), and what a step hands on (R4, R39, R47, R135, R136, R146). -/

namespace Sys2Proof.Machine

/-- A carried station time the clock accepts (R2). -/
def clockAccepts (v : Nat) : Bool := decide (Config.clockMin ≤ v) && decide (v ≤ Config.clockMax)

/-- The step class of an accepted CLOCK (R3). -/
def stepClass (wasSet : Bool) (old v : Nat) : StepClass :=
  if !wasSet then .first
  else if v = old then .none
  else if old < v then .forward
  else .backward

/-- The size of a step with the clock set before it (R3). -/
def stepSize (old v : Nat) : Nat := (v - old) + (old - v)

/-- A step of more than 300 s is large (R3). -/
def isLarge (old v : Nat) : Bool := decide (stepSize old v > Config.largeStep)

/-! ### The expiries a FORWARD step crosses (R4, R135) -/

/-- An instant after the old present and at or before the new one, with its expiry. -/
def crossed (old v : Nat) (t : Option Nat) (d : Due) : List (Nat × Due) :=
  match t with
  | some x => if old < x ∧ x ≤ v then [(x, d)] else []
  | none => []

/-- The crossed expiries of one booking, in the order of their instants (R135). -/
def crossedOf (old v : Nat) (b : Booking) : List Due :=
  (sortBy (fun (x y : Nat × Due) => x.1 < y.1)
    (crossed old v b.windowExpiry (.windowStart b.number)
      ++ crossed old v b.lateExpiry (.lateLimit b.number)
      ++ crossed old v b.takeExpiry (.takeDeadline b.number)
      ++ crossed old v b.confirmExpiry (.confirmTimer b.number)
      ++ crossed old v b.provExpiry (.provisionalEnd b.number))).map Prod.snd

/-- The crossed warning expiry of a tuner's hold. -/
def crossedWarning (old v : Nat) (s : State) (t : TunerId) : List (Nat × Due) :=
  match (s.tuner t).hold with
  | some h => crossed old v h.warnExpiry (.warning t)
  | none => []

/-- Every expiry the step crosses. The warnings and the host's expiry come first, so that nothing the bookings' expiries
bring about (a hold displaced, a wake expiry computed afresh) keeps one of them from being taken (R4, R146); the bookings'
follow in list order, and the scan comes last (log entry 7). -/
def crossedDues (old v : Nat) (s : State) : List Due :=
  (crossedWarning old v s .a ++ crossedWarning old v s .b
      ++ crossed old v s.host.wakeExpiry .wake ++ crossed old v s.host.wakeTimer .wakeTimer).map Prod.snd
    ++ (s.plan.bookings.map (crossedOf old v)).flatten
    ++ (crossed old v s.guide.nextScan .scan).map Prod.snd

/-! ### The work of each class -/

/-- The present and the clock-set flag after an accepted CLOCK (R2). -/
def State.setClock (s : State) (v : Nat) : State := { s with present := v, clockSet := true }

/-- FIRST: pending entries are refreshed at the first-set instant, and the scans begin from it (R39, R47). -/
def firstStep (v : Nat) (s : State) : State :=
  let t := s.setClock v
  settle (deriveAndPass { t with guide := { t.guide with
    entries := t.guide.entries.map (fun e =>
      if e.refreshedAt = none then { e with refreshedAt := some v } else e)
    nextScan := some (v + Config.scanInterval) } })

/-- FORWARD: the crossed expiries are taken, and a large step derives and plans afresh (R4, R5). -/
def forwardStep (v : Nat) (s : State) : State :=
  let old := s.present
  let t := s.setClock v
  let t := settle { t with agenda := crossedDues old v t }
  if isLarge old v then settle (deriveAndPass t) else t

/-- A confirm timer or wake timer too far ahead of the new present is moved to it plus its timeout (R136, R146). -/
def heldBack (v timeout : Nat) (t : Option Nat) : Option Nat :=
  t.map (fun x => min x (v + timeout))

/-- BACKWARD: expiries wait for the present; confirm timers and a wake timer do not wait out the step (R136, R146). -/
def backwardStep (v : Nat) (s : State) : State :=
  let old := s.present
  let t := s.setClock v
  let t := t.withBookings (t.plan.bookings.map (fun b =>
    { b with confirmExpiry := heldBack v s.settings.confirmTimeout b.confirmExpiry }))
  let t := { t with host := { t.host with wakeTimer := heldBack v s.settings.wakeTimeout t.host.wakeTimer } }
  if isLarge old v then settle (deriveAndPass t) else t

/-- An accepted CLOCK's work. -/
def clockStep (v : Nat) (s : State) : State :=
  match stepClass s.clockSet s.present v with
  | .none => s
  | .first => firstStep v s
  | .forward => forwardStep v s
  | .backward => backwardStep v s

/-- CLOCK's owner. -/
def clockWork (w : Word32) (s : State) : State × Answer :=
  if clockAccepts w.toNat then
    accept (clockStep w.toNat s) (.clock (stepClass s.clockSet s.present w.toNat) s.present)
  else refuse s .range

def execClock (d : Dest) (b : Body Word32) (s : State) : Host.Outcome State Fault Refusal :=
  .next (message (.clock d b) d b clockWork s)

end Sys2Proof.Machine
end

