-- ==== Sys2Proof/Machine/Guide.lean ====
section
/-! DEFINITION. The guide (chapter 3): GUIDE_OPEN, GUIDE_PUT, GUIDE_FLUSH, RUNNING, and the expiry AGING_SCAN. -/

namespace Sys2Proof.Machine

/-! ### GUIDE_OPEN (R33) -/

/-- A range of channels the host may name: 1 ≤ first ≤ last ≤ 9,999. -/
def channelRangeOk (first last : Word16) : Bool :=
  decide (1 ≤ first.toNat) && decide (first.toNat ≤ last.toNat) && decide (last.toNat ≤ Config.maxChannel)

/-- The window a GUIDE_OPEN declares. -/
def carriedWindow (a : GuideOpenArgs) : StreamWindow :=
  ⟨a.first.toNat, a.last.toNat, a.start.toNat, a.stop.toNat, a.replace⟩

/-- The stream OPEN with a window, both flags clear. -/
def openStream (w : StreamWindow) (s : State) : State :=
  { s with guide := { s.guide with stream := some w, change := false, agingPending := false } }

/-- GUIDE_OPEN's owner. -/
def guideOpenWork (a : GuideOpenArgs) (s : State) : State × Answer :=
  if channelRangeOk a.first a.last && decide (a.start.toNat < a.stop.toNat) then
    accept (openStream (carriedWindow a) (closeStream s)) (.guideOpen s.guide.stream.isSome)
  else refuse s .range

def execGuideOpen (d : Dest) (b : Body GuideOpenArgs) (s : State) : Host.Outcome State Fault Refusal :=
  .next (message (.guideOpen d b) d b guideOpenWork s)

/-! ### GUIDE_PUT (R34 to R38) -/

/-- R35 test 1. -/
def putInvalid (e : GuidePutEntry) : Bool :=
  e.eventId == 0 || e.duration == 0 || decide (e.duration.toNat > Config.maxEntryDuration)
    || decide (e.start.toNat + e.duration.toNat > Config.maxTime)
    || e.series == some 0 || e.episode == some 0

/-- The refreshed-at of an entry written now: pending while the clock is unset (R36, R37, R39). -/
def stampNow (s : State) : Option Nat := if s.clockSet then some s.present else none

/-- An entry updated by a carried one (R36). -/
def putUpdate (s : State) (e : GuidePutEntry) (old : GuideEntry) : GuideEntry :=
  { old with
    start := e.start.toNat
    duration := e.duration.toNat
    series := e.series.map BitVec.toNat
    episode := e.episode.map BitVec.toNat
    written := true
    withdrawn := false
    refreshedAt := stampNow s }

/-- An update changes the entry as the schedule sees it (R36). -/
def putChanges (e : GuidePutEntry) (old : GuideEntry) : Bool :=
  old.start != e.start.toNat || old.duration != e.duration.toNat || old.series != e.series.map BitVec.toNat
    || old.episode != e.episode.map BitVec.toNat || old.withdrawn

/-- A new entry in a slot (R37). -/
def putNew (s : State) (e : GuidePutEntry) (slot : Nat) : GuideEntry where
  slot := slot
  channel := e.channel.toNat
  eventId := e.eventId.toNat
  start := e.start.toNat
  duration := e.duration.toNat
  series := e.series.map BitVec.toNat
  episode := e.episode.map BitVec.toNat
  status := .unknown
  hasRun := false
  refreshedAt := stampNow s
  pins := 0
  withdrawn := false
  settled := []
  written := true

/-- The change flag set. -/
def flagChange (s : State) : State := { s with guide := { s.guide with change := true } }

/-- The store in ascending order of slot. -/
def slotBefore (e f : GuideEntry) : Bool := decide (e.slot < f.slot)

/-- An entry inserted in the lowest free slot, if the store has one (R29, R37). -/
def insertEntry (e : GuidePutEntry) (s : State) : State :=
  match lowestFree (s.guide.entries.map GuideEntry.slot) Config.maxEntries 0 with
  | some k => flagChange (s.withEntries (insertBy slotBefore (putNew s e k) s.guide.entries))
  | none => s

/-- The later entry in the choice of R38: by start, then channel, then event id. -/
def laterAiring (e f : GuideEntry) : Bool :=
  f.start < e.start || (f.start == e.start && (f.channel < e.channel ||
    (f.channel == e.channel && f.eventId < e.eventId)))

/-- The unpinned entry that would give way (R38). -/
def evictable (s : State) : Option GuideEntry :=
  firstBy laterAiring (s.guide.entries.filter (fun e => e.pins == 0))

/-- What a carried entry counts as (R34). -/
inductive PutCount where
  | stored
  | outside
  | unknown
  | invalid
  | discarded
deriving DecidableEq, Repr

/-- A carried entry judged and, when it is stored, stored (R35 to R38). -/
def putEntry (w : StreamWindow) (e : GuidePutEntry) (s : State) : State × PutCount :=
  if putInvalid e then (s, .invalid)
  else if !w.covers e.channel.toNat e.start.toNat then (s, .outside)
  else if !s.hasService e.channel.toNat then (s, .unknown)
  else match s.entry? e.channel.toNat e.eventId.toNat with
    | some old =>
      let t := s.mapEntry old.slot (putUpdate s e)
      (if putChanges e old then flagChange t else t, .stored)
    | none =>
      if s.guide.entries.length < Config.maxEntries then (insertEntry e s, .stored)
      else match evictable s with
        | some x =>
          if e.start.toNat < x.start then
            (insertEntry e (s.withEntries (s.guide.entries.filter (fun y => y.slot != x.slot))), .stored)
          else (s.setGuideFull true, .discarded)
        | none => (s.setGuideFull true, .discarded)

/-- One more of a count. -/
def addCount (c : PutCounts) : PutCount → PutCounts
  | .stored => { c with stored := c.stored + 1 }
  | .outside => { c with outside := c.outside + 1 }
  | .unknown => { c with unknown := c.unknown + 1 }
  | .invalid => { c with invalid := c.invalid + 1 }
  | .discarded => { c with discarded := c.discarded + 1 }

/-- The carried entries one after another, each seeing the store as the ones before left it (R34). -/
def putEntries (w : StreamWindow) : List GuidePutEntry → State → PutCounts → State × PutCounts
  | [], s, c => (s, c)
  | e :: es, s, c => putEntries w es (putEntry w e s).1 (addCount c (putEntry w e s).2)

/-- GUIDE_PUT's owner. -/
def guidePutWork (a : GuidePutArgs) (s : State) : State × Answer :=
  match s.guide.stream with
  | none => refuse s .state
  | some w =>
    let r := putEntries w a.entries s ⟨0, 0, 0, 0, 0⟩
    accept r.1 (.guidePut r.2)

def execGuidePut (d : Dest) (b : Body GuidePutArgs) (s : State) : Host.Outcome State Fault Refusal :=
  .next (message (.guidePut d b) d b guidePutWork s)

/-! ### GUIDE_FLUSH (R46) -/

/-- The entries a flush looks at. -/
def inFlush (a : GuideFlushArgs) (e : GuideEntry) : Bool :=
  match a with
  | .whole => true
  | .range first last => decide (first.toNat ≤ e.channel) && decide (e.channel ≤ last.toNat)

def flushOk : GuideFlushArgs → Bool
  | .whole => true
  | .range first last => channelRangeOk first last

/-- GUIDE_FLUSH's owner. -/
def guideFlushWork (a : GuideFlushArgs) (s : State) : State × Answer :=
  if !flushOk a then refuse s .range
  else
    let removed := (s.guide.entries.filter (fun e => inFlush a e && e.pins == 0)).length
    let kept := (s.guide.entries.filter (fun e => inFlush a e && e.pins != 0)).length
    let t := s.dropEntries (fun e => !(inFlush a e && e.pins == 0))
    accept (if removed = 0 then s else settle (deriveAndPass t)) (.guideFlush removed kept)

def execGuideFlush (d : Dest) (b : Body GuideFlushArgs) (s : State) : Host.Outcome State Fault Refusal :=
  .next (message (.guideFlush d b) d b guideFlushWork s)

/-! ### RUNNING (R44, R45, R128) -/

/-- The carried status written into an entry; RUNNING sets the has-run flag. -/
def writeStatus (st : RunningStatus) (e : GuideEntry) : GuideEntry :=
  { e with status := st, hasRun := e.hasRun || st == .running }

/-- How a RECORDING booking finishes whose early end lies at or before the present (R128, R127). -/
def earlyEnding (s : State) (b : Booking) : Option (Ending × Option Reason) :=
  if b.state = some .recording ∧ b.provEnd ≤ s.present then
    some (.outcome (endOutcome b).1 (endOutcome b).2 0, some (endOutcome b).2)
  else none

/-- An early end at or before the present (R128): written, and the booking finishes, its step 8 left to the group (R133). Its
expiry abandons a save in progress first (R184; the order of what that brings is log entry 14's). -/
def endEarly (w : GroupWork) (b : Booking) (t : Nat) (cut : Option CutReason) : GroupWork :=
  let u := setProvEnd b.number t cut w.state
  let u := if b.provEnd < t then passIfSet u else u
  finishOf earlyEnding { w with state := clearSave u } b.number

/-- One RECORDING booking that names the entry: the early end where it applies (R128). DESIGN CHOICE (log entry 12): one ahead
of the present is set with all it brings before the next booking is looked at. -/
def handStatus (w : GroupWork) (number : Nat) : GroupWork :=
  match w.state.booking? number with
  | none => w
  | some b =>
    if earlyEndApplies w.state b then
      match earlyEndAt w.state b with
      | none => w
      | some (t, cut) =>
        if t ≤ w.state.present then endEarly w b t cut else { w with state := settle (earlyEnd number w.state) }
    else w

/-- The change handed to Run Control: each booking that names the entry, in list order, and one step 8 for those that finish
(R45, R133). -/
def handRunning (slot : Nat) (s : State) : State :=
  let w := ((s.plan.bookings.filter (fun b => b.key == .guideSlot slot)).map Booking.number).foldl handStatus ⟨s, false, false⟩
  if w.any then settle w.close else w.state

/-- A status accepted for an entry. -/
def changeStatus (st : RunningStatus) (e : GuideEntry) (s : State) : State :=
  let t := s.mapEntry e.slot (writeStatus st)
  if e.pins = 0 then t else handRunning e.slot t

/-- RUNNING's owner. -/
def runningWork (a : RunningArgs) (s : State) : State × Answer :=
  match statusOf a.status with
  | none => refuse s .range
  | some st =>
    if !channelOk a.channel || a.eventId == 0 then refuse s .range
    else match s.entry? a.channel.toNat a.eventId.toNat with
      | none => refuse s .unknown
      | some e =>
        if e.status = st then accept s (.running false)
        else accept (changeStatus st e s) (.running true)

def execRunning (d : Dest) (b : Body RunningArgs) (s : State) : Host.Outcome State Fault Refusal :=
  .next (message (.running d b) d b runningWork s)

/-- AGING_SCAN (R47). -/
def execAgingScan (s : State) : Host.Outcome State Fault Refusal := .next (expire .scan s)

end Sys2Proof.Machine
end

