-- ==== Sys2Proof/Machine/HostPower.lean ====
section
/-! DEFINITION. Host power (chapter 8): GREET, REST, and the expiries WAKE_EXPIRY and WAKE_TIMEOUT. -/

namespace Sys2Proof.Machine

/-- A tuner record without its hold; the hold's warning expiry goes with it (R27). -/
def Tuner.freed (t : Tuner) : Tuner := { t with hold := none }

/-- Some viewer hold stands. -/
def State.holdsViewer (s : State) : Bool := s.tunerA.hold.isSome || s.tunerB.hold.isSome

/-- Both viewer holds removed, with no YIELD queued (R27). -/
def State.freeHolds (s : State) : State := { s with tunerA := s.tunerA.freed, tunerB := s.tunerB.freed }

/-! ### GREET (R139, R134) -/

/-- The bookings a host restart finishes, in list order (R134). -/
def restartBookings (s : State) : List Booking :=
  if s.host.state = .awake then
    s.plan.bookings.filter (fun b => b.state == some .starting || b.state == some .recording)
  else []

/-- The host record after step 3: AWAKE, the wake line released, the expiry, the timer and the failure removed. -/
def HostRecord.greeted (h : HostRecord) : HostRecord :=
  { h with
    state := .awake
    wakeLine := false
    wakeTimer := none
    wakeExpiry := none
    expiryCause := .none
    failure := none }

/-- GREET's owner. -/
def greetWork (_ : Unit) (s : State) : State × Answer :=
  let found := s.host.state
  let cause := s.host.cause
  let removed := s.holdsViewer
  let ended := restartBookings s
  let series := ended.any s.isSeriesBooking
  let s := finishEach (.outcome .truncated .hostRestart 0) none ended s.freeHolds
  let s := { s with host := s.host.greeted }
  let w := takeLates s
  let s := w.state
  let s := if removed || !ended.isEmpty || w.skipped != 0 then afterFinish (series || w.series) s else s
  let s := settle s
  accept { s with host := { s.host with cause := .none } } (.greet found cause)

def execGreet (d : Dest) (b : Body Unit) (s : State) : Host.Outcome State Fault Refusal :=
  .next (message (.greet d b) d b greetWork s)

/-! ### REST (R140) -/

/-- The host record after step 2. -/
def HostRecord.rested (h : HostRecord) : HostRecord :=
  { h with
    state := .sleeping
    wakeLine := false
    wakeTimer := none
    failure := none
    cause := .none }

/-- An accepted REST. The reply's wake time is the one computed at step 4, taken at once or not. -/
def restAccepted (s : State) : State × Answer :=
  let removed := s.holdsViewer
  let s := s.freeHolds
  let s := if removed then settle (passIfSet s) else s
  let s := State.applyTrigger { s with host := s.host.rested } .rest
  let wake := (computeWake s).1
  let s := settle (recomputeWake s)
  accept s (.rest s.host.state wake)

/-- REST's owner. -/
def restWork (_ : Unit) (s : State) : State × Answer :=
  if !s.clockSet then refuse s .clock
  else if s.plan.bookings.any Booking.isHeld then refuse s .state
  else restAccepted s

def execRest (d : Dest) (b : Body Unit) (s : State) : Host.Outcome State Fault Refusal :=
  .next (message (.rest d b) d b restWork s)

/-! ### Expiries -/

/-- WAKE_EXPIRY (R143). -/
def execWakeExpiry (s : State) : Host.Outcome State Fault Refusal := .next (expire .wake s)

/-- WAKE_TIMEOUT (R144). -/
def execWakeTimeout (s : State) : Host.Outcome State Fault Refusal := .next (expire .wakeTimer s)

end Sys2Proof.Machine
end

