-- ==== Sys2Proof/Machine/ImageSave.lean ====
section
/-! DEFINITION. The stored image (chapter 11): STORE_SAVE, STORE_QUERY, and the completions ERASE_COMPLETE and
WRITE_COMPLETE. -/

namespace Sys2Proof.Machine

/-! ### STORE_SAVE (R182) -/

/-- The save begins: the completion marker is removed before anything else. -/
def beginSave (s : State) : State :=
  State.setImageState
    { s with image := { s.image with
        changedInSave := false, abandonCause := .none, lastSaved := none, flash := none, capture := none } }
    .savingErase

/-- STORE_SAVE's owner. -/
def storeSaveWork (_ : Unit) (s : State) : State × Answer :=
  if s.saving then refuse s .busy
  else accept (beginSave s) (.storeSave (beginSave s).image.state)

def execStoreSave (d : Dest) (b : Body Unit) (s : State) : Host.Outcome State Fault Refusal :=
  .next (message (.storeSave d b) d b storeSaveWork s)

/-! ### STORE_QUERY (R185) -/

/-- STORE_QUERY's owner. A valid image is held in CURRENT and STALE. -/
def storeQueryWork (_ : Unit) (s : State) : State × Answer :=
  accept s (.storeQuery s.image.state (s.image.state == .current || s.image.state == .stale) s.image.changedInSave
    s.image.abandonCause s.image.lastSaved)

def execStoreQuery (d : Dest) (b : Body Unit) (s : State) : Host.Outcome State Fault Refusal :=
  .next (message (.storeQuery d b) d b storeQueryWork s)

/-! ### The phases (R183) -/

/-- The image taken at the start of the write phase: the content as it stands, and the present when the clock is set. -/
def capturedImage (s : State) : Image := ⟨s.storedContent, if s.clockSet then some s.present else none⟩

/-- The erase phase completes. -/
def eraseDone (s : State) : State :=
  if s.running && s.image.state == .savingErase then
    State.setImageState { s with image := { s.image with capture := some (capturedImage s) } } .savingWrite
  else s

def execEraseComplete (s : State) : Host.Outcome State Fault Refusal := .next (eraseDone s)

/-- The image written, its marker last, and the image state after it. -/
def writeImage (s : State) : State :=
  State.setImageState
    { s with image := { s.image with
        flash := s.image.capture
        lastSaved := s.image.capture.bind Image.savedAt
        capture := none
        changedInSave := false } }
    (if s.image.changedInSave then .stale else .current)

/-- The write phase completes; a waiting scan is carried out (R47). -/
def writeDone (s : State) : State :=
  if s.running && s.image.state == .savingWrite then settle (releaseScan (writeImage s)) else s

def execWriteComplete (s : State) : Host.Outcome State Fault Refusal := .next (writeDone s)

end Sys2Proof.Machine
end

