-- ==== Sys2Proof/Machine/LineEvents.lean ====
section
/-! DEFINITION. Events of the line that bring no owner a message: ASSEMBLY_TIMEOUT, DESELECTION, IMPOSSIBLE_LENGTH,
BAD_CHECK_MESSAGE, UNKNOWN_KIND_MESSAGE, REPLY_COMPLETE (R168 to R172). -/

namespace Sys2Proof.Machine

/-- ASSEMBLY_TIMEOUT: some characters, then a gap of more than 10 ms (R169). -/
def execAssemblyTimeout (lead : List LineChar) (s : State) : Host.Outcome State Fault Refusal :=
  .next (s.onLine (fun l => (l.lead lead).gap))

/-- DESELECTION: some characters, then an address character of another value (R169). -/
def execDeselection (lead : List LineChar) (address : Byte) (s : State) : Host.Outcome State Fault Refusal :=
  .next (s.onLine (fun l => (l.lead lead).char (addressChar address)))

/-- IMPOSSIBLE_LENGTH: an address character that selects the part and a LEN of 0 or above 65 (R170). -/
def execImpossibleLength (d : Dest) (len : Byte) (s : State) : Host.Outcome State Fault Refusal :=
  .next (s.onLine (fun l => l.chars (l.frameChars d [len])))

/-- REPLY_COMPLETE: the last character of a reply has been sent (R172). -/
def execReplyComplete (s : State) : Host.Outcome State Fault Refusal :=
  .next (s.onLine LineInterface.sent)

/-- BAD_CHECK_MESSAGE: refused with CHECK, naming the kind byte as received; an open stream stays open (R171 step 1). -/
def execBadCheckMessage (d : Dest) (kind : Byte) (payload : List Byte) (check : Byte) (s : State) :
    Host.Outcome State Fault Refusal :=
  .next (message (.badCheckMessage d kind payload check) d (.fields ()) (fun _ t => refuse t .check) s)

/-- UNKNOWN_KIND_MESSAGE: an open stream is closed, and the message refused with KIND (R171 steps 2 and 3). -/
def execUnknownKindMessage (d : Dest) (kind : Byte) (payload : List Byte) (s : State) :
    Host.Outcome State Fault Refusal :=
  .next (message (.unknownKindMessage d kind payload) d (.fields ()) (fun _ t => refuse t .kind) s)

end Sys2Proof.Machine
end

