-- ==== Sys2Proof/Machine/Outbox.lean ====
section
/-! DEFINITION. The Outbox, the alert table and the panel (chapters 8 and 9): TAKE, ALERT_ACK, ALERT_MASK, ATTN_ENABLE,
PANEL_STAGE, PANEL_SET. -/

namespace Sys2Proof.Machine

/-! ### TAKE (R157, R121) -/

/-- A DUE booking made STARTING when its BEGIN is taken (R121). -/
def startStarting (s : State) (b : Booking) : Booking :=
  { b with
    state := some .starting
    dueAt := none
    takeExpiry := none
    confirmExpiry := some (s.present + s.settings.confirmTimeout)
    provExpiry := some b.provEnd }

/-- The work of a BEGIN taken: its provisional end is taken at once when it lies at or before the present. -/
def beginTaken (number : Nat) (s : State) : State :=
  match s.booking? number with
  | some b => settle ((s.mapBooking number (startStarting s)).atOnce (.provisionalEnd number) b.provEnd)
  | none => s

/-- Run Control's part of a directive taken (R157). -/
def handTaken (x : Directive) (s : State) : State :=
  match x with
  | .beginRec f => beginTaken f.booking s
  | .endRec _ _ _ => s
  | .yieldTuner _ _ => s

/-- The queues without their head item: the item, and the state after its removal. -/
def popItem (s : State) : TakenItem × State :=
  match s.outbox.directives, s.outbox.notices with
  | x :: xs, _ => (.directive x, s.withDirectives xs)
  | [], n :: ns => (.notice n, { s with outbox := { s.outbox with notices := ns } })
  | [], [] => (.empty, s)

/-- TAKE's owner; a broadcast TAKE leaves both queues. The counts are those left after the removal. -/
def takeWork (d : Dest) (_ : Unit) (s : State) : State × Answer :=
  match d with
  | .broadcast => accept s (.take .empty s.outbox.directives.length s.outbox.notices.length)
  | .own =>
    let t := (popItem s).2
    let reply := .take (popItem s).1 t.outbox.directives.length t.outbox.notices.length
    match (popItem s).1 with
    | .directive x => accept (handTaken x t) reply
    | .notice _ => accept t reply
    | .empty => accept t reply

def execTake (d : Dest) (b : Body Unit) (s : State) : Host.Outcome State Fault Refusal :=
  .next (message (.take d b) d b (takeWork d) s)

/-! ### ALERT_ACK and ALERT_MASK (R164, R165) -/

/-- A notice of a source waits in the queue. -/
def State.waits (s : State) (x : Source) : Bool := s.outbox.notices.any (fun n => n.source == x)

/-- A level source acknowledged and sampled. -/
def acknowledge (l : LevelSource) (s : State) : State :=
  State.sample { s with alerts := { s.alerts with inService := s.alerts.inService.put l false } } l

/-- ALERT_ACK's owner. -/
def alertAckWork (b : Byte) (s : State) : State × Answer :=
  match sourceOfNumber b.toNat with
  | none => refuse s .range
  | some (.edge _) => accept s (.alertAck false)
  | some (.level l) =>
    if s.waits (.level l) then refuse s .state
    else accept (acknowledge l s) (.alertAck ((acknowledge l s).alerts.inService.get l))

def execAlertAck (d : Dest) (b : Body Byte) (s : State) : Host.Outcome State Fault Refusal :=
  .next (message (.alertAck d b) d b alertAckWork s)

/-- A mask written. -/
def State.setMask (s : State) (x : Source) (v : Bool) : State :=
  { s with alerts := { s.alerts with masks := s.alerts.masks.put x v } }

/-- A mask changed; clearing a level source's mask samples it. DESIGN CHOICE (log entry 28): the change of stored content comes
first, so that a STORE_STALE notice of an image that was CURRENT joins before the sampled source's notice; the spec does not
say which joins first. -/
def changeMask (x : Source) (v : Bool) (s : State) : State :=
  let t := s.changing (fun u => u.setMask x v)
  match x with
  | .level l => if v then t else t.sample l
  | .edge _ => t

/-- ALERT_MASK's owner. Its RANGE and BUSY tests stand in the order R164 gives them. -/
def alertMaskWork (a : AlertMaskArgs) (s : State) : State × Answer :=
  match sourceOfNumber a.source.toNat, flagOf a.mask with
  | some x, some v =>
    if s.saving then refuse s .busy
    else if s.alerts.masks.get x = v then accept s (.alertMask false)
    else accept (changeMask x v s) (.alertMask true)
  | _, _ => refuse s .range

def execAlertMask (d : Dest) (b : Body AlertMaskArgs) (s : State) : Host.Outcome State Fault Refusal :=
  .next (message (.alertMask d b) d b alertMaskWork s)

/-! ### ATTN_ENABLE (R159) -/

/-- The attention enable written. -/
def State.setAttn (s : State) (v : Bool) : State := { s with outbox := { s.outbox with attnEnable := v } }

/-- ATTN_ENABLE's owner. Its RANGE and BUSY tests stand in the order R159 gives them; the reply counts what waits once the
work is complete, a STORE_STALE notice of the change included (R172). -/
def attnEnableWork (b : Byte) (s : State) : State × Answer :=
  match flagOf b with
  | none => refuse s .range
  | some v =>
    if s.saving then refuse s .busy
    else
      let t := s.changing (fun u => u.setAttn v)
      accept t (.attnEnable v t.outbox.directives.length t.outbox.notices.length)

def execAttnEnable (d : Dest) (b : Body Byte) (s : State) : Host.Outcome State Fault Refusal :=
  .next (message (.attnEnable d b) d b attnEnableWork s)

/-! ### PANEL_STAGE and PANEL_SET (R149, R150) -/

/-- A staged pattern and its enable replaced. -/
def State.stage (s : State) (t : Trigger) (x : Staged) : State :=
  { s with panel := { s.panel with staged := s.panel.staged.put t x } }

/-- PANEL_STAGE's owner. -/
def panelStageWork (a : PanelStageArgs) (s : State) : State × Answer :=
  if s.saving then refuse s .busy
  else match triggerOf a.trigger, nibbleOf a.pattern, flagOf a.enable with
    | some t, some p, some e =>
      accept (s.changing (fun u => u.stage t ⟨p, e⟩)) (.panelStage (s.panel.staged.get t != ⟨p, e⟩))
    | _, _, _ => refuse s .range

def execPanelStage (d : Dest) (b : Body PanelStageArgs) (s : State) : Host.Outcome State Fault Refusal :=
  .next (message (.panelStage d b) d b panelStageWork s)

/-- PANEL_SET's owner. -/
def panelSetWork (b : Byte) (s : State) : State × Answer :=
  match nibbleOf b with
  | none => refuse s .range
  | some p => accept { s with panel := { s.panel with lines := p } } (.panelSet s.panel.lines)

def execPanelSet (d : Dest) (b : Body Byte) (s : State) : Host.Outcome State Fault Refusal :=
  .next (message (.panelSet d b) d b panelSetWork s)

end Sys2Proof.Machine
end

