-- ==== Sys2Proof/Machine/Requests.lean ====
section
/-! DEFINITION. Recording requests (chapter 4): REQ_ADD, REQ_EDIT, REQ_DROP, REQ_PAUSE, REQ_RESUME, REQ_READ. -/

namespace Sys2Proof.Machine

/-! ### REQ_ADD (R54, R55) -/

/-- The table in ascending order of request number (R51). -/
def requestBefore (r q : Request) : Bool := decide (r.number < q.number)

/-- The lowest request number whose slot is empty (R51). -/
def freeRequest (s : State) : Option Nat := lowestFree (s.requests.map Request.number) Config.maxRequests 1

/-- A request put in its slot. -/
def State.insertRequest (s : State) (r : Request) : State :=
  { s with requests := insertBy requestBefore r s.requests }

/-- A channel no service record has, where a channel is named (R54 test 4). -/
def channelMissing (s : State) (k : RequestKind) : Bool := k.channel != 0 && !s.hasService k.channel

/-- REQ_ADD's owner: the tests of R54 in order. -/
def reqAddWork (a : ReqAddArgs) (s : State) : State × Answer :=
  if s.saving then refuse s .busy
  else match asked a with
    | none => refuse s .range
    | some q =>
      if singleEnded s q.kind then refuse s .range
      else if channelMissing s q.kind then refuse s .unknown
      else if s.requests.any (fun r => duplicates q.kind r.kind) then refuse s .state
      else match freeRequest s with
        | none => refuse s .full
        | some n =>
          accept (settle (deriveAndPass (s.changing (fun t => t.insertRequest (q.request n)))))
            (.reqAdd n q.clamped (tierOf s.settings (q.request n)))

def execReqAdd (d : Dest) (b : Body ReqAddArgs) (s : State) : Host.Outcome State Fault Refusal :=
  .next (message (.reqAdd d b) d b reqAddWork s)

/-! ### REQ_EDIT (R59, R60) -/

/-- A request number from 1 to 48. -/
def requestNumberOk (n : Byte) : Bool := decide (1 ≤ n.toNat) && decide (n.toNat ≤ Config.maxRequests)

/-- A single TIMED request has a booking in DUE, STARTING or RECORDING (R59 test 7). -/
def singleRunning (s : State) (r : Request) : Bool :=
  r.isSingle && (s.liveOf r.number).any Booking.isRunning

/-- R59 test 8; it is not reached for a request whose times are unchanged. -/
def editEnded (s : State) (b : ReqEditBody) (r : Request) : Bool :=
  singleEnded s (editKind b r.kind) && !editTimesSame b r.kind

/-- An edit that passes every test (R60). -/
def editAccepted (b : ReqEditBody) (r : Request) (s : State) : State × Answer :=
  let q := editedRequest b r
  if q = r then accept s (.reqEdit false (editClamped b) (tierOf s.settings q))
  else
    let t := s.changing (fun u => u.mapRequest r.number (fun _ => q))
    accept (if r.state = .active then settle (deriveAndPass t) else t)
      (.reqEdit true (editClamped b) (tierOf s.settings q))

/-- REQ_EDIT's owner: the tests of R59 in order. -/
def reqEditWork (a : ReqEditArgs) (s : State) : State × Answer :=
  if s.saving then refuse s .busy
  else if !requestNumberOk a.number || !editRangeOk a.body then refuse s .range
  else match s.request? a.number.toNat with
    | none => refuse s .unknown
    | some r =>
      if r.state = .dropping then refuse s .state
      else if !editKindOk a.body r.kind then refuse s .state
      else if !editDaysOk a.body r.kind then refuse s .state
      else if singleRunning s r && !editTimesSame a.body r.kind then refuse s .state
      else if editEnded s a.body r then refuse s .range
      else editAccepted a.body r s

def execReqEdit (d : Dest) (b : Body ReqEditArgs) (s : State) : Host.Outcome State Fault Refusal :=
  .next (message (.reqEdit d b) d b reqEditWork s)

/-! ### REQ_DROP, REQ_PAUSE, REQ_RESUME (R61 to R63) -/

/-- The PLANNED, CLASHED and LATE bookings of a request. -/
def waitingOf (s : State) (number : Nat) : List Booking := (s.liveOf number).filter Booking.isWaiting

/-- Those bookings removed silently (R61). -/
def removeWaiting (number : Nat) (s : State) : State :=
  s.removeSilently (fun b => b.request == number && b.isWaiting)

/-- The pass that follows when a booking was removed (R61, R63). -/
def passIfRemoved (removed : Nat) (s : State) : State := if removed = 0 then s else settle (passIfSet s)

/-- A request's state written. -/
def State.setRequestState (s : State) (number : Nat) (st : RequestState) : State :=
  s.mapRequest number (fun r => { r with state := st })

/-- A request removed, or made DROPPING while bookings of it remain (R63). -/
def dropRequest (number : Nat) (s : State) : State :=
  if (s.liveOf number).isEmpty then s.removeRequest number else s.setRequestState number .dropping

/-- What a REQ_DROP reports of a request whose waiting bookings are gone. -/
def dropResult (number : Nat) (s : State) : DropResult :=
  if (s.liveOf number).isEmpty then .removed else .dropping (s.liveOf number).length

/-- REQ_DROP's owner. -/
def reqDropWork (n : Byte) (s : State) : State × Answer :=
  if s.saving then refuse s .busy
  else if !requestNumberOk n then refuse s .range
  else match s.request? n.toNat with
    | none => refuse s .unknown
    | some r =>
      if r.state = .dropping then accept s (.reqDrop .alreadyDropping)
      else
        let t := removeWaiting r.number s
        accept (passIfRemoved (waitingOf s r.number).length (t.changing (dropRequest r.number)))
          (.reqDrop (dropResult r.number t))

def execReqDrop (d : Dest) (b : Body Byte) (s : State) : Host.Outcome State Fault Refusal :=
  .next (message (.reqDrop d b) d b reqDropWork s)

/-- REQ_PAUSE's owner. -/
def reqPauseWork (n : Byte) (s : State) : State × Answer :=
  if s.saving then refuse s .busy
  else if !requestNumberOk n then refuse s .range
  else match s.request? n.toNat with
    | none => refuse s .unknown
    | some r =>
      match r.state with
      | .dropping => refuse s .state
      | .paused => accept s (.reqPause none)
      | .active =>
        let removed := (waitingOf s r.number).length
        let t := removeWaiting r.number s
        accept (passIfRemoved removed (t.changing (fun u => u.setRequestState r.number .paused)))
          (.reqPause (some removed))

def execReqPause (d : Dest) (b : Body Byte) (s : State) : Host.Outcome State Fault Refusal :=
  .next (message (.reqPause d b) d b reqPauseWork s)

/-- REQ_RESUME's owner. -/
def reqResumeWork (n : Byte) (s : State) : State × Answer :=
  if s.saving then refuse s .busy
  else if !requestNumberOk n then refuse s .range
  else match s.request? n.toNat with
    | none => refuse s .unknown
    | some r =>
      match r.state with
      | .dropping => refuse s .state
      | .active => accept s (.reqResume false)
      | .paused =>
        accept (settle (deriveAndPass (s.changing (fun u => u.setRequestState r.number .active)))) (.reqResume true)

def execReqResume (d : Dest) (b : Body Byte) (s : State) : Host.Outcome State Fault Refusal :=
  .next (message (.reqResume d b) d b reqResumeWork s)

/-! ### REQ_READ (R64) -/

/-- The requests from a number on, in ascending order. -/
def requestsFrom (s : State) (number : Nat) : List Request :=
  sortBy requestBefore (s.requests.filter (fun r => decide (number ≤ r.number)))

/-- REQ_READ's owner. -/
def reqReadWork (a : ReqReadArgs) (s : State) : State × Answer :=
  if a.start.toNat > Config.maxRequests || a.part.toNat > 1 then refuse s .range
  else match requestsFrom s a.start.toNat with
    | [] => accept s .reqReadNone
    | r :: rest =>
      let next := (rest.head?.map Request.number).getD 0
      if a.part = 0 then accept s (.reqReadMain next r (tierOf s.settings r) (s.liveOf r.number).length)
      else accept s (.reqReadHistory next r)

def execReqRead (d : Dest) (b : Body ReqReadArgs) (s : State) : Host.Outcome State Fault Refusal :=
  .next (message (.reqRead d b) d b reqReadWork s)

end Sys2Proof.Machine
end

