-- ==== Sys2Proof/Machine/Services.lean ====
section
/-! DEFINITION. Services, tuners and viewer holds (chapter 2): SVC_PUT, SVC_DROP, SVC_READ, TUNER_CFG, VIEW_ON, VIEW_OFF, and
the expiry WARNING_EXPIRY. -/

namespace Sys2Proof.Machine

/-! ### SVC_PUT (R13, R15) -/

/-- The record a SVC_PUT carries. -/
def carriedService (a : SvcPutArgs) : Service := ⟨a.channel.toNat, a.network.toNat, a.multiplex.toNat, a.rateClass.toNat⟩

/-- Keys and enumerations in range (R13 test 2). -/
def servicePutOk (a : SvcPutArgs) : Bool :=
  channelOk a.channel && decide (a.network.toNat ≤ 3) && decide (a.rateClass.toNat ≤ 3)

/-- The table in ascending order of channel (R12). -/
def serviceBefore (v w : Service) : Bool := decide (v.channel < w.channel)

/-- The table with a new record at its place, or with a record of the same channel replaced. -/
def State.insertService (s : State) (v : Service) : State :=
  { s with services := insertBy serviceBefore v s.services }
def State.updateService (s : State) (v : Service) : State :=
  { s with services := s.services.map (fun w => if w.channel == v.channel then v else w) }

/-- A change of the table, with the derivation and pass that follow (R15). -/
def changeServices (f : State → State) (s : State) : State := settle (deriveAndPass (s.changing f))

/-- SVC_PUT's owner. -/
def svcPutWork (a : SvcPutArgs) (s : State) : State × Answer :=
  let v := carriedService a
  if s.saving then refuse s .busy
  else if !servicePutOk a then refuse s .range
  else match s.service? v.channel with
    | none =>
      if s.services.length ≥ Config.maxServices then refuse s .full
      else accept (changeServices (fun t => t.insertService v) s) (.svcPut .inserted)
    | some w =>
      if (w.network ≠ v.network ∨ w.multiplex ≠ v.multiplex) ∧ s.channelInUse v.channel then refuse s .state
      else if w = v then accept s (.svcPut .unchanged)
      else accept (changeServices (fun t => t.updateService v) s) (.svcPut .updated)

def execSvcPut (d : Dest) (b : Body SvcPutArgs) (s : State) : Host.Outcome State Fault Refusal :=
  .next (message (.svcPut d b) d b svcPutWork s)

/-! ### SVC_DROP (R14, R15) -/

/-- A request in the table names the channel (R14); a SERIES request with channel 0 names none. -/
def State.requestNames (s : State) (channel : Nat) : Bool := s.requests.any (fun r => r.channel == channel)

/-- The table without a channel. -/
def State.removeService (s : State) (channel : Nat) : State :=
  { s with services := s.services.filter (fun v => v.channel != channel) }

/-- SVC_DROP's owner. -/
def svcDropWork (w : Word16) (s : State) : State × Answer :=
  if s.saving then refuse s .busy
  else if !channelOk w then refuse s .range
  else if !s.hasService w.toNat then refuse s .unknown
  else if s.channelInUse w.toNat || s.requestNames w.toNat then refuse s .state
  else accept (changeServices (fun t => t.removeService w.toNat) s) .svcDrop

def execSvcDrop (d : Dest) (b : Body Word16) (s : State) : Host.Outcome State Fault Refusal :=
  .next (message (.svcDrop d b) d b svcDropWork s)

/-! ### SVC_READ (R16) -/

/-- The records at or beyond a channel. -/
def servicesFrom (s : State) (channel : Nat) : List Service :=
  s.services.filter (fun v => decide (channel ≤ v.channel))

/-- The channel of the first record beyond the eight returned, or 0. -/
def nextChannel (vs : List Service) : Nat :=
  match vs.drop 8 with
  | v :: _ => v.channel
  | [] => 0

/-- SVC_READ's owner. -/
def svcReadWork (w : Word16) (s : State) : State × Answer :=
  if !channelOrAny w then refuse s .range
  else accept s (.svcRead ((servicesFrom s w.toNat).take 8) (nextChannel (servicesFrom s w.toNat)))

def execSvcRead (d : Dest) (b : Body Word16) (s : State) : Host.Outcome State Fault Refusal :=
  .next (message (.svcRead d b) d b svcReadWork s)

/-! ### TUNER_CFG (R18) -/

/-- The networks of the claims on a tuner: its LATE, DUE, STARTING and RECORDING bookings and its viewer hold. -/
def claimNetworks (s : State) (t : TunerId) : List Nat :=
  (s.plan.bookings.filter (fun b => b.isHeld && b.onTuner t)).map (fun b => s.networkOf b.channel)
    ++ (match (s.tuner t).hold with
      | some h => [s.networkOf h.channel]
      | none => [])

/-- The change would break a claim (R18 test 3): disabling breaks any, removing a network those on it. -/
def breaksClaim (s : State) (t : TunerId) (enabled : Bool) (mask : BitVec 4) : Bool :=
  let old := s.tuner t
  (claimNetworks s t).any (fun n =>
    (old.enabled && !enabled) || (old.mask.getLsbD n && !mask.getLsbD n))

/-- A tuner's fields replaced. -/
def State.configure (s : State) (t : TunerId) (enabled : Bool) (mask : BitVec 4) : State :=
  s.withTuner t { s.tuner t with enabled := enabled, mask := mask }

/-- TUNER_CFG's owner once its fields are in range. -/
def tunerCfgJudged (t : TunerId) (enabled : Bool) (mask : BitVec 4) (s : State) : State × Answer :=
  if breaksClaim s t enabled mask then refuse s .state
  else if (s.tuner t).enabled = enabled ∧ (s.tuner t).mask = mask then accept s (.tunerCfg false)
  else accept (settle (passIfSet (s.changing (fun u => u.configure t enabled mask)))) (.tunerCfg true)

/-- TUNER_CFG's owner. -/
def tunerCfgWork (a : TunerCfgArgs) (s : State) : State × Answer :=
  if s.saving then refuse s .busy
  else match tunerOfIndex a.tuner.toNat, flagOf a.enabled, nibbleOf a.mask with
    | some t, some e, some m => tunerCfgJudged t e m s
    | _, _, _ => refuse s .range

def execTunerCfg (d : Dest) (b : Body TunerCfgArgs) (s : State) : Host.Outcome State Fault Refusal :=
  .next (message (.tunerCfg d b) d b tunerCfgWork s)

/-! ### VIEW_ON (R20, R21) -/

/-- The DUE, STARTING and RECORDING bookings on a tuner, in ascending slot order. -/
def runningOn (s : State) (t : TunerId) : List Booking :=
  sortBy (fun b c => decide (slotOf b < slotOf c)) (s.plan.bookings.filter (fun b => b.isRunning && b.onTuner t))
where
  /-- The slot a booking holds. -/
  slotOf (b : Booking) : Nat :=
    match b.place with
    | some p => p.slot
    | none => 0

/-- A booking of some list holds this slot of the tuner. -/
def slotHeld (bs : List Booking) (t : TunerId) (slot : Nat) : Bool := bs.any (fun b => b.place == some ⟨t, slot⟩)

/-- R20 test 5: the tuner carries running bookings on another multiplex, or in all three slots. -/
def viewBlocked (s : State) (t : TunerId) (multiplex : Nat) : Bool :=
  let bs := runningOn s t
  bs.any (fun b => s.multiplexOf b.channel != multiplex) || [0, 1, 2].all (slotHeld bs t)

/-- The slot of a new hold (R21): the lowest held by no running and no LATE booking of the tuner, else the lowest held by no
running one. -/
def viewSlot (s : State) (t : TunerId) : Nat :=
  let running := runningOn s t
  let late := (s.inState .late).filter (fun b => b.onTuner t)
  match [0, 1, 2].find? (fun k => !slotHeld (running ++ late) t k) with
  | some k => k
  | none => ([0, 1, 2].find? (fun k => !slotHeld running t k)).getD 0

/-- The hold a VIEW_ON makes (R21). -/
def newHold (s : State) (t : TunerId) (v : Service) : ViewerHold := ⟨v.channel, v.multiplex, viewSlot s t, none, none, false, none⟩

/-- The pass after a VIEW_ON that is accepted. -/
def viewPass (t : TunerId) (v : Service) (s : State) : State :=
  passIfSet (s.withTuner t { s.tuner t with hold := some (newHold s t v) })

/-- The yield time and the yielding booking of a tuner's hold. -/
def yieldOf (s : State) (t : TunerId) : Option Nat × Option Nat :=
  match (s.tuner t).hold with
  | some h => (h.yieldTime, h.yieldBooking)
  | none => (none, none)

/-- VIEW_ON's owner once the tuner and the service are known. The reply carries the hold's yield as the pass left it. -/
def viewJudged (t : TunerId) (v : Service) (s : State) : State × Answer :=
  if !(s.tuner t).reaches v.network then refuse s .state
  else if viewBlocked s t v.multiplex then
    (s, .refuse .state (((runningOn s t).map Booking.number).take 3))
  else
    let u := viewPass t v s
    accept (settle u) (.viewOn ⟨t, viewSlot s t⟩ (yieldOf u t).1 (yieldOf u t).2)

/-- VIEW_ON's owner. -/
def viewOnWork (a : ViewOnArgs) (s : State) : State × Answer :=
  if !s.clockSet then refuse s .clock
  else match tunerOfIndex a.tuner.toNat with
    | none => refuse s .range
    | some t =>
      if !channelOk a.channel then refuse s .range
      else match s.service? a.channel.toNat with
        | none => refuse s .unknown
        | some v => viewJudged t v s

def execViewOn (d : Dest) (b : Body ViewOnArgs) (s : State) : Host.Outcome State Fault Refusal :=
  .next (message (.viewOn d b) d b viewOnWork s)

/-! ### VIEW_OFF (R22) and WARNING_EXPIRY (R24) -/

/-- VIEW_OFF's owner. -/
def viewOffWork (i : Byte) (s : State) : State × Answer :=
  match tunerOfIndex i.toNat with
  | none => refuse s .range
  | some t =>
    if (s.tuner t).hold.isSome then
      accept (settle (passIfSet (s.withTuner t { s.tuner t with hold := none }))) (.viewOff true)
    else accept s (.viewOff false)

def execViewOff (d : Dest) (b : Body Byte) (s : State) : Host.Outcome State Fault Refusal :=
  .next (message (.viewOff d b) d b viewOffWork s)

/-- WARNING_EXPIRY. -/
def execWarningExpiry (t : TunerId) (s : State) : Host.Outcome State Fault Refusal := .next (expire (.warning t) s)

end Sys2Proof.Machine
end

