-- ==== Sys2Proof/Machine/Dispatch.lean ====
section
/-! DEFINITION. One arm per command. -/

namespace Sys2Proof.Machine

def exec (i : Instr) (s : State) : Host.Outcome State Fault Refusal :=
  match i with
  | .powerOn p => Sys2Proof.Machine.execPowerOn p s
  | .resetPin e => Sys2Proof.Machine.execResetPin e s
  | .presentAdvance => Sys2Proof.Machine.execPresentAdvance s
  | .assemblyTimeout lead => Sys2Proof.Machine.execAssemblyTimeout lead s
  | .unknownKindMessage d kind payload => Sys2Proof.Machine.execUnknownKindMessage d kind payload s
  | .replyComplete => Sys2Proof.Machine.execReplyComplete s
  | .greet d b => Sys2Proof.Machine.execGreet d b s
  | .rest d b => Sys2Proof.Machine.execRest d b s
  | .clock d b => Sys2Proof.Machine.execClock d b s
  | .query d b => Sys2Proof.Machine.execQuery d b s
  | .paramSet d b => Sys2Proof.Machine.execParamSet d b s
  | .paramGet d b => Sys2Proof.Machine.execParamGet d b s
  | .reset d b => Sys2Proof.Machine.execReset d b s
  | .svcPut d b => Sys2Proof.Machine.execSvcPut d b s
  | .svcDrop d b => Sys2Proof.Machine.execSvcDrop d b s
  | .svcRead d b => Sys2Proof.Machine.execSvcRead d b s
  | .tunerCfg d b => Sys2Proof.Machine.execTunerCfg d b s
  | .viewOn d b => Sys2Proof.Machine.execViewOn d b s
  | .viewOff d b => Sys2Proof.Machine.execViewOff d b s
  | .guideOpen d b => Sys2Proof.Machine.execGuideOpen d b s
  | .guidePut d b => Sys2Proof.Machine.execGuidePut d b s
  | .guideFlush d b => Sys2Proof.Machine.execGuideFlush d b s
  | .running d b => Sys2Proof.Machine.execRunning d b s
  | .agingScan => Sys2Proof.Machine.execAgingScan s
  | .reqAdd d b => Sys2Proof.Machine.execReqAdd d b s
  | .reqEdit d b => Sys2Proof.Machine.execReqEdit d b s
  | .reqDrop d b => Sys2Proof.Machine.execReqDrop d b s
  | .reqPause d b => Sys2Proof.Machine.execReqPause d b s
  | .reqResume d b => Sys2Proof.Machine.execReqResume d b s
  | .reqRead d b => Sys2Proof.Machine.execReqRead d b s
  | .bookRead d b => Sys2Proof.Machine.execBookRead d b s
  | .bookCancel d b => Sys2Proof.Machine.execBookCancel d b s
  | .bookStop d b => Sys2Proof.Machine.execBookStop d b s
  | .space d b => Sys2Proof.Machine.execSpace d b s
  | .hold d b => Sys2Proof.Machine.execHold d b s
  | .take d b => Sys2Proof.Machine.execTake d b s
  | .confirm d b => Sys2Proof.Machine.execConfirm d b s
  | .alertAck d b => Sys2Proof.Machine.execAlertAck d b s
  | .alertMask d b => Sys2Proof.Machine.execAlertMask d b s
  | .attnEnable d b => Sys2Proof.Machine.execAttnEnable d b s
  | .panelStage d b => Sys2Proof.Machine.execPanelStage d b s
  | .panelSet d b => Sys2Proof.Machine.execPanelSet d b s
  | .storeSave d b => Sys2Proof.Machine.execStoreSave d b s
  | .storeQuery d b => Sys2Proof.Machine.execStoreQuery d b s
  | .eraseComplete => Sys2Proof.Machine.execEraseComplete s
  | .writeComplete => Sys2Proof.Machine.execWriteComplete s
  | .windowStart n => Sys2Proof.Machine.execWindowStart n s
  | .lateLimit n => Sys2Proof.Machine.execLateLimit n s
  | .takeDeadline n => Sys2Proof.Machine.execTakeDeadline n s
  | .confirmTimer n => Sys2Proof.Machine.execConfirmTimer n s
  | .provisionalEnd n => Sys2Proof.Machine.execProvisionalEnd n s
  | .wakeExpiry => Sys2Proof.Machine.execWakeExpiry s
  | .wakeTimeout => Sys2Proof.Machine.execWakeTimeout s
  | .warningExpiry t => Sys2Proof.Machine.execWarningExpiry t s
  | .badCheckMessage d kind payload check => Sys2Proof.Machine.execBadCheckMessage d kind payload check s
  | .deselection lead address => Sys2Proof.Machine.execDeselection lead address s
  | .impossibleLength d len => Sys2Proof.Machine.execImpossibleLength d len s
  | .powerLoss => Sys2Proof.Machine.execPowerLoss s

end Sys2Proof.Machine
end

