-- ==== Sys2Proof/Machine/Layout.lean ====
section
/-! DEFINITION. What the part puts on the line: the bytes of a reply (R172, R179). Where R179 leaves a layout open the choice
is log entry 8's. -/

namespace Sys2Proof.Machine

/-! ### Codes (R179) -/

def byteOf (n : Nat) : Byte := BitVec.ofNat 8 n

/-- Fields of one, two, three and four bytes. -/
def field1 (n : Nat) : List Byte := bytesOfNat 1 n
def field2 (n : Nat) : List Byte := bytesOfNat 2 n
def field3 (n : Nat) : List Byte := bytesOfNat 3 n
def field4 (n : Nat) : List Byte := bytesOfNat 4 n

/-- A count, one byte (R179); the spec does not state the byte of a count above 255 (log entry 29). -/
def fieldCount (n : Nat) : List Byte := if n ≤ 255 then field1 n else [Config.wideCount n]

/-- A flag byte, and an optional field carried as 0 when absent. -/
def fieldFlag (b : Bool) : List Byte := field1 b.toNat
def orZero (n : Option Nat) : Nat := n.getD 0

def hostCode : HostState → Nat
  | .unknown => 0
  | .awake => 1
  | .sleeping => 2
  | .waking => 3
  | .wakeFailed => 4

def imageCode : ImageState → Nat
  | .absent => 0
  | .current => 1
  | .stale => 2
  | .savingErase => 3
  | .savingWrite => 4
  | .failed => 5

def bookingCode : BookingState → Nat
  | .planned => 0
  | .clashed => 1
  | .late => 2
  | .due => 3
  | .starting => 4
  | .recording => 5

def requestStateCode : RequestState → Nat
  | .active => 1
  | .paused => 2
  | .dropping => 3

def kindCode (k : RequestKind) : Nat := k.index + 1

def outcomeCode : BookingOutcome → Nat
  | .done => 1
  | .partly => 2
  | .truncated => 3
  | .failed => 4
  | .missed => 5
  | .skipped => 6
  | .withdrawn => 7
  | .replaced => 8

def reasonCode : Reason → Nat
  | .natural => 1
  | .early => 2
  | .yield => 3
  | .limit => 4
  | .hostStop => 5
  | .hostRestart => 6
  | .hostFail => 7
  | .noConfirm => 8
  | .clash => 9
  | .hostAbsent => 10
  | .held => 11
  | .notTaken => 12
  | .noSpace => 13
  | .withdrawn => 14
  | .replaced => 15
  | .abandon => 16

def refuseCode : RefuseReason → Nat
  | .check => 1
  | .kind => 2
  | .length => 3
  | .range => 4
  | .full => 5
  | .unknown => 6
  | .state => 7
  | .busy => 8
  | .clock => 9

def stepCode : StepClass → Nat
  | .none => 0
  | .first => 1
  | .forward => 2
  | .backward => 3

def abandonCode : AbandonCause → Nat
  | .none => 0
  | .deadline => 1
  | .reset => 2

/-- A wake cause: its number, and for BOOKING the booking number after it. -/
def causeBytes : WakeCause → List Byte
  | .none => field1 0
  | .maint => field1 1
  | .booking n => field1 2 ++ field2 n

/-! ### The items of a TAKE reply -/

def placeBytes (p : Place) : List Byte := field1 (tunerIndex p.tuner) ++ field1 p.slot

/-- Three booking numbers, 0 for none. -/
def partnerBytes (ns : List Nat) : List Byte :=
  field2 (ns.getD 0 0) ++ field2 (ns.getD 1 0) ++ field2 (ns.getD 2 0)

def directiveBytes : Directive → List Byte
  | .beginRec f =>
    field1 1 ++ field2 f.booking ++ placeBytes f.place ++ field2 f.channel ++ field1 f.network ++ field2 f.multiplex
      ++ field4 f.progStart ++ field4 f.progDuration ++ field4 f.provEnd ++ fieldFlag f.accurate
  | .endRec n p r => field1 2 ++ field2 n ++ placeBytes p ++ field1 (reasonCode r)
  | .yieldTuner t n => field1 (3 + tunerIndex t) ++ field2 n

/-- The fields of a notice after its code. -/
def noticeFields : Notice → List Byte
  | .clashNew n ps => field2 n ++ partnerBytes ps
  | .clashPresent c => field1 c
  | .viewWarn t n y => field1 (tunerIndex t) ++ field2 n ++ field4 y
  | .spaceShort c => field1 c
  | .bookingEnd r =>
    field2 r.booking ++ field1 r.request ++ field1 (outcomeCode r.outcome) ++ field1 (reasonCode r.reason)
      ++ field1 r.hostCode ++ field4 (orZero r.begun) ++ field4 r.ended ++ field2 (orZero r.replacement)
  | .capacity g l => field1 (g.toNat + 2 * l.toNat)
  | .storeStale i => field1 (imageCode i)
  | .wakeFailed t => field4 t

def itemBytes : TakenItem → List Byte
  | .empty => field1 0
  | .directive d => directiveBytes d
  | .notice n => field1 (0x10 + n.source.number) ++ noticeFields n

/-! ### Records -/

/-- A service record, in the order of SVC_PUT. -/
def serviceBytes (v : Service) : List Byte := field2 v.channel ++ field1 v.network ++ field2 v.multiplex ++ field1 v.rateClass

/-- Byte 16 of a booking record: state, tuner and slot. -/
def bookingByte16 (b : Booking) : Nat :=
  (match b.state with
    | some st => bookingCode st
    | none => 0)
  + (match b.place with
    | some p => 8 * tunerIndex p.tuner + 16 * p.slot
    | none => 0)

/-- Byte 17 of a booking record: tier, flags, cut reason, and whether an episode id is present. -/
def bookingByte17 (b : Booking) : Nat :=
  b.tier + 4 * b.alternate.toNat + 8 * b.spaceShort.toNat + 16 * b.accurate.toNat
    + 32 * (match b.cut with
      | none => 0
      | some .yield => 1
      | some .limit => 2)
    + 128 * b.episode.isSome.toNat

/-- A booking record, 30 bytes (section 10.9). -/
def bookingBytes (b : Booking) : List Byte :=
  field2 b.number ++ field1 b.request ++ field2 b.channel ++ field4 b.winStart ++ field2 (b.progStart - b.winStart)
    ++ field3 b.progDuration ++ field2 (b.winEnd - b.winStart) ++ field1 (bookingByte16 b) ++ field1 (bookingByte17 b)
    ++ field4 (orZero b.episode)
    ++ (if b.state = some .clashed then partnerBytes b.partners ++ field2 0
        else field4 b.provEnd ++ field4 (orZero b.begun))

/-- A pad as stored: 65,535 is "default". -/
def padBytes (p : Option Nat) : List Byte := field2 (p.getD 65535)

/-- A local day; an absent one is 0. -/
def dayBytes (d : Int) : List Byte := field2 d.toNat

/-- The fields of a request's kind, in the order of R52 and R53. -/
def kindBytes : RequestKind → List Byte
  | .timed f =>
    field2 f.channel ++ field2 f.duration ++ field1 f.days.toNat ++ field4 f.start
      ++ field1 f.skip.length ++ (f.skip.map dayBytes).flatten ++ dayBytes (f.settledDay.getD 0)
  | .event f => field2 f.channel ++ field2 f.eventId ++ fieldFlag f.accurate
  | .series f => field4 f.seriesId ++ field2 f.channel ++ fieldFlag f.newOnly ++ fieldFlag f.accurate

/-- The episode history of a request; none for a kind without one. -/
def historyOf (k : RequestKind) : List Nat :=
  match k with
  | .series f => f.history
  | _ => []

/-- The QUERY reply, 29 bytes. -/
def queryBytes (q : QueryReport) : List Byte :=
  fieldFlag q.clockSet ++ field4 q.present ++ field1 (hostCode q.host) ++ fieldFlag q.hold ++ fieldFlag q.attnEnable
    ++ field1 q.services ++ field2 q.entries ++ field1 q.active ++ field1 q.paused ++ field1 q.dropping
    ++ field1 q.planned ++ field1 q.clashed ++ field1 q.late ++ field1 q.due ++ field1 q.starting ++ field1 q.recording
    ++ field1 q.directives ++ field1 q.notices ++ field1 q.lost ++ field1 (imageCode q.image)
    ++ field4 (orZero q.nextWake) ++ field1 q.recordings

/-- A setting's value at its width; a negative entry in two's complement. -/
def settingBytes (id : Nat) (v : List Int) : List Byte :=
  match settingRow id with
  | some r => (v.map (fun x => bytesOfNat r.bytes (x % ((256 ^ r.bytes : Nat) : Int)).toNat)).flatten
  | none => []

/-! ### Replies -/

/-- The kind byte of the message a reply answers. -/
def answeredKind : ReplyBody → Byte
  | .greet _ _ => 0x01
  | .rest _ _ => 0x02
  | .clock _ _ => 0x03
  | .query _ => 0x04
  | .paramSet _ _ _ _ => 0x05
  | .paramGet _ _ => 0x06
  | .reset _ => 0x07
  | .svcPut _ => 0x10
  | .svcDrop => 0x11
  | .svcRead _ _ => 0x12
  | .tunerCfg _ => 0x13
  | .viewOn _ _ _ => 0x14
  | .viewOff _ => 0x15
  | .guideOpen _ => 0x20
  | .guidePut _ => 0x21
  | .guideFlush _ _ => 0x22
  | .running _ => 0x23
  | .reqAdd _ _ _ => 0x30
  | .reqEdit _ _ _ => 0x31
  | .reqDrop _ => 0x32
  | .reqPause _ => 0x33
  | .reqResume _ => 0x34
  | .reqReadNone => 0x35
  | .reqReadMain _ _ _ _ => 0x35
  | .reqReadHistory _ _ => 0x35
  | .bookRead _ _ => 0x40
  | .bookCancel => 0x41
  | .bookStop => 0x42
  | .space _ _ _ => 0x43
  | .hold _ _ => 0x44
  | .take _ _ _ => 0x50
  | .confirm _ => 0x51
  | .alertAck _ => 0x52
  | .alertMask _ => 0x53
  | .attnEnable _ _ _ => 0x54
  | .panelStage _ => 0x60
  | .panelSet _ => 0x61
  | .storeSave _ => 0x62
  | .storeQuery _ _ _ _ _ => 0x63

/-- Results in words, numbered in the order the owning rule first names them (R179). -/
def putCode : PutResult → Nat
  | .inserted => 0
  | .unchanged => 1
  | .updated => 2

/-- "dropping" is named before "removed" (R63); the number remaining is 0 where the rule gives none. -/
def dropBytes : DropResult → List Byte
  | .alreadyDropping => field1 0 ++ field1 0
  | .removed => field1 1 ++ field1 0
  | .dropping n => field1 0 ++ field1 n

/-- The payload of an accepted message's reply. -/
def replyPayload : ReplyBody → List Byte
  | .greet h c => field1 (hostCode h) ++ causeBytes c
  | .rest h w => field1 (hostCode h) ++ field4 (orZero w)
  | .clock c old => field1 (stepCode c) ++ field4 old
  | .query q => queryBytes q
  | .paramSet id v cl ch => field1 id ++ settingBytes id v ++ fieldFlag cl ++ fieldFlag ch
  | .paramGet id v => field1 id ++ settingBytes id v
  | .reset scope => field1 scope
  | .svcPut r => field1 (putCode r)
  | .svcDrop => field1 0
  | .svcRead vs next => field1 vs.length ++ (vs.map serviceBytes).flatten ++ field2 next
  | .tunerCfg ch => fieldFlag ch
  | .viewOn p y b => placeBytes p ++ field4 (orZero y) ++ field2 (orZero b)
  | .viewOff released => fieldFlag (!released)
  | .guideOpen closed => field1 0 ++ fieldFlag closed
  | .guidePut c => field1 c.stored ++ field1 c.outside ++ field1 c.unknown ++ field1 c.invalid ++ field1 c.discarded
  | .guideFlush removed kept => fieldCount removed ++ fieldCount kept
  | .running ch => fieldFlag ch
  | .reqAdd n cl t => field1 n ++ fieldFlag cl ++ field1 t
  | .reqEdit ch cl t => fieldFlag ch ++ fieldFlag cl ++ field1 t
  | .reqDrop r => dropBytes r
  | .reqPause none => field1 0 ++ field1 0
  | .reqPause (some n) => field1 1 ++ field1 n
  | .reqResume r => fieldFlag r
  | .reqReadNone => field1 0
  | .reqReadMain next r t live =>
    field1 next ++ field1 r.number ++ field1 (kindCode r.kind) ++ field1 (requestStateCode r.state) ++ field1 r.importance
      ++ field1 t ++ padBytes r.prePad ++ padBytes r.postPad ++ field1 r.loss ++ kindBytes r.kind
      ++ field1 (historyOf r.kind).length ++ field1 live
  | .reqReadHistory next r =>
    field1 next ++ field1 r.number ++ field1 (kindCode r.kind) ++ field1 (requestStateCode r.state)
      ++ field1 (historyOf r.kind).length ++ ((historyOf r.kind).map field4).flatten
  | .bookRead bs next => field1 bs.length ++ (bs.map bookingBytes).flatten ++ field2 next
  | .bookCancel => field1 0
  | .bookStop => field1 0
  | .space b t n => field4 b ++ field4 t ++ field1 n
  | .hold v n => fieldFlag v ++ field1 n
  | .take item d n => itemBytes item ++ field1 d ++ field1 n
  | .confirm recording => fieldFlag (!recording)
  | .alertAck q => fieldFlag q
  | .alertMask ch => fieldFlag ch
  | .attnEnable v d n => fieldFlag v ++ field1 d ++ field1 n
  | .panelStage ch => fieldFlag (!ch)
  | .panelSet p => field1 p.toNat
  | .storeSave i => field1 (imageCode i)
  | .storeQuery i valid ch c t =>
    field1 (imageCode i) ++ fieldFlag valid ++ fieldFlag ch ++ field1 (abandonCode c) ++ field4 (orZero t)

/-- The kind byte and the payload of a reply (R172). -/
def replyContent : Reply → Byte × List Byte
  | .accepted b => (answeredKind b + 0x80, replyPayload b)
  | .refused k r bs => (0x7F, k :: field1 (refuseCode r) ++ field1 bs.length ++ (bs.map field2).flatten)

/-- The characters of a reply: address 0 with the marker bit 1, then LEN, kind, payload and check (R172). -/
def replyChars (r : Reply) : List LineChar :=
  let c := replyContent r
  addressChar 0 :: (lenOf c.2 :: c.1 :: c.2 ++ [checkOf c.1 c.2]).map dataChar

/-- A reply as the bits the part sends, character after character (R168, R172). -/
def replyBits (r : Reply) : List Bool := ((replyChars r).map charBits).flatten

end Sys2Proof.Machine
end

