-- ==== Sys2Proof/Safety.lean ====
section
/-! DEFINITION. What counts as a good state, in the terms the claims use: the parts that no work inside a command touches, the
bounds of the tables, the host's wake outputs, the queues, the part before its first CLOCK. -/

namespace Sys2Proof.Machine

/-! ### What the part's own work leaves alone -/

/-- The parts of the state that only a command of their own writes: no derivation, plan pass, finish or expiry taken at once
touches them. -/
structure Standing where
  pending : List Instr
  powered : Bool
  resetLow : Bool
  present : Nat
  clockSet : Bool
  settings : Settings
  services : List Service
  tunerA : TunerConfig
  tunerB : TunerConfig
  staged : StagedPatterns
  masks : AlertMasks
  attnEnable : Bool
  line : LineInterface
  stream : Option StreamWindow
  hold : Bool
  freeSpace : Option Nat
deriving DecidableEq, Repr

/-- Those parts of a state. -/
def State.standing (s : State) : Standing where
  pending := s.pending
  powered := s.powered
  resetLow := s.resetLow
  present := s.present
  clockSet := s.clockSet
  settings := s.settings
  services := s.services
  tunerA := ⟨s.tunerA.enabled, s.tunerA.mask⟩
  tunerB := ⟨s.tunerB.enabled, s.tunerB.mask⟩
  staged := s.panel.staged
  masks := s.alerts.masks
  attnEnable := s.outbox.attnEnable
  line := s.line
  stream := s.guide.stream
  hold := s.run.hold
  freeSpace := s.plan.freeSpace

/-! ### Settings and tables in bounds -/

/-- A setting has its number of entries, each in its range (section 10.6). -/
def settingOk (set : Settings) (id : Nat) : Bool :=
  match settingRow id with
  | some r => (set.get id).length == r.entries && r.admits (set.get id)
  | none => true

/-- Every setting in range. -/
def Settings.inRange (set : Settings) : Bool := (List.range 19).all (fun i => settingOk set (i + 1))

/-- Numbers strictly rising, so that no two are the same. -/
def rising (ns : List Nat) : Prop := ns.Pairwise (fun a b => a < b)

/-- Service records in ascending order of channel, at most 200 (R12). -/
def servicesOk (vs : List Service) : Prop :=
  rising (vs.map Service.channel) ∧ vs.length ≤ Config.maxServices

/-- Requests in ascending order of number, each from 1 to 48 (R51). -/
def requestsOk (rs : List Request) : Prop :=
  rising (rs.map Request.number) ∧ ∀ n ∈ rs.map Request.number, 1 ≤ n ∧ n ≤ Config.maxRequests

/-- Guide entries in ascending order of slot, each slot from 0 to 1,199 (R28, R29). -/
def entriesOk (es : List GuideEntry) : Prop :=
  rising (es.map GuideEntry.slot) ∧ ∀ n ∈ es.map GuideEntry.slot, n < Config.maxEntries

/-- Stored content in bounds. -/
def contentOk (c : StoredContent) : Prop :=
  c.settings.inRange = true ∧ servicesOk c.services ∧ requestsOk c.requests

/-- An image in bounds, where there is one. -/
def imageOk : Option Image → Prop
  | some i => contentOk i.content
  | none => True

/-- Every table, setting and stored image in bounds. -/
structure InBounds (s : State) : Prop where
  present : s.present ≤ Config.maxTime
  settings : s.settings.inRange = true
  services : servicesOk s.services
  requests : requestsOk s.requests
  entries : entriesOk s.guide.entries
  flash : imageOk s.image.flash
  capture : imageOk s.image.capture
  dropAddress : 1 ≤ s.line.dropAddress ∧ s.line.dropAddress ≤ 14

/-- At most 240 bookings (R70), no two with one number, and every number and the counter from 1 to 65,535 (R72). -/
structure NumbersOk (s : State) : Prop where
  room : s.plan.bookings.length ≤ Config.maxBookings
  distinct : (s.plan.bookings.map Booking.number).Nodup
  numbers : ∀ n ∈ s.plan.bookings.map Booking.number, 1 ≤ n ∧ n ≤ Config.maxBookingNumber
  counter : 1 ≤ s.plan.counter ∧ s.plan.counter ≤ Config.maxBookingNumber

/-! ### The Booking List and what is kept in step with it -/

/-- The list in ascending order of window start, and of number among equal starts (R70). -/
def ListOk (s : State) : Prop :=
  s.plan.bookings.Pairwise (fun b c => b.winStart < c.winStart ∨ b.winStart = c.winStart ∧ b.number < c.number)

/-- No two guide entries with one key (R28). -/
def KeysOk (s : State) : Prop :=
  s.guide.entries.Pairwise (fun e f => ¬ (e.channel = f.channel ∧ e.eventId = f.eventId))

/-- Every pin count is the number of live bookings that name the entry, and the entry a live booking names is in the store
(R30). -/
structure PinsOk (s : State) : Prop where
  count : ∀ e ∈ s.guide.entries, e.pins = (s.plan.bookings.filter (fun b => b.key == .guideSlot e.slot)).length
  named : ∀ b ∈ s.plan.bookings, ∀ n, b.key = .guideSlot n → n ∈ s.guide.entries.map GuideEntry.slot

/-- The recording count is the number of RECORDING bookings (R111); one BEGIN waits for each DUE booking and none for any
other number (R112, R114). -/
structure RunsOk (s : State) : Prop where
  recordings : s.run.recordings = (s.inState .recording).length
  begins : ∀ n, (s.outbox.directives.filter (fun d => d.isBeginFor n)).length
    = if s.plan.bookings.any (fun b => b.number == n && b.state == some .due) then 1 else 0

/-! ### What bookings and holds take up of a tuner (R93, R96, R99, R100) -/

/-- The instant from which a placed booking takes up its tuner, as a pass sees it. -/
def occupiedFrom (s : State) (b : Booking) : Nat := if b.isHeld then s.present else max b.winStart s.present

/-- The instant before which it does: a RECORDING booking's overrun is part of it. -/
def occupiedTo (b : Booking) : Nat :=
  if b.state = some .recording then b.provEnd
  else if b.isHeld then min b.winEnd b.provEnd
  else b.winEnd

/-- A placed booking takes up the place `p` somewhere in the interval from `a` to before `z`. -/
def occupies (s : State) (b : Booking) (p : Place) (a z : Nat) : Prop :=
  b.isPlaced = true ∧ b.place = some p ∧ max (occupiedFrom s b) a < min (occupiedTo b) z

/-- A tuner's viewer hold stands somewhere in that interval: from the present to its yield time, or without end. -/
def holdOccupies (s : State) (h : ViewerHold) (a z : Nat) : Prop :=
  a < z ∧ s.present < z ∧ ∀ y, h.yieldTime = some y → a < y ∧ s.present < y

/-! ### The host's wake outputs (R137, R138) -/

/-- The wake line is asserted exactly in WAKING; a wake timer is held only in WAKING, and a wake expiry only in SLEEPING and
WAKE_FAILED. -/
structure WakeOk (s : State) : Prop where
  line : s.host.wakeLine = true ↔ s.host.state = .waking
  timer : s.host.wakeTimer.isSome = true → s.host.state = .waking
  expiry : s.host.wakeExpiry.isSome = true → s.host.state.holdsWake = true

/-! ### The queues (R154, R156, R162) -/

/-- How many notices of a source wait. -/
def waitingNotices (s : State) (x : Source) : Nat := (s.outbox.notices.filter (fun n => n.source == x)).length

/-- How many YIELDs for a tuner wait. -/
def waitingYields (s : State) (t : TunerId) : Nat :=
  (s.outbox.directives.filter (fun d => d.isYieldFor t)).length

/-- At most 24 notices; the lost count at most 255; at most one notice of each level source, and one only while the source is
in service; at most one YIELD for each tuner. -/
structure QueuesOk (s : State) : Prop where
  notices : s.outbox.notices.length ≤ Config.maxNotices
  lost : s.outbox.lost ≤ Config.maxLost
  level : ∀ l, waitingNotices s (.level l) ≤ if s.alerts.inService.get l then 1 else 0
  yields : ∀ t, waitingYields s t ≤ 1

/-! ### The alert table (R162, R163) -/

/-- The alert table holds the two flags and the image state as their owners have them. -/
structure ReportsOk (s : State) : Prop where
  guideFull : s.alerts.guideFull = s.guide.full
  listShort : s.alerts.listShort = s.plan.listShort
  image : s.alerts.image = s.image.state

/-- While the part runs, a level source whose condition is true and whose mask is clear is in service. -/
def LevelsOk (s : State) : Prop :=
  s.running = true → ∀ l, s.alerts.condition l = true → s.alerts.masks.level.get l = false →
    s.alerts.inService.get l = true

/-! ### Before the first CLOCK (R88) -/

/-- While the clock is unset the Booking List is empty and no viewer hold stands. -/
def UnsetOk (s : State) : Prop :=
  s.clockSet = false → s.plan.bookings = [] ∧ s.tunerA.hold = none ∧ s.tunerB.hold = none

/-! ### Replies -/

/-- The Line Interface once a message has been answered (R172). -/
def lineAfter (d : Dest) (r : Reply) (l : LineInterface) : LineInterface :=
  match d with
  | .own => { l with state := .replying, reply := some r }
  | .broadcast => { l with state := .idle }

/-- A state with a message answered, and nothing else changed. -/
def State.answering (s : State) (d : Dest) (r : Reply) : State := { s with line := lineAfter d r s.line }

/-- The counts of two GUIDE_PUT replies taken together. -/
def PutCounts.add (a b : PutCounts) : PutCounts :=
  ⟨a.stored + b.stored, a.outside + b.outside, a.unknown + b.unknown, a.invalid + b.invalid, a.discarded + b.discarded⟩

/-- A message command whose payload has a length the catalogue does not give (R171 step 4). -/
def hasBadLength : Instr → Bool
  | .greet _ (.badLength _) => true
  | .rest _ (.badLength _) => true
  | .clock _ (.badLength _) => true
  | .query _ (.badLength _) => true
  | .paramSet _ (.badLength _) => true
  | .paramGet _ (.badLength _) => true
  | .reset _ (.badLength _) => true
  | .svcPut _ (.badLength _) => true
  | .svcDrop _ (.badLength _) => true
  | .svcRead _ (.badLength _) => true
  | .tunerCfg _ (.badLength _) => true
  | .viewOn _ (.badLength _) => true
  | .viewOff _ (.badLength _) => true
  | .guideOpen _ (.badLength _) => true
  | .guidePut _ (.badLength _) => true
  | .guideFlush _ (.badLength _) => true
  | .running _ (.badLength _) => true
  | .reqAdd _ (.badLength _) => true
  | .reqEdit _ (.badLength _) => true
  | .reqDrop _ (.badLength _) => true
  | .reqPause _ (.badLength _) => true
  | .reqResume _ (.badLength _) => true
  | .reqRead _ (.badLength _) => true
  | .bookRead _ (.badLength _) => true
  | .bookCancel _ (.badLength _) => true
  | .bookStop _ (.badLength _) => true
  | .space _ (.badLength _) => true
  | .hold _ (.badLength _) => true
  | .take _ (.badLength _) => true
  | .confirm _ (.badLength _) => true
  | .alertAck _ (.badLength _) => true
  | .alertMask _ (.badLength _) => true
  | .attnEnable _ (.badLength _) => true
  | .panelStage _ (.badLength _) => true
  | .panelSet _ (.badLength _) => true
  | .storeSave _ (.badLength _) => true
  | .storeQuery _ (.badLength _) => true
  | _ => false

/-! ### Between commands -/

/-- The part is free for a message: it runs, the Line Interface takes characters, nothing waits to be taken at once. -/
structure Free (s : State) : Prop where
  running : s.running = true
  takes : s.line.state.takes = true
  agenda : s.agenda = []

end Sys2Proof.Machine
end

