-- ==== Sys2Proof/Certificates/Slice0/Obligations.lean ====
section
/-! DEFINITION. The statements for the provers. In a statement about a message, `u` is the state its owner finds: the message
complete, an OPEN stream closed with its close work (R171). `t.standing = …` says which of the parts that no inner work
touches have changed, and so that the others have not. -/

open Sys2Proof Sys2Proof.Machine

/-! ### The queue and the line -/

/-- A step runs the command at the front of the queue on the state with the queue's rest, and idles on an empty queue (the
model's queue, log entry 9). -/
def Obligations.StepRunsFrontCommand : Prop :=
  (∀ (s : State) (c : Instr) (rest : List Instr), s.pending = c :: rest → step s = exec c { s with pending := rest })
    ∧ ∀ s : State, s.pending = [] → step s = .next s

/-- Every command answers a next state, and no command touches the queue. While the supply is off or RESET_N is low,
every command but those of the supply and the pin changes nothing (R167, R184; log entry 4). While the part is
WORKING or REPLYING, every message is lost (R169). -/
def Obligations.ExecAnswersAndKeepsQueue : Prop :=
  (∀ (c : Instr) (s : State), ∃ t : State, exec c s = .next t ∧ t.pending = s.pending)
  ∧ (∀ (c : Instr) (s : State),
      (s.running = false → (∀ p, c ≠ .powerOn p) → (∀ e, c ≠ .resetPin e) → c ≠ .powerLoss → exec c s = .next s)
      ∧ (s.line.state.takes = false → (payloadOf c).isSome = true → exec c s = .next s))

/-- What the characters of no message do: DESELECTION, IMPOSSIBLE_LENGTH, ASSEMBLY_TIMEOUT and REPLY_COMPLETE change the state
of the Line Interface and nothing else (R169, R170, R172). A lead, the characters before them, is any that completes no
message: a character of an ill-formed one that would complete one is passed over, which is the model's choice (log entry 13).
After an ASSEMBLY_TIMEOUT the Line Interface is IDLE, or still skipping what its lead began to skip. -/
def Obligations.LineEventsTouchTheLineAlone : Prop :=
  ∀ s : State, s.running = true → 1 ≤ s.line.dropAddress → s.line.dropAddress ≤ 14 →
    (s.line.state.takes = true → ∀ lead address, address.toNat ≠ s.line.dropAddress → address ≠ 15 →
      exec (.deselection lead address) s = .next { s with line := { s.line with state := .idle } })
    ∧ (s.line.state.takes = true → ∀ d len, (len = 0 ∨ 65 < len.toNat) →
      exec (.impossibleLength d len) s = .next { s with line := { s.line with state := .skipping } })
    ∧ (s.line.state.takes = true → ∀ lead, ∃ st, (st = .idle ∨ st = .skipping)
      ∧ exec (.assemblyTimeout lead) s = .next { s with line := { s.line with state := st } })
    ∧ (∀ d got, s.line.state = .assembling d got →
      exec (.assemblyTimeout []) s = .next { s with line := { s.line with state := .idle } })
    ∧ (s.line.state = .replying →
      exec .replyComplete s = .next { s with line := { s.line with state := .idle } })

/-- A message's arrival (R170, R171 step 2): the Line Interface is WORKING on it (`w`), and an OPEN stream is closed with its
close work, which GuideOpenFlushAndRunning writes out, but for the messages that spare it (R40): GUIDE_PUT, GUIDE_OPEN, a RESET
of a scope that names one, and a message with a bad check. Of the parts no inner work touches nothing else has changed, and
with no stream OPEN nothing else at all. A message refused before it reaches an owner (R171): with CHECK when the check byte is
wrong, an OPEN stream staying OPEN; with KIND, or with LENGTH, after the stream has been closed. The refusal is the only other
effect. -/
def Obligations.MessagesArriveOrAreRefused : Prop :=
  (∀ (c : Instr) (d : Dest) (s : State),
      let w : State := { s with line := { s.line with state := .working d (kindByte c) (payloadBytes c) (checkByte c) } }
      let spares := (∃ x b, c = .guidePut x b) ∨ (∃ x b, c = .guideOpen x b)
        ∨ (∃ x scope, (scope = 1 ∨ scope = 2) ∧ c = .reset x (.fields scope))
        ∨ ∃ x kind p check, c = .badCheckMessage x kind p check
      (spares → arrive c d s = w)
      ∧ (¬ spares → arrive c d s = closeStream w ∧ (arrive c d s).standing = { w.standing with stream := none })
      ∧ (s.guide.stream = none → arrive c d s = w))
  ∧ (∀ (d : Dest) (s : State), s.running = true → s.line.state.takes = true →
      (∀ kind p check, exec (.badCheckMessage d kind p check) s = .next (s.answering d (.refused kind .check [])))
      ∧ (∀ kind p, exec (.unknownKindMessage d kind p) s
          = .next ((arrive (.unknownKindMessage d kind p) d s).answering d (.refused kind .kind [])))
      ∧ ∀ c kind p, hasBadLength c = true → payloadOf c = some (d, p) → kindOf c = some kind →
          exec c s = .next ((arrive c d s).answering d (.refused kind .length [])))

/-- Every well-formed message command is read back from the characters that carry it (R170, R171, R179). The forms of the
operands that it ranges over are the model's (log entry 18). -/
def Obligations.DecodeOfEncode : Prop :=
  ∀ (i : Instr) (d : Dest) (data : List Byte), i.wellFormed = true → encodeFrame i = some (d, data) →
    decodeFrame d data = some i

/-- The characters of a well-formed message bring a Line Interface that takes characters to WORKING on exactly that message
(R169, R170). -/
def Obligations.FrameReachesWorking : Prop :=
  ∀ (i : Instr) (d : Dest) (data : List Byte) (l : LineInterface), i.wellFormed = true →
    encodeFrame i = some (d, data) → l.state.takes = true → 1 ≤ l.dropAddress → l.dropAddress ≤ 14 →
      l.chars (l.frameChars d data)
        = { l with state := .working d (kindByte i) (payloadBytes i) (checkByte i) }

/-! ### Power and time -/

/-- The straps as sampled (R167). POWER_ON with RESET_N high, and the release of RESET_N under power, start the part (R178,
R186): every power-on value with the straps sampled, and the stored content from the image when flash holds one, the defaults
otherwise. The model's choice (log entries 4 and 10): a POWER_ON with RESET_N low waits for the release, a release without
supply leaves the part off, and a release of a pin that is high does nothing. -/
def Obligations.StartLoadsTheImage : Prop :=
  (∀ p : Straps, (1 ≤ p.address.toNat ∧ p.address.toNat ≤ 14 → dropOf p = p.address.toNat)
      ∧ (p.address.toNat = 0 ∨ p.address.toNat = 15 → dropOf p = 14)
      ∧ (p.rateHigh = false → rateOf p = .baud57600) ∧ (p.rateHigh = true → rateOf p = .baud115200))
  ∧ (∀ (p : Straps) (s : State),
      (s.image.flash = none →
        let t := { State.reset with pending := s.pending, line := ⟨dropOf p, rateOf p, .idle, none⟩ }
        (s.resetLow = false → exec (.powerOn p) s = .next t)
        ∧ (s.resetLow = true → s.powered = true → exec (.resetPin (.release p)) s = .next t))
      ∧ ∀ i, s.image.flash = some i →
        let c := i.content
        let t : State := { State.reset with
          pending := s.pending
          settings := c.settings
          services := c.services
          tunerA := ⟨c.tunerA.enabled, c.tunerA.mask, none⟩
          tunerB := ⟨c.tunerB.enabled, c.tunerB.mask, none⟩
          requests := c.requests
          panel := ⟨0, c.staged⟩
          outbox := ⟨[], [], 0, c.attnEnable⟩
          alerts := ⟨c.masks, LevelFlags.clear, 0, 0, false, false, .current⟩
          image := ⟨.current, false, .none, i.savedAt, some i, none⟩
          line := ⟨dropOf p, rateOf p, .idle, none⟩ }
        (s.resetLow = false → exec (.powerOn p) s = .next t)
        ∧ (s.resetLow = true → s.powered = true → exec (.resetPin (.release p)) s = .next t))
  ∧ ∀ (p : Straps) (s : State),
      (s.resetLow = false → exec (.resetPin (.release p)) s = .next s)
      ∧ (s.resetLow = true → ∃ t : State, exec (.powerOn p) s = .next t ∧ t.powered = true ∧ t.resetLow = true
        ∧ t.image.flash = s.image.flash ∧ t.pending = s.pending)
      ∧ (s.resetLow = true → s.powered = false → ∃ t : State, exec (.resetPin (.release p)) s = .next t
        ∧ t.powered = false ∧ t.resetLow = false ∧ t.image.flash = s.image.flash ∧ t.pending = s.pending)

/-- POWER_LOSS, and RESET_N pulled low, stop the part (R167, R184): the outputs are released and the panel lines low, the
volatile state is gone, a save leaves no marker, and the image in flash stays. -/
def Obligations.PowerAndPinStopThePart : Prop :=
  ∀ s : State, ∀ c ∈ [Instr.powerLoss, .resetPin .low], ∃ t : State, exec c s = .next t
    ∧ t.running = false ∧ t.attention = false ∧ t.host = HostRecord.powerOn ∧ t.panel.lines = 0
    ∧ t.present = 0 ∧ t.clockSet = false ∧ t.plan = Planner.empty ∧ t.guide = GuideStore.empty
    ∧ t.outbox.directives = [] ∧ t.outbox.notices = []
    ∧ t.image = ⟨.absent, false, .none, none, s.image.flash, none⟩ ∧ t.pending = s.pending

/-- PRESENT_ADVANCE counts one second, whether or not the clock is set, and stops at the last station time (R1); nothing else
moves: the expiries are commands of their own (log entry 2). -/
def Obligations.PresentAdvancesByOne : Prop :=
  ∀ s : State, s.running = true →
    (s.present < 4294967295 → exec .presentAdvance s = .next { s with present := s.present + 1 })
    ∧ (s.present = 4294967295 → exec .presentAdvance s = .next s)

/-- The local day, the time of day and the weekday (R7). -/
def Obligations.LocalDayTimeAndWeekday : Prop :=
  ∀ (set : Settings) (s : Nat), -48 ≤ set.localOffset → set.localOffset ≤ 56 → s ≤ 4294967295 →
    let sum : Int := (s : Int) + set.localOffset * 900
    let d := localDay set s
    sum ≤ 4295017695 ∧ -43200 ≤ sum
    ∧ localSum set s = sum
    ∧ d * 86400 ≤ sum ∧ sum < (d + 1) * 86400
    ∧ -1 ≤ d ∧ d ≤ 49710 ∧ (315360000 ≤ s → 3649 ≤ d)
    ∧ (timeOfDay set s : Int) = sum - d * 86400 ∧ timeOfDay set s ≤ 86399
    ∧ (weekday d : Int) = (d + 5) % 7 ∧ weekday d ≤ 6
    ∧ weekday 0 = 5 ∧ weekday (-1) = 4

/-- The next start of a daily window (R10): the earliest instant later than `s` whose time of day is the window's from, as R8
gives it; none when the window is disabled; the Host Power Unit asks from one second before the present. -/
def Obligations.NextStartOfADailyWindow : Prop :=
  (∀ (set : Settings) (fromT toT : Nat) (s : Int), fromT < 86400 →
    (fromT = toT → nextWindowStart set fromT toT s = none)
    ∧ (fromT ≠ toT → ∃ n : Int, s < n ∧ (n + set.localOffset * 900) % 86400 = fromT
      ∧ (∀ m : Int, s < m → m < n → (m + set.localOffset * 900) % 86400 ≠ fromT)
      ∧ nextWindowStart set fromT toT s = some (clampTime n)))
  ∧ ∀ s : State, nextMaintenance s
      = nextWindowStart s.settings s.settings.maintFrom s.settings.maintTo ((s.present : Int) - 1)

/-- CLOCK (R2): outside its span it is refused with RANGE and nothing else changes; inside, the present and the clock-set flag
take the new values, and the reply carries the step class and the old present. A FORWARD step takes every expiry that lies
after the old present and at or before the new one (R4, R135, R146), in the model's order (log entry 7), and those alone; a
large step derives and plans afresh after that, a BACKWARD one after its timers have been moved (R5, R136); a FIRST step
refreshes the pending entries, starts the scans 900 s on, and derives and plans (R4, R39, R47). -/
def Obligations.ClockIsAcceptedInItsSpan : Prop :=
  (∀ (d : Dest) (w : Word32) (s : State), s.running = true → s.line.state.takes = true →
    let c := Instr.clock d (.fields w)
    let u := arrive c d s
    (w.toNat < 315360000 ∨ 4000000000 < w.toNat → exec c s = .next (u.answering d (.refused 0x03 .range [])))
    ∧ (315360000 ≤ w.toNat → w.toNat ≤ 4000000000 →
      ∃ (t : State) (cls : StepClass), exec c s = .next (t.answering d (.accepted (.clock cls s.present)))
        ∧ t.standing = { u.standing with present := w.toNat, clockSet := true }
        ∧ (s.clockSet = false → cls = .first)
        ∧ (s.clockSet = true → w.toNat = s.present → cls = .none)
        ∧ (s.clockSet = true → s.present < w.toNat → cls = .forward)
        ∧ (s.clockSet = true → w.toNat < s.present → cls = .backward)
        ∧ (let moved : State := { u with present := w.toNat, clockSet := true }
          let replanned := fun v : State => settle (deriveAndPass v)
          (cls = .none → t = u)
          ∧ (cls = .first → t = replanned { moved with guide := { moved.guide with
              entries := u.guide.entries.map (fun e => { e with refreshedAt := some (e.refreshedAt.getD w.toNat) })
              nextScan := some (w.toNat + 900) } })
          ∧ (cls = .forward → ∃ f : State, f = settle { moved with agenda := crossedDues s.present w.toNat moved }
            ∧ t = if s.present + 300 < w.toNat then replanned f else f)
          ∧ (cls = .backward → ∃ f : State, f =
              { moved with
                plan := { u.plan with bookings := u.plan.bookings.map (fun b => { b with
                  confirmExpiry := b.confirmExpiry.map (fun x => min x (w.toNat + s.settings.confirmTimeout)) }) }
                host := { u.host with wakeTimer :=
                  u.host.wakeTimer.map (fun x => min x (w.toNat + s.settings.wakeTimeout)) } }
            ∧ t = if w.toNat + 300 < s.present then replanned f else f))))
  ∧ ∀ (old v : Nat) (s : State),
    let crosses := fun x : Option Nat => ∃ n, x = some n ∧ old < n ∧ n ≤ v
    let booked := fun (n : Nat) (f : Booking → Option Nat) => ∃ b ∈ s.plan.bookings, b.number = n ∧ crosses (f b)
    (∀ n, .windowStart n ∈ crossedDues old v s ↔ booked n Booking.windowExpiry)
    ∧ (∀ n, .lateLimit n ∈ crossedDues old v s ↔ booked n Booking.lateExpiry)
    ∧ (∀ n, .takeDeadline n ∈ crossedDues old v s ↔ booked n Booking.takeExpiry)
    ∧ (∀ n, .confirmTimer n ∈ crossedDues old v s ↔ booked n Booking.confirmExpiry)
    ∧ (∀ n, .provisionalEnd n ∈ crossedDues old v s ↔ booked n Booking.provExpiry)
    ∧ (.wake ∈ crossedDues old v s ↔ crosses s.host.wakeExpiry)
    ∧ (.wakeTimer ∈ crossedDues old v s ↔ crosses s.host.wakeTimer)
    ∧ (∀ x, .warning x ∈ crossedDues old v s ↔ ∃ h, (s.tuner x).hold = some h ∧ crosses h.warnExpiry)
    ∧ (.scan ∈ crossedDues old v s ↔ crosses s.guide.nextScan)

/-- A NONE step changes nothing; a step of at most 300 s that crosses no expiry moves the present, and backward the timers
that would wait too long, but causes no derivation and no pass; a FIRST step starts the scans 900 s on (R3, R47, R136, R146). -/
def Obligations.SmallClockStepsReplanNothing : Prop :=
  ∀ (d : Dest) (w : Word32) (s : State), Free s → 315360000 ≤ w.toNat → w.toNat ≤ 4000000000 →
    let c := Instr.clock d (.fields w)
    let u := arrive c d s
    let t := { u with present := w.toNat }
    (s.clockSet = true → w.toNat = s.present →
      exec c s = .next (u.answering d (.accepted (.clock .none s.present))))
    ∧ (s.clockSet = true → s.present < w.toNat → w.toNat ≤ s.present + 300 → crossedDues s.present w.toNat u = [] →
      exec c s = .next (t.answering d (.accepted (.clock .forward s.present))))
    ∧ (s.clockSet = true → w.toNat < s.present → s.present ≤ w.toNat + 300 →
      exec c s = .next (State.answering
        { t with
          plan := { t.plan with bookings := t.plan.bookings.map (fun b => { b with
            confirmExpiry := b.confirmExpiry.map (fun x => min x (w.toNat + s.settings.confirmTimeout)) }) }
          host := { t.host with wakeTimer := t.host.wakeTimer.map (fun x => min x (w.toNat + s.settings.wakeTimeout)) } }
        d (.accepted (.clock .backward s.present))))
    ∧ (s.clockSet = false → ∃ t' : State, exec c s = .next (t'.answering d (.accepted (.clock .first s.present)))
        ∧ t'.guide.nextScan = some (w.toNat + 900))

/-! ### Settings, QUERY and RESET -/

/-- PARAM_SET outside a save (R173): an id that names no setting, and an entry of an enumeration out of range, are refused
with RANGE; otherwise every entry of the setting takes its value brought into its range, and no other setting, table or input
of the schedule changes. A change makes a CURRENT image STALE (`m`, R181) and then has the effect section 10.6 names for its
id: a derivation and a pass (R6, R58, R75), a pass (R57, R95), the space part (R110), the wake expiry afresh (R6, R11, R145),
the warnings afresh (R25), the late limits and take deadlines afresh, with the bookings whose instant is reached finished
(R118), the RECORDING bookings past a lowered cap pulled down (R130; with none of them the model runs no pass, log entry 24),
or none. The model's choices: tuner A's warning is taken before tuner B's where one WARN_LEAD makes both due at once (log entry
7); and its readings: the finishes of one setting share one step 8, and from what a take deadline is formed afresh (log entries
12 and 15). -/
def Obligations.ParamSetReplacesOneSetting : Prop :=
  (∀ (d : Dest) (a : ParamSetArgs) (s : State), s.running = true → s.line.state.takes = true →
    let c := Instr.paramSet d (.fields a)
    let u := arrive c d s
    (u.saving = true → exec c s = .next (u.answering d (.refused 0x05 .busy [])))
    ∧ (u.saving = false → settingRow a.id.toNat = none → exec c s = .next (u.answering d (.refused 0x05 .range [])))
    ∧ ∀ r, settingRow a.id.toNat = some r → u.saving = false →
      (r.enumeration = true → r.admits (r.decode a.value) = false →
        exec c s = .next (u.answering d (.refused 0x05 .range [])))
      ∧ (r.enumeration = true → r.admits (r.decode a.value) = true →
        ∃ t : State, exec c s = .next (t.answering d (.accepted (.paramSet a.id.toNat (r.decode a.value) false
            (s.settings.get a.id.toNat != r.decode a.value))))
          ∧ t.standing = { u.standing with settings := s.settings.put a.id.toNat (r.decode a.value) })
      ∧ (r.enumeration = false →
        ∃ t : State, exec c s = .next (t.answering d (.accepted (.paramSet a.id.toNat (r.clamp (r.decode a.value))
            (r.clamp (r.decode a.value) != r.decode a.value)
            (s.settings.get a.id.toNat != r.clamp (r.decode a.value)))))
          ∧ t.standing = { u.standing with settings :=
              (s.settings.put a.id.toNat (r.clamp (r.decode a.value))) }))
  ∧ ∀ (d : Dest) (a : ParamSetArgs) (r : SettingRow) (s : State), Free s → settingRow a.id.toNat = some r →
    let c := Instr.paramSet d (.fields a)
    let u := arrive c d s
    let v := if r.enumeration = true then r.decode a.value else r.clamp (r.decode a.value)
    let answer := fun t : State => exec c s = .next (t.answering d (.accepted (.paramSet a.id.toNat v
      (v != r.decode a.value) (s.settings.get a.id.toNat != v))))
    let m := State.noteChange u.storedContent { u with settings := s.settings.put a.id.toNat v }
    u.saving = false → (r.enumeration = true → r.admits (r.decode a.value) = true) →
    (s.settings.get a.id.toNat = v → answer u)
    ∧ (s.settings.get a.id.toNat ≠ v →
      (u.image.state = .current → m.image.state = .stale) ∧ m.plan = u.plan ∧ m.requests = u.requests
      ∧ m.guide = u.guide ∧ m.host = u.host ∧ m.tunerA = u.tunerA ∧ m.tunerB = u.tunerB
      ∧ (a.id.toNat ∈ [1, 2, 3] → answer (settle (deriveAndPass m)))
      ∧ (a.id.toNat = 11 → answer (settle (recomputeWake (deriveAndPass m))))
      ∧ (a.id.toNat ∈ [14, 15, 16] → answer (settle (passIfSet m)))
      ∧ (a.id.toNat ∈ [17, 18] → answer (spacePart m))
      ∧ (a.id.toNat ∈ [6, 12, 13] → answer (settle (recomputeWake m)))
      ∧ (a.id.toNat ∈ [7, 8, 10, 19] → answer m)
      ∧ (a.id.toNat = 9 →
        let expiry := fun h : ViewerHold =>
          if m.settings.warnLead = 0 then none else h.yieldTime.map (fun y => y - m.settings.warnLead)
        let warned := fun k : Tuner => { k with hold := k.hold.map (fun h =>
          if h.yieldTime.isSome = true ∧ h.warned = false then { h with warnExpiry := expiry h } else h) }
        let dues := fun (x : TunerId) (k : Tuner) => match k.hold with
          | some h => if h.yieldTime.isSome = true ∧ h.warned = false
              ∧ (expiry h).any (fun e => decide (e ≤ m.present)) = true then [Due.warning x] else []
          | none => []
        answer (settle { m with
          tunerA := warned m.tunerA
          tunerB := warned m.tunerB
          agenda := dues .a m.tunerA ++ dues .b m.tunerB }))
      ∧ (a.id.toNat = 5 →
        let f : State := { m with plan := { m.plan with bookings := m.plan.bookings.map (fun b => match b.state with
          | some .clashed => { b with lateExpiry := some (lateLimitOf m.settings b) }
          | some .late => { b with lateExpiry := some (lateLimitOf m.settings b) }
          | some .due => { b with takeExpiry := b.dueAt.map (takeDeadlineOf m.settings b) }
          | _ => b) } }
        let ended := f.plan.bookings.filter (limitReached f)
        answer (settle (finishGroup reachedEnding (ended.map Booking.number) f))
        ∧ (ended = [] → answer f))
      ∧ (a.id.toNat = 4 →
        let cap := fun b : Booking => min (b.winEnd + m.settings.overrunLimit) 4294967295
        let past := fun b : Booking => b.state == some .recording && decide (cap b < b.provEnd)
        let f : State := { m with plan := { m.plan with bookings := m.plan.bookings.map (fun b => if past b = true then
          { b with
            provEnd := max (cap b) m.present
            provExpiry := some (max (cap b) m.present)
            cut := some .limit }
          else b) } }
        let ended := m.plan.bookings.filter (fun b => past b && decide (cap b ≤ m.present))
        let lowered := m.settings.overrunLimit < u.settings.overrunLimit ∧ ∃ b ∈ m.plan.bookings, past b = true
        (¬ lowered → answer m)
        ∧ (lowered → answer (settle (passIfSet (settle (finishGroup pulledEnding (ended.map Booking.number) f)))))
        ∧ (lowered → ended = [] → answer (settle (passIfSet f)))))

/-- PARAM_GET (R174): an id outside 1 to 19 is refused with RANGE; otherwise the reply carries the id and the value in
force, at the setting's width; nothing else changes. Writing a setting's value and reading it back: a value of the
right number of entries, each in range, is the value then in force, and every other setting keeps its own (section
10.6, R173). -/
def Obligations.ParamGetReports : Prop :=
  (∀ (d : Dest) (id : Byte) (s : State), s.running = true → s.line.state.takes = true →
      let c := Instr.paramGet d (.fields id)
      let u := arrive c d s
      (id.toNat = 0 ∨ 19 < id.toNat → exec c s = .next (u.answering d (.refused 0x06 .range [])))
      ∧ (1 ≤ id.toNat → id.toNat ≤ 19 →
        exec c s = .next (u.answering d (.accepted (.paramGet id.toNat (s.settings.get id.toNat))))
        ∧ (s.settings.inRange = true →
          (replyPayload (.paramGet id.toNat (s.settings.get id.toNat))).length = 1 + settingWidth id)))
  ∧ (∀ (set : Settings) (id other : Nat) (r : SettingRow) (v : List Int), settingRow id = some r →
      v.length = r.entries → r.admits v = true →
        (set.put id v).get id = v ∧ (other ≠ id → (set.put id v).get other = set.get other))

/-- QUERY (R175): addressed to the part it reports the part's condition, and the lost-notice count is then 0; broadcast, it
leaves the count. Nothing else changes. What the report carries is written out. -/
def Obligations.QueryReportsAndClearsLost : Prop :=
  (∀ s : State, s.running = true → s.line.state.takes = true →
    (let u := arrive (.query .own (.fields ())) .own s
     exec (.query .own (.fields ())) s = .next (State.answering { u with outbox := { u.outbox with lost := 0 } } .own
       (.accepted (.query (queryReport u)))))
    ∧ (let u := arrive (.query .broadcast (.fields ())) .broadcast s
       exec (.query .broadcast (.fields ())) s = .next { u with line := { u.line with state := .idle } }))
  ∧ ∀ u : State,
    let requests := fun st : RequestState => (u.requests.filter (fun r => r.state == st)).length
    let bookings := fun st : BookingState => (u.plan.bookings.filter (fun b => b.state == some st)).length
    queryReport u =
      { clockSet := u.clockSet
        present := u.present
        host := u.host.state
        hold := u.run.hold
        attnEnable := u.outbox.attnEnable
        services := u.services.length
        entries := u.guide.entries.length
        active := requests .active
        paused := requests .paused
        dropping := requests .dropping
        planned := bookings .planned
        clashed := bookings .clashed
        late := bookings .late
        due := bookings .due
        starting := bookings .starting
        recording := bookings .recording
        directives := u.outbox.directives.length
        notices := u.outbox.notices.length
        lost := u.outbox.lost
        image := u.image.state
        nextWake := u.host.wakeExpiry
        recordings := u.run.recordings }

/-- An accepted RESET (R176, R177): the schedule's state is emptied, both queues with the lost-notice count and the
in-service flags (R151, R160), and the clock, the host record, the panel lines and the straps are kept; DEFAULTS also gives
the stored content its defaults, and a CURRENT image becomes STALE. The two counts are 0, the CAPACITY flags clear (R163),
and each level source is sampled once: a STORE_STALE notice waits alone, with its source in service, when the image is not
CURRENT and the mask is clear, and nothing waits or is in service otherwise (R166). `p` is the state the derivation and pass
then start from; the reply has been sent first, and the Line Interface is IDLE at the end. Any other scope is refused with
RANGE. -/
def Obligations.ResetEmptiesTheSchedule : Prop :=
  (∀ (d : Dest) (b : Byte) (s : State), s.running = true → s.line.state.takes = true → b ≠ 1 → b ≠ 2 →
    exec (.reset d (.fields b)) s = .next ((arrive (.reset d (.fields b)) d s).answering d (.refused 0x07 .range [])))
  ∧ ∀ (d : Dest) (b : Byte) (s : State), s.running = true → s.line.state.takes = true → b = 1 ∨ b = 2 →
    ∃ p t : State, exec (.reset d (.fields b)) s = .next t
      ∧ t = { settle (deriveAndPass p) with line := { p.line with state := .idle } }
      ∧ (d = .own → t.line.reply = some (.accepted (.reset b.toNat))) ∧ (d = .broadcast → t.line.reply = s.line.reply)
      ∧ t.present = s.present ∧ t.clockSet = s.clockSet ∧ t.line.dropAddress = s.line.dropAddress
      ∧ p.host = s.host ∧ p.panel.lines = s.panel.lines
      ∧ p.guide.entries = [] ∧ p.guide.stream = none ∧ p.guide.full = false ∧ p.guide.scanWaits = false
      ∧ p.plan.bookings = [] ∧ p.plan.counter = 1 ∧ p.plan.listShort = false ∧ p.run = ⟨false, 0⟩
      ∧ p.tunerA.hold = none ∧ p.tunerB.hold = none
      ∧ p.guide.agingPending = false
      ∧ p.guide.nextScan = (if s.guide.agingPending = true ∨ s.guide.scanWaits = true then some (s.present + 900)
        else s.guide.nextScan)
      ∧ p.outbox.directives = [] ∧ p.outbox.lost = 0 ∧ p.saving = false ∧ p.image.flash = s.image.flash
      ∧ p.alerts.clashCount = 0 ∧ p.alerts.spaceCount = 0 ∧ p.alerts.guideFull = false ∧ p.alerts.listShort = false
      ∧ (ReportsOk s → p.alerts.image = p.image.state)
      ∧ (p.alerts.image ≠ .current → p.alerts.masks.level.storeStale = false →
        p.outbox.notices = [.storeStale p.alerts.image]
        ∧ p.alerts.inService = { LevelFlags.clear with storeStale := true })
      ∧ (p.alerts.image = .current ∨ p.alerts.masks.level.storeStale = true →
        p.outbox.notices = [] ∧ p.alerts.inService = LevelFlags.clear)
      ∧ (s.saving = true → p.image.state = .failed ∧ p.image.abandonCause = .reset)
      ∧ (b = 1 → p.storedContent = s.storedContent ∧ p.plan.freeSpace = s.plan.freeSpace
          ∧ p.requests = s.requests.filter (fun r => r.state != .dropping))
      ∧ (b = 2 → p.storedContent = StoredContent.defaults ∧ p.plan.freeSpace = none
          ∧ (s.image.state = .current → p.image.state = .stale))

/-! ### Services, tuners and viewer holds -/

/-- SVC_PUT and SVC_DROP (R13, R14): BUSY during a save, then RANGE for operands out of range; otherwise a new channel is
inserted at its place, FULL at 200 records; a differing record of the channel is replaced, STATE when a channel in use would
move; an equal one is left; a drop removes the record, UNKNOWN when there is none, STATE when the channel is in use or named
by a request. An insertion, a replacement and a removal each bring the derivation and the pass on the changed table, before
the reply (R15). -/
def Obligations.ServiceTableChanges : Prop :=
  (∀ (d : Dest) (a : SvcPutArgs) (s : State), s.running = true → s.line.state.takes = true →
    1 ≤ a.channel.toNat → a.channel.toNat ≤ 9999 → a.network.toNat ≤ 3 → a.rateClass.toNat ≤ 3 →
    let c := Instr.svcPut d (.fields a)
    let u := arrive c d s
    let v : Service := ⟨a.channel.toNat, a.network.toNat, a.multiplex.toNat, a.rateClass.toNat⟩
    let planned := fun vs : List Service =>
      settle (deriveAndPass (State.noteChange u.storedContent { u with services := vs }))
    u.saving = false →
    (s.service? a.channel.toNat = none → 200 ≤ s.services.length →
      exec c s = .next (u.answering d (.refused 0x10 .full [])))
    ∧ (s.service? a.channel.toNat = none → s.services.length < 200 →
      let vs := insertBy serviceBefore v s.services
      exec c s = .next ((planned vs).answering d (.accepted (.svcPut .inserted)))
        ∧ (planned vs).image.state ≠ .current ∧ (planned vs).standing = { u.standing with services := vs })
    ∧ ∀ w, s.service? a.channel.toNat = some w →
      (w = v → exec c s = .next (u.answering d (.accepted (.svcPut .unchanged))))
      ∧ (w.network ≠ v.network ∨ w.multiplex ≠ v.multiplex → u.channelInUse v.channel = true →
        exec c s = .next (u.answering d (.refused 0x10 .state [])))
      ∧ (w ≠ v → (w.network = v.network ∧ w.multiplex = v.multiplex ∨ u.channelInUse v.channel = false) →
        let vs := s.services.map (fun x => if x.channel == v.channel then v else x)
        exec c s = .next ((planned vs).answering d (.accepted (.svcPut .updated)))
          ∧ (planned vs).image.state ≠ .current ∧ (planned vs).standing = { u.standing with services := vs }))
  ∧ (∀ (d : Dest) (w : Word16) (s : State), s.running = true → s.line.state.takes = true →
    1 ≤ w.toNat → w.toNat ≤ 9999 →
    let c := Instr.svcDrop d (.fields w)
    let u := arrive c d s
    u.saving = false →
    (s.hasService w.toNat = false → exec c s = .next (u.answering d (.refused 0x11 .unknown [])))
    ∧ (s.hasService w.toNat = true → (u.channelInUse w.toNat = true ∨ u.requestNames w.toNat = true) →
      exec c s = .next (u.answering d (.refused 0x11 .state [])))
    ∧ (s.hasService w.toNat = true → u.channelInUse w.toNat = false → u.requestNames w.toNat = false →
      let vs := s.services.filter (fun x => x.channel != w.toNat)
      let t := settle (deriveAndPass (State.noteChange u.storedContent { u with services := vs }))
      exec c s = .next (t.answering d (.accepted .svcDrop)) ∧ t.image.state ≠ .current
        ∧ t.standing = { u.standing with services := vs }))
  ∧ ∀ (d : Dest) (s : State), s.running = true → s.line.state.takes = true →
    (∀ a : SvcPutArgs,
      let c := Instr.svcPut d (.fields a)
      let u := arrive c d s
      (u.saving = true → exec c s = .next (u.answering d (.refused 0x10 .busy [])))
      ∧ (u.saving = false →
        a.channel.toNat = 0 ∨ 9999 < a.channel.toNat ∨ 3 < a.network.toNat ∨ 3 < a.rateClass.toNat →
        exec c s = .next (u.answering d (.refused 0x10 .range []))))
    ∧ ∀ w : Word16,
      let c := Instr.svcDrop d (.fields w)
      let u := arrive c d s
      (u.saving = true → exec c s = .next (u.answering d (.refused 0x11 .busy [])))
      ∧ (u.saving = false → w.toNat = 0 ∨ 9999 < w.toNat → exec c s = .next (u.answering d (.refused 0x11 .range [])))

/-- SVC_READ (R16): the records at or beyond the starting channel, in ascending order, up to eight, and the channel of the next
one; no state changes, and a save does not refuse it. -/
def Obligations.SvcReadWalksTheTable : Prop :=
  ∀ (d : Dest) (w : Word16) (s : State), s.running = true → s.line.state.takes = true →
    let c := Instr.svcRead d (.fields w)
    let u := arrive c d s
    let vs := s.services.filter (fun v => w.toNat ≤ v.channel)
    (9999 < w.toNat → exec c s = .next (u.answering d (.refused 0x12 .range [])))
    ∧ (w.toNat ≤ 9999 → exec c s = .next (u.answering d (.accepted
        (.svcRead (vs.take 8) (((vs.drop 8).head?.map Service.channel).getD 0)))))
    ∧ (servicesOk s.services → rising ((vs.take 8).map Service.channel))
    ∧ (vs = [] → (vs.take 8) = [] ∧ ((vs.drop 8).head?.map Service.channel).getD 0 = 0)

/-- TUNER_CFG (R18): BUSY during a save; operands out of range are refused with RANGE, a change that would break a claim
with STATE; equal values change nothing; otherwise both fields of the named tuner take the new values, a change of stored
content, and a whole pass follows on that state before the reply when the clock is set, with no derivation. -/
def Obligations.TunerCfgSetsBothFields : Prop :=
  ∀ (d : Dest) (a : TunerCfgArgs) (s : State), s.running = true → s.line.state.takes = true →
    let c := Instr.tunerCfg d (.fields a)
    let u := arrive c d s
    (u.saving = true → exec c s = .next (u.answering d (.refused 0x13 .busy [])))
    ∧ (u.saving = false →
    (1 < a.tuner.toNat ∨ 1 < a.enabled.toNat ∨ 15 < a.mask.toNat →
      exec c s = .next (u.answering d (.refused 0x13 .range [])))
    ∧ ∀ x, tunerOfIndex a.tuner.toNat = some x → a.enabled.toNat ≤ 1 → a.mask.toNat ≤ 15 →
      let e := decide (a.enabled = 1)
      let m : BitVec 4 := BitVec.ofNat 4 a.mask.toNat
      (breaksClaim u x e m = true → exec c s = .next (u.answering d (.refused 0x13 .state [])))
      ∧ (breaksClaim u x e m = false → (s.tuner x).enabled = e → (s.tuner x).mask = m →
        exec c s = .next (u.answering d (.accepted (.tunerCfg false))))
      ∧ (breaksClaim u x e m = false → ((s.tuner x).enabled ≠ e ∨ (s.tuner x).mask ≠ m) →
        let w := u.withTuner x { u.tuner x with enabled := e, mask := m }
        let t := settle (passIfSet (State.noteChange u.storedContent w))
        exec c s = .next (t.answering d (.accepted (.tunerCfg true))) ∧ t.standing = w.standing))

/-- VIEW_ON and VIEW_OFF (R20 to R22). VIEW_ON is refused with CLOCK while the clock is unset, then with RANGE and UNKNOWN;
with the clock set, with STATE when the tuner is off or does not carry the network, or when running bookings of the tuner
stand in the way, the first three of which it names in slot order. Otherwise the new hold replaces the tuner's, in the lowest
slot that no running and no LATE booking of the tuner holds, else the lowest that no running one holds; a whole pass runs on
that state (`p`), the reply carries the yield the pass gave the hold, and the expiries the pass made due follow. VIEW_OFF
removes a hold, and a whole pass follows, or does nothing. WARNING_EXPIRY (R24): the warned flag is set whether or not
VIEW_WARN is masked; unmasked, its event joins the queue with the tuner, the yielding booking and the yield time. That
VIEW_ON's reply carries the yield before those expiries is the model's reading (log entry 17). -/
def Obligations.ViewerHoldsComeAndGo : Prop :=
  (∀ (u : State) (x : TunerId) (m : Nat),
      let runs := fun k : Nat => ∃ b ∈ u.plan.bookings, b.isRunning = true ∧ b.place = some ⟨x, k⟩
      let late := fun k : Nat => ∃ b ∈ u.plan.bookings, b.state = some .late ∧ b.place = some ⟨x, k⟩
      (viewBlocked u x m = true ↔ (∀ k ≤ 2, runs k)
        ∨ ∃ b ∈ u.plan.bookings, b.isRunning = true ∧ b.onTuner x = true ∧ u.multiplexOf b.channel ≠ m)
      ∧ ((runningOn u x).Perm (u.plan.bookings.filter (fun b => b.isRunning && b.onTuner x))
        ∧ (runningOn u x).Pairwise (fun b c => ∀ p q, b.place = some p → c.place = some q → p.slot ≤ q.slot))
      ∧ ((∃ k ≤ 2, ¬ runs k ∧ ¬ late k) → viewSlot u x ≤ 2 ∧ ¬ runs (viewSlot u x) ∧ ¬ late (viewSlot u x)
        ∧ ∀ k < viewSlot u x, runs k ∨ late k)
      ∧ ((∀ k ≤ 2, runs k ∨ late k) → (∃ k ≤ 2, ¬ runs k) → viewSlot u x ≤ 2 ∧ ¬ runs (viewSlot u x)
        ∧ ∀ k < viewSlot u x, runs k))
  ∧ (∀ (d : Dest) (a : ViewOnArgs) (s : State) (x : TunerId) (v : Service), s.running = true →
      s.line.state.takes = true → s.clockSet = true → tunerOfIndex a.tuner.toNat = some x → 1 ≤ a.channel.toNat →
      a.channel.toNat ≤ 9999 → s.service? a.channel.toNat = some v →
      let c := Instr.viewOn d (.fields a)
      let u := arrive c d s
      ((u.tuner x).enabled = false ∨ (u.tuner x).mask.getLsbD v.network = false →
        exec c s = .next (u.answering d (.refused 0x14 .state [])))
      ∧ ((u.tuner x).enabled = true → (u.tuner x).mask.getLsbD v.network = true → viewBlocked u x v.multiplex = true →
        exec c s = .next (u.answering d (.refused 0x14 .state (((runningOn u x).map Booking.number).take 3))))
      ∧ ((u.tuner x).enabled = true → (u.tuner x).mask.getLsbD v.network = true → viewBlocked u x v.multiplex = false →
        let p := planPass (u.withTuner x { u.tuner x with
          hold := some ⟨v.channel, v.multiplex, viewSlot u x, none, none, false, none⟩ })
        ∃ h : ViewerHold, (p.tuner x).hold = some h ∧ h.channel = v.channel ∧ h.multiplex = v.multiplex
          ∧ h.slot = viewSlot u x ∧ h.warned = false ∧ p.standing = u.standing
          ∧ exec c s = .next ((settle p).answering d
            (.accepted (.viewOn ⟨x, viewSlot u x⟩ h.yieldTime h.yieldBooking)))))
  ∧ (∀ (d : Dest) (b : Byte) (s : State), s.running = true → s.line.state.takes = true →
      let c := Instr.viewOff d (.fields b)
      let u := arrive c d s
      (1 < b.toNat → exec c s = .next (u.answering d (.refused 0x15 .range [])))
      ∧ ∀ x, tunerOfIndex b.toNat = some x →
        ((u.tuner x).hold = none → exec c s = .next (u.answering d (.accepted (.viewOff false))))
        ∧ ((u.tuner x).hold.isSome = true →
          let t := settle (passIfSet (u.withTuner x { u.tuner x with hold := none }))
          exec c s = .next (t.answering d (.accepted (.viewOff true)))
          ∧ (t.tuner x).hold = none ∧ t.standing = u.standing))
  ∧ (∀ (d : Dest) (a : ViewOnArgs) (s : State), s.running = true → s.line.state.takes = true →
      let c := Instr.viewOn d (.fields a)
      let u := arrive c d s
      (s.clockSet = false → exec c s = .next (u.answering d (.refused 0x14 .clock [])))
      ∧ (s.clockSet = true → 1 < a.tuner.toNat ∨ a.channel.toNat = 0 ∨ 9999 < a.channel.toNat →
        exec c s = .next (u.answering d (.refused 0x14 .range [])))
      ∧ (s.clockSet = true → a.tuner.toNat ≤ 1 → 1 ≤ a.channel.toNat → a.channel.toNat ≤ 9999 →
        s.service? a.channel.toNat = none → exec c s = .next (u.answering d (.refused 0x14 .unknown []))))
  ∧ (∀ (x : TunerId) (s : State) (h : ViewerHold) (e y n : Nat), s.running = true → s.agenda = [] →
      (s.tuner x).hold = some h → h.warnExpiry = some e → e ≤ s.present →
      h.yieldTime = some y → h.yieldBooking = some n →
      let t := s.withTuner x { s.tuner x with hold := some { h with warned := true, warnExpiry := none } }
      exec (.warningExpiry x) s = .next (t.edgeEvent (.viewWarn x n y))
      ∧ (s.alerts.masks.edge.viewWarn = true → exec (.warningExpiry x) s = .next t)
      ∧ (s.alerts.masks.edge.viewWarn = false → s.outbox.notices.length < 24 →
        exec (.warningExpiry x) s = .next { t with
          outbox := { t.outbox with notices := s.outbox.notices ++ [.viewWarn x n y] } }))

/-! ### The guide -/

/-- The close work of a stream (R40 to R43, R129, R133): with none OPEN there is none; a replacing one sweeps its window
(`v`), the unpinned entries it did not write leaving and the pinned ones withdrawn; the PLANNED and CLASHED bookings of the
newly withdrawn ones finish WITHDRAWN in list order with one step 8 (`f`); the marks are cleared, a postponed scan runs or
waits for a save, and a derivation and a pass follow a change or a scan. GUIDE_OPEN (R33): a range or a span out of order is
refused with RANGE and leaves an OPEN stream OPEN; otherwise an OPEN stream is closed with its work and the new one is OPEN
with both flags clear. GUIDE_FLUSH (R46): a range out of order is refused with RANGE; otherwise the reply counts the unpinned
entries of the range and the pinned ones, exactly the unpinned ones leave, and a derivation and a pass follow when there were
any. RUNNING (R44, R45): refused with RANGE and UNKNOWN; an equal status changes nothing; otherwise the entry takes the status
and, with RUNNING, the has-run flag for good, and each RECORDING booking that names it has its early end where R128 applies
it: in list order (`hand`), those whose end has come finishing then, with one step 8 after the last (R133). An early end
that is reached abandons a save in progress (R184). The model's reading: where the expiries that the close work makes due are
taken (log entry 20). The model's choices: that an early end ahead of the present brings its pass before the next booking is
looked at (log entry 12), and that where a save is abandoned, the waiting scan's pass and what it makes due are taken before the
booking's finish and the group's step 8 (log entry 14). -/
def Obligations.GuideOpenFlushAndRunning : Prop :=
  ((∀ s : State, s.guide.stream = none → closeStream s = s)
    ∧ (∀ (s : State) (w : StreamWindow), s.guide.stream = some w →
      let visits := fun e : GuideEntry => w.replace && decide (w.first ≤ e.channel) && decide (e.channel ≤ w.last)
        && decide (w.start ≤ e.start) && decide (e.start < w.stop) && !e.written
      let gone := fun e : GuideEntry => visits e && e.pins == 0
      let hit := fun e : GuideEntry => visits e && e.pins != 0 && !e.withdrawn
      ∃ v f g : State,
        v.guide.entries = (s.guide.entries.filter (fun e => !gone e)).map (fun e =>
          if hit e then { e with withdrawn := true } else e)
        ∧ v.guide.change = (s.guide.change || s.guide.entries.any (fun e => gone e || hit e))
        ∧ v.guide.full = (s.guide.full && (!w.replace || decide (1200 ≤ v.guide.entries.length)))
        ∧ v.guide.agingPending = s.guide.agingPending ∧ v.guide.stream = some w
        ∧ v.plan = s.plan ∧ v.requests = s.requests ∧ v.image = s.image ∧ v.standing = s.standing
        ∧ (let ends := v.plan.bookings.filter (fun b => (b.state == some .planned || b.state == some .clashed)
            && (s.guide.entries.filter hit).any (fun e => b.key == .guideSlot e.slot))
          f = if ends = [] then v else settle (afterFinish (ends.any v.isSeriesBooking)
            (ends.foldl (fun u b => finishBooking (.outcome .withdrawn .withdrawn 0) none b u) v)))
        ∧ (let c := f.withEntries (f.guide.entries.map (fun e => { e with written := false }))
          g = if f.guide.agingPending = true then
              if f.saving = true then { c with guide := { c.guide with scanWaits := true } } else runScan c
            else c)
        ∧ (let h := if f.guide.change = true ∨ (f.guide.agingPending = true ∧ f.saving = false) then deriveAndPass g
            else g
          closeStream s = settle { h with guide := { h.guide with
            stream := none, change := false, agingPending := false } }))
    ∧ ∀ s : State,
      (runScan s).guide.entries = s.guide.entries.filter (fun e => !(e.pins == 0
        && (decide (3600 < s.present - (e.start + e.duration)) || e.withdrawn || (match e.refreshedAt with
          | some t => decide (s.settings.stalePeriod < s.present - t)
          | none => false))))
      ∧ (runScan s).guide.nextScan = some (s.present + 900) ∧ (runScan s).plan = s.plan
      ∧ (runScan s).requests = s.requests ∧ (runScan s).standing = s.standing)
  ∧ (∀ (d : Dest) (a : GuideOpenArgs) (s : State), s.running = true → s.line.state.takes = true →
    let c := Instr.guideOpen d (.fields a)
    let u := arrive c d s
    let ok := 1 ≤ a.first.toNat ∧ a.first.toNat ≤ a.last.toNat ∧ a.last.toNat ≤ 9999 ∧ a.start.toNat < a.stop.toNat
    (¬ ok → exec c s = .next (s.answering d (.refused 0x20 .range [])))
    ∧ (ok → u.guide = s.guide ∧ exec c s = .next (State.answering
        { closeStream u with guide := { (closeStream u).guide with
          stream := some ⟨a.first.toNat, a.last.toNat, a.start.toNat, a.stop.toNat, a.replace⟩
          change := false
          agingPending := false } }
        d (.accepted (.guideOpen s.guide.stream.isSome)))))
  ∧ (∀ (d : Dest) (a : GuideFlushArgs) (s : State), s.running = true → s.line.state.takes = true →
    let c := Instr.guideFlush d (.fields a)
    let u := arrive c d s
    let inRange := fun e : GuideEntry => match a with
      | .whole => true
      | .range first last => decide (first.toNat ≤ e.channel) && decide (e.channel ≤ last.toNat)
    let hit := u.guide.entries.filter (fun e => inRange e && e.pins == 0)
    let kept := u.guide.entries.filter (fun e => inRange e && e.pins != 0)
    let reply := fun t : State => exec c s
      = .next (t.answering d (.accepted (.guideFlush hit.length kept.length)))
    (∀ first last, a = .range first last → ¬ (1 ≤ first.toNat ∧ first.toNat ≤ last.toNat ∧ last.toNat ≤ 9999) →
      exec c s = .next (u.answering d (.refused 0x22 .range [])))
    ∧ ((∀ first last, a = .range first last → 1 ≤ first.toNat ∧ first.toNat ≤ last.toNat ∧ last.toNat ≤ 9999) →
      (hit = [] → reply u)
      ∧ (hit ≠ [] → ∃ v : State,
        v.guide.entries = u.guide.entries.filter (fun e => !(inRange e && e.pins == 0))
        ∧ v.guide.full = (u.guide.full && decide (1200 ≤ v.guide.entries.length))
        ∧ v.plan = u.plan ∧ v.requests = u.requests ∧ v.image = u.image ∧ v.standing = u.standing
        ∧ reply (settle (deriveAndPass v)))))
  ∧ (∀ (d : Dest) (a : RunningArgs) (s : State), s.running = true → s.line.state.takes = true →
    let c := Instr.running d (.fields a)
    let u := arrive c d s
    (a.channel.toNat = 0 ∨ 9999 < a.channel.toNat ∨ a.eventId = 0 ∨ 4 < a.status.toNat →
      exec c s = .next (u.answering d (.refused 0x23 .range [])))
    ∧ ∀ st, 1 ≤ a.channel.toNat → a.channel.toNat ≤ 9999 → a.eventId ≠ 0 → statusOf a.status = some st →
      (u.entry? a.channel.toNat a.eventId.toNat = none → exec c s = .next (u.answering d (.refused 0x23 .unknown [])))
      ∧ ∀ e, u.entry? a.channel.toNat a.eventId.toNat = some e →
        (e.status = st → exec c s = .next (u.answering d (.accepted (.running false))))
        ∧ (e.status ≠ st →
          let m := u.mapEntry e.slot (fun x => { x with status := st, hasRun := x.hasRun || st == .running })
          let reply := fun t : State => exec c s = .next (t.answering d (.accepted (.running true)))
          (e.pins = 0 → reply m)
          ∧ ((∀ b ∈ u.plan.bookings, b.key = .guideSlot e.slot → b.state ≠ some .recording) →
            (u.plan.bookings.map Booking.number).Nodup → reply m)
          ∧ (e.pins ≠ 0 →
            let applies := fun (v : State) (b : Booking) => b.state = some .recording ∧ b.accurate = true
              ∧ ∃ x, v.entryOf b = some x ∧ x.withdrawn = false ∧ x.status = .notRunning ∧ x.hasRun = true
            let hand := fun (w : GroupWork) (n : Nat) => match w.state.booking? n with
              | none => w
              | some b => if ¬ applies w.state b then w else match earlyEndAt w.state b with
                | none => w
                | some (x, cut) => if w.state.present < x then { w with state := settle (earlyEnd n w.state) } else
                  let moved := w.state.withBookings (w.state.plan.bookings.map (fun y => if y.number == b.number then
                    { y with provEnd := x, cut := cut, provExpiry := some x } else y))
                  let v := settle (abandonSave (if b.provEnd < x then passIfSet moved else moved))
                  match v.booking? b.number with
                  | none => { w with state := v }
                  | some y => if y.state = some .recording ∧ y.provEnd ≤ v.present then
                      ⟨finishBooking (.outcome (endOutcome y).1 (endOutcome y).2 0) (some (endOutcome y).2) y v, true,
                        w.series || v.isSeriesBooking y⟩
                    else { w with state := v }
            let w := ((u.plan.bookings.filter (fun b => b.key == .guideSlot e.slot)).map Booking.number).foldl hand
              ⟨m, false, false⟩
            reply (if w.any = true then settle (afterFinish w.series w.state) else w.state))))
  ∧ ∀ (s : State) (n : Nat) (b : Booking), s.booking? n = some b →
    let cap := min (b.winEnd + s.settings.overrunLimit) 4294967295
    let x := s.present + (match s.request? b.request with
      | some r => r.postPad.getD s.settings.postPad
      | none => s.settings.postPad)
    let v := min x cap
    let m := s.withBookings (s.plan.bookings.map (fun y => if y.number == n then
      { y with
        provEnd := v
        cut := if cap < x then some .limit else none
        provExpiry := some v }
      else y))
    let moved : State := { m with agenda := s.agenda ++ (if v ≤ s.present then [.provisionalEnd n] else []) }
    let keeps := (b.cut = some .yield ∧ b.provEnd ≤ x) ∨ (b.provEnd < b.winEnd ∧ b.provEnd ≤ v)
    capOf s.settings b = cap
    ∧ (keeps → earlyEndAt s b = none ∧ earlyEnd n s = s)
    ∧ (¬ keeps → earlyEndAt s b = some (v, if cap < x then some .limit else none)
      ∧ earlyEnd n s = if b.provEnd < v then passIfSet moved else moved)

/-- GUIDE_PUT (R34 to R38): with no stream OPEN it is refused with STATE. One entry, with a stream OPEN: invalid, outside and
unknown entries leave the store; an entry with a key held updates it in place; a new one takes the lowest free slot while the
store has room, takes in a full store the place of the latest unpinned entry, by start, then channel, then event id, when that
one starts later, and is discarded otherwise, the guide-full flag set. Two or three entries act as one after another, their
counts added. -/
def Obligations.GuidePutStoresAnEntry : Prop :=
  (∀ (d : Dest) (e : GuidePutEntry) (s : State), s.running = true → s.line.state.takes = true →
    let c := Instr.guidePut d (.fields (.one e))
    (s.guide.stream = none → exec c s = .next (s.answering d (.refused 0x21 .state [])))
    ∧ ∀ w, s.guide.stream = some w →
      let answer := fun (t : State) (n : PutCounts) => exec c s = .next (t.answering d (.accepted (.guidePut n)))
      let invalid := e.eventId = 0 ∨ e.duration = 0 ∨ 86400 < e.duration.toNat
        ∨ 4294967295 < e.start.toNat + e.duration.toNat ∨ e.series = some 0 ∨ e.episode = some 0
      let inside := w.first ≤ e.channel.toNat ∧ e.channel.toNat ≤ w.last ∧ w.start ≤ e.start.toNat ∧ e.start.toNat < w.stop
      (invalid → answer s ⟨0, 0, 0, 1, 0⟩)
      ∧ (¬ invalid → ¬ inside → answer s ⟨0, 1, 0, 0, 0⟩)
      ∧ (¬ invalid → inside → s.hasService e.channel.toNat = false → answer s ⟨0, 0, 1, 0, 0⟩)
      ∧ (¬ invalid → inside → s.hasService e.channel.toNat = true →
        (∀ old, s.entry? e.channel.toNat e.eventId.toNat = some old →
          answer { s with guide := { s.guide with
            entries := s.guide.entries.map (fun x => if x.slot == old.slot then
              { x with
                start := e.start.toNat
                duration := e.duration.toNat
                series := e.series.map BitVec.toNat
                episode := e.episode.map BitVec.toNat
                written := true
                withdrawn := false
                refreshedAt := if s.clockSet then some s.present else none }
              else x)
            change := s.guide.change || (old.start != e.start.toNat || old.duration != e.duration.toNat
              || old.series != e.series.map BitVec.toNat || old.episode != e.episode.map BitVec.toNat
              || old.withdrawn) } } ⟨1, 0, 0, 0, 0⟩)
        ∧ (s.entry? e.channel.toNat e.eventId.toNat = none → entriesOk s.guide.entries →
          s.guide.entries.length < 1200 → ∃ k, k < 1200 ∧ k ∉ s.guide.entries.map GuideEntry.slot
            ∧ (∀ j < k, j ∈ s.guide.entries.map GuideEntry.slot)
            ∧ answer { s with guide := { s.guide with
                entries := insertBy slotBefore ⟨k, e.channel.toNat, e.eventId.toNat, e.start.toNat, e.duration.toNat,
                  e.series.map BitVec.toNat, e.episode.map BitVec.toNat, .unknown, false,
                  if s.clockSet then some s.present else none, 0, false, [], true⟩ s.guide.entries
                change := true } } ⟨1, 0, 0, 0, 0⟩)
        ∧ (s.entry? e.channel.toNat e.eventId.toNat = none → 1200 ≤ s.guide.entries.length →
          ((∀ x ∈ s.guide.entries, x.pins = 0 → x.start ≤ e.start.toNat) →
            answer (s.setGuideFull true) ⟨0, 0, 0, 0, 1⟩)
          ∧ ((∃ x ∈ s.guide.entries, x.pins = 0 ∧ e.start.toNat < x.start) →
            ∃ x ∈ s.guide.entries, x.pins = 0 ∧ e.start.toNat < x.start
              ∧ (∀ y ∈ s.guide.entries, y.pins = 0 → y.start < x.start ∨ (y.start = x.start ∧ (y.channel < x.channel
                ∨ (y.channel = x.channel ∧ y.eventId ≤ x.eventId))))
              ∧ answer (insertEntry e (s.withEntries (s.guide.entries.filter (fun y => y.slot != x.slot))))
                ⟨1, 0, 0, 0, 0⟩))))
  ∧ ∀ (d : Dest) (e f g : GuidePutEntry) (s : State), s.running = true → s.line.state.takes = true →
    s.guide.stream.isSome = true →
    ∃ (t u v : State) (a b : PutCounts), t.line = s.line ∧ u.line = s.line ∧ v.line = s.line
      ∧ exec (.guidePut d (.fields (.one e))) s = .next (t.answering d (.accepted (.guidePut a)))
      ∧ exec (.guidePut d (.fields (.one f))) t = .next (u.answering d (.accepted (.guidePut b)))
      ∧ exec (.guidePut d (.fields (.two e f))) s = .next (u.answering d (.accepted (.guidePut (a.add b))))
      ∧ ∃ c : PutCounts, exec (.guidePut d (.fields (.one g))) u = .next (v.answering d (.accepted (.guidePut c)))
        ∧ exec (.guidePut d (.fields (.three e f g))) s = .next (v.answering d (.accepted (.guidePut ((a.add b).add c))))

/-- AGING_SCAN (R47, R48), once its instant is reached: with a stream OPEN it becomes pending; while a save is in progress
it waits; otherwise every unpinned entry that ended over an hour ago, is stale or is withdrawn leaves the store and no other
does, the guide-full flag is cleared when fewer than 1,200 remain (R50), the next scan is set 900 s on, and the derivation
and the pass follow. -/
def Obligations.AgingScanRemovesTheOld : Prop :=
  ∀ (s : State) (x : Nat), s.running = true → s.agenda = [] → s.guide.nextScan = some x → x ≤ s.present →
    (s.guide.stream.isSome = true → exec .agingScan s = .next { s with guide := { s.guide with
      nextScan := none, agingPending := true } })
    ∧ (s.guide.stream = none → s.saving = true → exec .agingScan s = .next { s with guide := { s.guide with
      nextScan := none, scanWaits := true } })
    ∧ (s.guide.stream = none → s.saving = false →
      let old := fun e : GuideEntry => decide (3600 < s.present - (e.start + e.duration)) || e.withdrawn
        || (match e.refreshedAt with
          | some r => decide (s.settings.stalePeriod < s.present - r)
          | none => false)
      let kept := s.guide.entries.filter (fun e => !(e.pins == 0 && old e))
      let w : State := { s with guide := { s.guide with entries := kept, nextScan := some (s.present + 900) } }
      let v := if kept.length < 1200 then w.setGuideFull false else w
      let t := settle (deriveAndPass v)
      exec .agingScan s = .next t ∧ t.standing = s.standing ∧ t.guide.nextScan = some (s.present + 900)
      ∧ ∀ e ∈ t.guide.entries, ∃ e' ∈ s.guide.entries, e'.slot = e.slot
        ∧ (e'.pins ≠ 0 ∨ (s.present - (e'.start + e'.duration) ≤ 3600 ∧ e'.withdrawn = false
          ∧ ∀ r, e'.refreshedAt = some r → s.present - r ≤ s.settings.stalePeriod)))

/-! ### Requests -/

/-- What a REQ_ADD asks for (R54 test 2, R55): each kind with its fields in range is taken with the importance at most 15,
pads at most 3,600 unless "default" (65,535), a TIMED duration at most 43,200, a loss count of 0 and empty records; the clamped
flag tells whether one of them was above its bound. -/
def Obligations.ReqAddTakesItsValues : Prop :=
  ∀ (c : ReqCommon) (ch du ev : Word16) (days : Byte) (st sid : Word32) (n : Nat),
    let pad := fun w : Word16 => if w.toNat = 65535 then none else some (min w.toNat 3600)
    let above := fun w : Word16 => w.toNat ≠ 65535 ∧ 3600 < w.toNat
    let clamps := 15 < c.importance.toNat ∨ above c.prePad ∨ above c.postPad
    let made := fun (k : RequestKind) (q : AskedRequest) =>
      q.request n = ⟨n, .active, min c.importance.toNat 15, pad c.prePad, pad c.postPad, 0, k⟩
    (1 ≤ ch.toNat → ch.toNat ≤ 9999 → 60 ≤ du.toNat → days.toNat < 128 →
      (days = 0 → st.toNat + min du.toNat 43200 ≤ 4294967295) → (days ≠ 0 → st.toNat < 86400) →
      ∃ q, asked (.timed c ch du days st) = some q
        ∧ made (.timed ⟨ch.toNat, min du.toNat 43200, BitVec.ofNat 7 days.toNat, st.toNat, [], none⟩) q
        ∧ (q.clamped = true ↔ clamps ∨ 43200 < du.toNat))
    ∧ (1 ≤ ch.toNat → ch.toNat ≤ 9999 → ev ≠ 0 →
      ∃ q, asked (.event c ch ev) = some q ∧ made (.event ⟨ch.toNat, ev.toNat, c.flags.getLsbD 0⟩) q
        ∧ (q.clamped = true ↔ clamps))
    ∧ (ch.toNat ≤ 9999 → sid ≠ 0 →
      ∃ q, asked (.series c sid ch) = some q
        ∧ made (.series ⟨sid.toNat, ch.toNat, c.flags.getLsbD 1, c.flags.getLsbD 0, []⟩) q
        ∧ (q.clamped = true ↔ clamps))
    ∧ (ch.toNat = 0 ∨ 9999 < ch.toNat → asked (.timed c ch du days st) = none ∧ asked (.event c ch ev) = none)
    ∧ (9999 < ch.toNat → asked (.series c sid ch) = none)
    ∧ (du.toNat < 60 ∨ 128 ≤ days.toNat → asked (.timed c ch du days st) = none)
    ∧ asked (.event c ch 0) = none ∧ asked (.series c 0 ch) = none
    ∧ ∀ kind rest, asked (.other kind rest) = none

/-- REQ_ADD of an asked request (R54, R55), outside a save: the tests in order, and on acceptance the request in the lowest
empty slot, a change of stored content, a derivation and pass, and the reply's number, clamped flag and tier. -/
def Obligations.ReqAddFillsTheLowestSlot : Prop :=
  ∀ (d : Dest) (a : ReqAddArgs) (s : State), s.running = true → s.line.state.takes = true →
    let c := Instr.reqAdd d (.fields a)
    let u := arrive c d s
    (u.saving = true → exec c s = .next (u.answering d (.refused 0x30 .busy [])))
    ∧ (u.saving = false → asked a = none → exec c s = .next (u.answering d (.refused 0x30 .range [])))
    ∧ ∀ q, u.saving = false → asked a = some q →
      (singleEnded s q.kind = true → exec c s = .next (u.answering d (.refused 0x30 .range [])))
      ∧ (singleEnded s q.kind = false → q.kind.channel ≠ 0 → s.hasService q.kind.channel = false →
        exec c s = .next (u.answering d (.refused 0x30 .unknown [])))
      ∧ (singleEnded s q.kind = false → q.kind.channel = 0 ∨ s.hasService q.kind.channel = true →
        ((∃ r ∈ u.requests, duplicates q.kind r.kind = true) →
          exec c s = .next (u.answering d (.refused 0x30 .state [])))
        ∧ ((∀ r ∈ u.requests, duplicates q.kind r.kind = false) →
          ((∀ n, 1 ≤ n → n ≤ 48 → n ∈ u.requests.map Request.number) →
            exec c s = .next (u.answering d (.refused 0x30 .full [])))
          ∧ ∀ n, 1 ≤ n → n ≤ 48 → n ∉ u.requests.map Request.number →
            (∀ m, 1 ≤ m → m < n → m ∈ u.requests.map Request.number) →
            ∃ p : State, p.requests = insertBy requestBefore (q.request n) u.requests
              ∧ p.image.state ≠ .current ∧ p.standing = u.standing ∧ p.plan = u.plan ∧ p.guide = u.guide
              ∧ exec c s = .next ((settle (deriveAndPass p)).answering d
                  (.accepted (.reqAdd n q.clamped (tierOf s.settings (q.request n)))))))

/-- REQ_EDIT (R59, R60): BUSY during a save, then RANGE and UNKNOWN; of a request in the table: the STATE tests, then RANGE for
a single TIMED request whose new times have ended, which is not asked while the times stay; then no effect when nothing differs,
the fields alone when the request is PAUSED, and a derivation and pass besides when it is ACTIVE. `q` is the request with the
carried values, clamped as R55 has them; its channel, event id or series id, state, loss count, history, skip list and settled
day stay. The reply's clamped flag tells whether a carried value was above its bound. -/
def Obligations.ReqEditReplacesTheFields : Prop :=
  (∀ (d : Dest) (a : ReqEditArgs) (s : State), s.running = true → s.line.state.takes = true →
    let c := Instr.reqEdit d (.fields a)
    let u := arrive c d s
    let ok := 1 ≤ a.number.toNat ∧ a.number.toNat ≤ 48 ∧ editRangeOk a.body = true
    (u.saving = true → exec c s = .next (u.answering d (.refused 0x31 .busy [])))
    ∧ (u.saving = false → ¬ ok → exec c s = .next (u.answering d (.refused 0x31 .range [])))
    ∧ (u.saving = false → ok → u.request? a.number.toNat = none →
      exec c s = .next (u.answering d (.refused 0x31 .unknown []))))
  ∧ (∀ b : ReqEditBody, editRangeOk b = true ↔ match b with
    | .timed _ du days st => 60 ≤ du.toNat ∧ days.toNat < 128 ∧ (days = 0 → st.toNat + min du.toNat 43200 ≤ 4294967295)
        ∧ (days ≠ 0 → st.toNat < 86400)
    | .event _ => True
    | .series _ => True
    | .other _ _ => False)
  ∧ ∀ (d : Dest) (a : ReqEditArgs) (s : State) (r : Request), s.running = true → s.line.state.takes = true →
    let c := Instr.reqEdit d (.fields a)
    let u := arrive c d s
    u.saving = false → 1 ≤ a.number.toNat → a.number.toNat ≤ 48 → editRangeOk a.body = true →
    u.request? a.number.toNat = some r →
    let common := match a.body with
      | .timed x _ _ _ => x
      | .event x => x
      | .series x => x
      | .other _ _ => ⟨0, 0, 0, 0⟩
    let pad := fun w : Word16 => if w.toNat = 65535 then none else some (min w.toNat 3600)
    let above := fun w : Word16 => decide (w.toNat ≠ 65535) && decide (3600 < w.toNat)
    let q : Request := { r with
      importance := min common.importance.toNat 15
      prePad := pad common.prePad
      postPad := pad common.postPad
      kind := match a.body, r.kind with
        | .timed _ du days st, .timed f => .timed { f with
            duration := min du.toNat 43200, days := BitVec.ofNat 7 days.toNat, start := st.toNat }
        | .event x, .event f => .event { f with accurate := x.flags.getLsbD 0 }
        | .series x, .series f => .series { f with newOnly := x.flags.getLsbD 1, accurate := x.flags.getLsbD 0 }
        | _, k => k }
    let clamped := decide (15 < common.importance.toNat) || above common.prePad || above common.postPad || (match a.body with
      | .timed _ du _ _ => decide (43200 < du.toNat)
      | _ => false)
    let timesStay := match a.body, r.kind with
      | .timed _ du _ st, .timed f => st.toNat = f.start ∧ min du.toNat 43200 = f.duration
      | _, _ => True
    let fits := r.state ≠ .dropping ∧ (match a.body, r.kind with
      | .timed _ _ days _, .timed f => (days = 0 ↔ f.days = 0)
          ∧ (f.days = 0 → (∃ x ∈ u.plan.bookings, x.request = r.number ∧ x.isRunning = true) → timesStay)
      | .event _, .event _ => True
      | .series _, .series _ => True
      | _, _ => False)
    let ended := (∃ f, q.kind = .timed f ∧ f.days = 0 ∧ s.clockSet = true ∧ f.start + f.duration ≤ s.present) ∧ ¬ timesStay
    let tier := tierOf s.settings q
    (¬ fits → exec c s = .next (u.answering d (.refused 0x31 .state [])))
    ∧ (fits → ended → exec c s = .next (u.answering d (.refused 0x31 .range [])))
    ∧ (fits → ¬ ended →
      (q = r → exec c s = .next (u.answering d (.accepted (.reqEdit false clamped tier))))
      ∧ (q ≠ r → ∃ p : State, p.requests = u.requests.map (fun x => if x.number == r.number then q else x)
        ∧ p.standing = u.standing ∧ p.plan = u.plan ∧ p.guide = u.guide
        ∧ (r.state = .paused → exec c s = .next (p.answering d (.accepted (.reqEdit true clamped tier))))
        ∧ (r.state = .active → exec c s = .next ((settle (deriveAndPass p)).answering d
            (.accepted (.reqEdit true clamped tier))))))

/-- REQ_PAUSE, REQ_RESUME and REQ_DROP (R61 to R63): BUSY during a save, RANGE for a number 0 or above 48, UNKNOWN for an
empty slot; of a request in the table: what they refuse, what they leave alone, the silent removal of its PLANNED, CLASHED and
LATE bookings, and the request's new state or its removal. -/
def Obligations.RequestsPauseResumeAndDrop : Prop :=
  (∀ (d : Dest) (n : Byte) (s : State), s.running = true → s.line.state.takes = true →
    ∀ p ∈ [(Instr.reqDrop d (.fields n), (0x32 : Byte)), (.reqPause d (.fields n), 0x33), (.reqResume d (.fields n), 0x34)],
      let u := arrive p.1 d s
      (u.saving = true → exec p.1 s = .next (u.answering d (.refused p.2 .busy [])))
      ∧ (u.saving = false → n.toNat = 0 ∨ 48 < n.toNat → exec p.1 s = .next (u.answering d (.refused p.2 .range [])))
      ∧ (u.saving = false → 1 ≤ n.toNat → n.toNat ≤ 48 → u.request? n.toNat = none →
        exec p.1 s = .next (u.answering d (.refused p.2 .unknown []))))
  ∧ ∀ (d : Dest) (n : Byte) (s : State) (r : Request), s.running = true → s.line.state.takes = true →
    1 ≤ n.toNat → n.toNat ≤ 48 →
    let wait := fun b : Booking => b.request == r.number && b.isWaiting
    let answer := fun (c : Instr) (t : State) (b : ReplyBody) => exec c s = .next (t.answering d (.accepted b))
    (let c := Instr.reqPause d (.fields n)
     let u := arrive c d s
     u.saving = false → u.request? n.toNat = some r →
      (r.state = .dropping → exec c s = .next (u.answering d (.refused 0x33 .state [])))
      ∧ (r.state = .paused → answer c u (.reqPause none))
      ∧ (r.state = .active → ∃ p : State,
        p.requests = u.requests.map (fun x => if x.number == r.number then { x with state := .paused } else x)
        ∧ p.plan.bookings = u.plan.bookings.filter (fun b => !wait b) ∧ p.standing = u.standing
        ∧ p.outbox.directives = u.outbox.directives
        ∧ answer c (if (u.plan.bookings.filter wait).length = 0 then p else settle (passIfSet p))
            (.reqPause (some (u.plan.bookings.filter wait).length))))
    ∧ (let c := Instr.reqResume d (.fields n)
       let u := arrive c d s
       u.saving = false → u.request? n.toNat = some r →
        (r.state = .dropping → exec c s = .next (u.answering d (.refused 0x34 .state [])))
        ∧ (r.state = .active → answer c u (.reqResume false))
        ∧ (r.state = .paused → ∃ p : State,
          p.requests = u.requests.map (fun x => if x.number == r.number then { x with state := .active } else x)
          ∧ p.plan = u.plan ∧ p.standing = u.standing
          ∧ answer c (settle (deriveAndPass p)) (.reqResume true)))
    ∧ (let c := Instr.reqDrop d (.fields n)
       let u := arrive c d s
       let left := u.plan.bookings.filter (fun b => b.request == r.number && !b.isWaiting)
       u.saving = false → u.request? n.toNat = some r →
        (r.state = .dropping → answer c u (.reqDrop .alreadyDropping))
        ∧ (r.state ≠ .dropping → ∃ p : State,
          p.plan.bookings = u.plan.bookings.filter (fun b => !wait b) ∧ p.standing = u.standing
          ∧ (left = [] → p.requests = u.requests.filter (fun x => x.number != r.number)
              ∧ ∀ e ∈ p.guide.entries, r.number ∉ e.settled)
          ∧ (left ≠ [] → p.requests
              = u.requests.map (fun x => if x.number == r.number then { x with state := .dropping } else x))
          ∧ answer c (if (u.plan.bookings.filter wait).length = 0 then p else settle (passIfSet p))
              (.reqDrop (if left = [] then .removed else .dropping left.length))))

/-- REQ_READ (R64): a number above 48 or a part above 1 is refused with RANGE; the reply concerns the occupied slot with the
lowest number from the starting one on, with its tier and live bookings, and names the next occupied slot or 0. -/
def Obligations.ReqReadReports : Prop :=
  ∀ (d : Dest) (a : ReqReadArgs) (s : State), s.running = true → s.line.state.takes = true →
    let c := Instr.reqRead d (.fields a)
    let u := arrive c d s
    (48 < a.start.toNat ∨ 1 < a.part.toNat → exec c s = .next (u.answering d (.refused 0x35 .range [])))
    ∧ (a.start.toNat ≤ 48 → a.part.toNat ≤ 1 →
      ((∀ r ∈ u.requests, r.number < a.start.toNat) → exec c s = .next (u.answering d (.accepted .reqReadNone)))
      ∧ ∀ r ∈ u.requests, requestsOk u.requests → a.start.toNat ≤ r.number →
        (∀ q ∈ u.requests, a.start.toNat ≤ q.number → r.number ≤ q.number) →
        ∃ next, (next = 0 ∧ (∀ q ∈ u.requests, q.number ≤ r.number)
            ∨ next ∈ u.requests.map Request.number ∧ r.number < next
              ∧ ∀ q ∈ u.requests, r.number < q.number → next ≤ q.number)
          ∧ (a.part = 0 → exec c s = .next (u.answering d (.accepted (.reqReadMain next r (tierOf s.settings r)
              (u.plan.bookings.filter (fun b => b.request == r.number)).length))))
          ∧ (a.part = 1 → exec c s = .next (u.answering d (.accepted (.reqReadHistory next r)))))

/-! ### Bookings -/

/-- The wanted set, kind by kind, over occurrences within reach (R76 to R82), and the derivation that brings the Booking List in
line with it (R76, R83 to R86): the skip lists are pruned; a held booking stays as it is; an open one goes when its occurrence
is not wanted, and takes its occurrence's and its request's values when it is; each wanted occurrence that no live booking
served gets a new booking, in the order of R86, while the list holds fewer than 240; the list-short flag tells whether one was
left. The window of a booking that is not held (R91), its tier (R56) and its pads (R58) are written out. Each creation takes the
first number from the counter on that no live booking holds, with 65,535 followed by 1, and the counter is then one past it
(R72). -/
def Obligations.DerivationBringsTheListInLine : Prop :=
  (∀ (s : State) (r : Request) (o : Occurrence), KeysOk s →
    let horizon := min (s.present + s.settings.horizonDays * 86400) 4294967295
    let reach := s.present < o.start + o.duration ∧ o.start < horizon
    let current := fun e : GuideEntry => e.withdrawn = false ∧ r.number ∉ e.settled
    let carries := fun e : GuideEntry => o = ⟨r.number, .guideSlot e.slot, e.start, e.duration, e.channel, e.episode⟩
    (r.state ≠ .active → o ∉ wantedOf s r)
    ∧ (r.state = .active →
      (∀ f, r.kind = .timed f → f.days = 0 → (o ∈ wantedOf s r ↔ reach
        ∧ o = ⟨r.number, .localDay (localDay s.settings f.start), f.start, f.duration, f.channel, none⟩))
      ∧ (∀ f, r.kind = .timed f → f.days ≠ 0 → (o ∈ wantedOf s r ↔ reach
        ∧ ∃ day : Int, localDay s.settings s.present - 1 ≤ day ∧ day ≤ localDay s.settings horizon
          ∧ f.days.getLsbD (weekday day) = true ∧ day ∉ f.skip ∧ (∀ sd, f.settledDay = some sd → sd < day)
          ∧ o = ⟨r.number, .localDay day, clampTime (day * 86400 - s.settings.localOffset * 900 + f.start), f.duration,
              f.channel, none⟩))
      ∧ (∀ f, r.kind = .event f → (o ∈ wantedOf s r ↔ reach ∧ ∃ e ∈ s.guide.entries, e.channel = f.channel
          ∧ e.eventId = f.eventId ∧ s.hasService e.channel = true ∧ current e ∧ carries e))
      ∧ ∀ f, r.kind = .series f →
        let qualifies := fun e : GuideEntry => e ∈ s.guide.entries ∧ e.series = some f.seriesId
          ∧ (if f.channel = 0 then s.hasService e.channel = true else e.channel = f.channel) ∧ current e
          ∧ s.present < e.start + e.duration ∧ e.start < horizon
        let named := fun e : GuideEntry => ∃ b ∈ s.plan.bookings, b.request = r.number ∧ b.isOpen = true
          ∧ b.key = .guideSlot e.slot
        let earlier := fun x e : GuideEntry => x.start < e.start ∨ (x.start = e.start ∧ (x.channel < e.channel
          ∨ (x.channel = e.channel ∧ x.eventId < e.eventId)))
        (o ∈ wantedOf s r ↔ ∃ e, qualifies e ∧ carries e ∧ ∀ id, e.episode = some id →
          ¬ (f.newOnly = true ∧ id ∈ f.history)
          ∧ (∀ b ∈ s.plan.bookings, b.request = r.number → b.isHeld = true → b.episode ≠ some id)
          ∧ (named e ∨ ∀ x, qualifies x → x.episode = some id → ¬ named x)
          ∧ ∀ x, qualifies x → x.episode = some id → (named e → named x) → ¬ earlier x e)))
  ∧ (∀ s : State, InBounds s → NumbersOk s →
    let p := pruneSkips s
    let t := derive s
    let wanted := (p.requests.map (wantedOf p)).flatten
    let serves := fun (b : Booking) (o : Occurrence) => b.request = o.request ∧ (b.key = o.key
      ∨ (b.key.slot? = none ∧ ∃ r ∈ s.requests, r.number = o.request ∧ r.isSingle = true))
    let formed := fun (r : Request) (o : Occurrence) (b : Booking) =>
      let start := o.start - r.prePad.getD s.settings.prePad
      let stop := min (start + 43200) (min (o.start + o.duration + r.postPad.getD s.settings.postPad) 4294967295)
      { b with
        key := o.key
        progStart := o.start
        progDuration := o.duration
        episode := o.episode
        tier := min (s.settings.tierMap.getD r.importance 0) (s.settings.kindCeiling.getD r.kind.index 0)
        accurate := r.accurate
        winStart := start
        winEnd := stop
        provEnd := stop }
    let made := fun (r : Request) (o : Occurrence) (n : Nat) => formed r o
      ⟨n, o.request, o.key, o.channel, 0, 0, 0, 0, 0, 0, none, none, false, false, false, [], none, none, none, none, none,
        none, none, none, none⟩
    p.requests = s.requests.map (fun r => match r.kind with
      | .timed f => { r with kind := .timed { f with skip := f.skip.filter (fun day =>
          match f.settledDay with
          | some sd => decide (sd < day)
          | none => true) } }
      | _ => r)
    ∧ p.plan = s.plan ∧ p.guide = s.guide ∧ p.standing = s.standing
    ∧ t.requests = p.requests ∧ t.standing = s.standing
    ∧ (∀ b ∈ s.plan.bookings, b.isHeld = true → b ∈ t.plan.bookings)
    ∧ (∀ b ∈ s.plan.bookings, ∀ o ∈ wanted, b.isOpen = true → serves b o →
      ∃ r ∈ p.requests, r.number = o.request ∧ formed r o b ∈ t.plan.bookings)
    ∧ (∀ c ∈ t.plan.bookings, (c ∈ s.plan.bookings ∧ c.isHeld = true)
      ∨ (∃ b ∈ s.plan.bookings, ∃ o ∈ wanted, ∃ r ∈ p.requests, b.isOpen = true ∧ serves b o ∧ r.number = o.request
        ∧ c = formed r o b)
      ∨ (∃ o ∈ wanted, ∃ r ∈ p.requests, (∀ b ∈ s.plan.bookings, ¬ serves b o) ∧ r.number = o.request
        ∧ c = made r o c.number))
    ∧ (∀ o ∈ wanted, (∃ c ∈ t.plan.bookings, serves c o) ∨ 240 ≤ t.plan.bookings.length)
    ∧ (t.plan.listShort = true ↔ ∃ o ∈ wanted, ∀ c ∈ t.plan.bookings, ¬ serves c o)
    ∧ (∀ o ∈ wanted, ∀ o' ∈ wanted, (∀ c ∈ t.plan.bookings, ¬ serves c o) → (∀ b ∈ s.plan.bookings, ¬ serves b o') →
      (∃ c ∈ t.plan.bookings, serves c o') → ¬ (o.start < o'.start ∨ (o.start = o'.start ∧ (o.request < o'.request
        ∨ (o.request = o'.request ∧ o.key.before o'.key = true)))))
    -- the creations and their numbers
    ∧ (let e := updateOpen wanted (removeUnwanted wanted p)
      e.plan.counter = s.plan.counter
      ∧ t.plan.bookings = ((unserved wanted e).foldl createOne e).plan.bookings
      ∧ t.plan.counter = ((unserved wanted e).foldl createOne e).plan.counter))
  ∧ ∀ (s : State) (o : Occurrence) (r : Request), NumbersOk s → s.request? o.request = some r →
    let taken := fun n : Nat => n ∈ s.plan.bookings.map Booking.number
    let counted := fun i : Nat => if s.plan.counter + i ≤ 65535 then s.plan.counter + i else s.plan.counter + i - 65535
    (240 ≤ s.plan.bookings.length → createOne s o = s)
    ∧ (s.plan.bookings.length < 240 → ∃ i ≤ 240, ¬ taken (counted i) ∧ (∀ j < i, taken (counted j))
      ∧ (createOne s o).plan.bookings = insertBy listBefore (newBooking s.settings r o (counted i)) s.plan.bookings
      ∧ (createOne s o).plan.counter = counted (i + 1))

/-- A whole plan pass (R88 to R106). It runs only with the clock set. Rank (R95): tier, then holds last, loss count, window
start, number; fit (R96) and the choice of a place (R97, R98). In the state `t` it leaves: a held booking keeps its place,
its state and its window, and its provisional end but for a YIELD cut, made only where something stands in the way (R92,
R99); every open one has its window, its tier and a state: PLANNED on a tuner that carries it, or CLASHED with no place and
at most three partners that take up its time; nothing PLANNED meets anything else on its tuner; a CLASHED one fits nowhere
among what is held or ranks no lower, and no free airing of its episode fits (R101, R104, R105); a viewer hold yields to the
first conflict and only to one (R23, R100); the newly CLASHED are announced (R102), and the counts, the expiries and the
wake expiry follow (R103, R106, R109, R117, R141, R142). The model's readings: a running booking's tier stays at every pass
(log entry 26), partners are those of the moment of the clash (log entry 25), and of what the pass makes due at once the
warnings of A and B come first, then the wake expiry, what waited, and the bookings' own (log entry 7). -/
def Obligations.PassPlacesOrClashes : Prop :=
  (∀ s : State, (s.clockSet = false → passIfSet s = s ∧ deriveAndPass s = s)
    ∧ (s.clockSet = true → passIfSet s = planPass s ∧ deriveAndPass s = planPass (derive s)))
  ∧ (∀ x y : Ranked, x.before y = true ↔ (y.tier < x.tier ∨ (x.tier = y.tier ∧ ((x.isHold = false ∧ y.isHold = true)
      ∨ (x.isHold = y.isHold ∧ (y.loss < x.loss ∨ (x.loss = y.loss ∧ (x.winStart < y.winStart
      ∨ (x.winStart = y.winStart ∧ x.number < y.number)))))))))
  ∧ (∀ s : State, (rankedCandidates s).Pairwise (fun x y => y.before x = false))
  ∧ (∀ (s : State) (xs : List Extent) (n : Need) (x : TunerId),
      let meets := fun e : Extent => e.tuner = x ∧ e.start < n.stop ∧ n.start < n.stop ∧ ∀ z, e.stop = some z → n.start < z
      let free := fun k : Nat => ∀ e ∈ xs, meets e → e.slot ≠ k
      (∀ k, fitSlot s xs n x = some k ↔ n.start < n.stop ∧ (s.tuner x).enabled = true
        ∧ (s.tuner x).mask.getLsbD n.network = true ∧ (∀ e ∈ xs, meets e → e.multiplex = n.multiplex)
        ∧ k ≤ 2 ∧ free k ∧ ∀ j < k, ¬ free j)
      ∧ (carries xs n x = true ↔ ∃ e ∈ xs, meets e ∧ e.multiplex = n.multiplex))
  ∧ (∀ (s : State) (xs claims : List Extent) (n : Need),
      let one := choosePlace s xs n
      (∀ k, fitSlot s xs n .a = some k → (carries xs n .a = true ∨ carries xs n .b = false ∨ fitSlot s xs n .b = none) →
        one = some ⟨.a, k⟩)
      ∧ (∀ k, fitSlot s xs n .b = some k → fitSlot s xs n .a = none ∨ (carries xs n .b = true ∧ carries xs n .a = false) →
        one = some ⟨.b, k⟩)
      ∧ (fitSlot s xs n .a = none → fitSlot s xs n .b = none → one = none)
      ∧ (∀ p, choosePlace s (xs ++ claims) n = some p → tryPlace s xs claims n = some p)
      ∧ (choosePlace s (xs ++ claims) n = none → tryPlace s xs claims n = one))
  ∧ ∀ s : State, NumbersOk s →
    let t := planPass s
    let mux := fun b : Booking => t.multiplexOf b.channel
    let against := fun (b c : Booking) => mux b ≠ mux c ∨ b.place = c.place
    let start := fun (r : Request) (b : Booking) => b.progStart - r.prePad.getD t.settings.prePad
    t.standing = s.standing ∧ t.requests = s.requests
    -- held bookings
    ∧ (∀ b ∈ s.plan.bookings, b.isHeld = true → ∃ c ∈ t.plan.bookings,
      c = { b with provEnd := c.provEnd, cut := c.cut, tier := c.tier, spaceShort := c.spaceShort, provExpiry := c.provExpiry }
      ∧ (b.state = some .late → ∀ r, s.request? b.request = some r → c.tier = tierOf s.settings r)
      ∧ (b.state ≠ some .late → c.tier = b.tier ∧ c.spaceShort = b.spaceShort)
      ∧ (b.state = some .recording → c.provExpiry = some c.provEnd)
      ∧ ((c.provEnd = b.provEnd ∧ c.cut = b.cut)
        ∨ (b.state = some .recording ∧ max b.winEnd s.present ≤ c.provEnd ∧ c.provEnd < b.provEnd ∧ c.cut = some .yield
          ∧ ∃ p, b.place = some p ∧ ((∃ e ∈ t.plan.bookings, e.number ≠ b.number ∧ against c e
              ∧ ∃ q, q.tuner = p.tuner ∧ occupies t e q c.provEnd (c.provEnd + 1))
            ∨ ∃ h, (t.tuner p.tuner).hold = some h ∧ (h.multiplex ≠ mux b ∨ h.slot = p.slot)
              ∧ holdOccupies t h c.provEnd (c.provEnd + 1)))))
    -- open bookings
    ∧ (∀ b ∈ s.plan.bookings, b.isOpen = true →
      (∃ c ∈ t.plan.bookings, c.number = b.number ∧ c.request = b.request ∧ c.key = b.key ∧ c.channel = b.channel
        ∧ c.episode = b.episode ∧ c.progStart = b.progStart ∧ c.progDuration = b.progDuration
        ∧ c.alternate = b.alternate ∧ c.accurate = b.accurate)
      ∨ (b.episode ≠ none ∧ ∃ c ∈ t.plan.bookings, c.alternate = true ∧ c.state = some .planned
        ∧ c.request = b.request ∧ c.episode = b.episode))
    ∧ (∀ c ∈ t.plan.bookings, c.isOpen = true → (c.state = some .planned ∨ c.state = some .clashed)
      ∧ (∀ r, s.request? c.request = some r → c.tier = tierOf s.settings r ∧ c.winStart = start r c
        ∧ c.winEnd = min (c.winStart + 43200)
            (min (c.progStart + c.progDuration + r.postPad.getD s.settings.postPad) 4294967295)
        ∧ c.provEnd = c.winEnd)
      ∧ (c.state = some .planned → c.windowExpiry = some c.winStart ∧ c.lateExpiry = none)
      ∧ (c.state = some .clashed → c.windowExpiry = none ∧ c.lateExpiry = some (lateLimitOf s.settings c))
      ∧ (c.state = some .planned → s.present < c.winEnd → c.partners = [] ∧ ∃ p, c.place = some p ∧ p.slot ≤ 2
        ∧ s.hasService c.channel = true ∧ (s.tuner p.tuner).enabled = true
        ∧ (s.tuner p.tuner).mask.getLsbD (s.networkOf c.channel) = true)
      ∧ (c.state = some .clashed → s.present < c.winEnd → c.place = none ∧ c.partners.length ≤ 3 ∧ c.partners.Nodup
        ∧ ∀ n ∈ c.partners, ∃ b ∈ t.plan.bookings, b.number = n ∧ ∃ p, (s.tuner p.tuner).enabled = true
          ∧ (s.tuner p.tuner).mask.getLsbD (s.networkOf c.channel) = true
          ∧ occupies t b p (max c.winStart s.present) c.winEnd))
    ∧ (∀ b ∈ s.plan.bookings, ∀ c ∈ t.plan.bookings, b.state = none → c.number = b.number → c.winEnd ≤ s.present →
      c.state = some .clashed ∧ c.place = none ∧ c.partners = [])
    -- no conflict, and no clash without one
    ∧ (∀ c ∈ t.plan.bookings, ∀ e ∈ t.plan.bookings, ∀ p q : Place, c.state = some .planned → s.present < c.winEnd →
      c.number ≠ e.number → c.place = some p → p.tuner = q.tuner →
      occupies t e q (max c.winStart s.present) c.winEnd → ¬ against c e)
    ∧ (∀ c ∈ t.plan.bookings, c.state = some .clashed → max c.winStart s.present < c.winEnd →
      s.hasService c.channel = true →
      let a := max c.winStart s.present
      let stands := fun (e : Booking) (q : Place) => (e.isHeld = true ∨ c.tier ≤ e.tier) ∧ occupies t e q a c.winEnd
      let holds := fun (x : TunerId) (h : ViewerHold) => (t.tuner x).hold = some h ∧ c.tier < s.settings.viewerTier
        ∧ holdOccupies t h a c.winEnd
      ∀ x, (s.tuner x).enabled = true → (s.tuner x).mask.getLsbD (s.networkOf c.channel) = true →
        (∃ e ∈ t.plan.bookings, ∃ q, q.tuner = x ∧ stands e q ∧ mux e ≠ mux c)
        ∨ (∃ h, holds x h ∧ h.multiplex ≠ mux c)
        ∨ ∀ k ≤ 2, (∃ e ∈ t.plan.bookings, stands e ⟨x, k⟩) ∨ ∃ h, holds x h ∧ h.slot = k)
    ∧ (PinsOk s → ∀ c ∈ t.plan.bookings, c.state = some .clashed → (s.present < c.winEnd ∨ ∃ b ∈ s.plan.bookings,
        b.state = none ∧ b.number = c.number) →
      ∀ r f id, s.request? c.request = some r → r.kind = .series f → c.episode = some id →
      ∀ g ∈ t.guide.entries, g ∈ s.guide.entries → g.pins = 0 → g.series = some f.seriesId → g.episode = some id →
        s.hasService g.channel = true → (f.channel = 0 ∨ g.channel = f.channel) → g.withdrawn = false →
        r.number ∉ g.settled → s.present < g.start →
        g.start < min (s.present + s.settings.horizonDays * 86400) 4294967295 →
        let w := windowOf g.start g.duration (prePadOf s.settings r) (postPadOf s.settings r)
        choosePlace t t.plan.occupancy
          ⟨s.networkOf g.channel, s.multiplexOf g.channel, max w.1 s.present, w.2⟩ = none)
    -- viewer holds
    ∧ (∀ x h, (s.tuner x).hold = some h → ∃ k, (t.tuner x).hold = some k
      ∧ k = { h with yieldTime := k.yieldTime, yieldBooking := k.yieldBooking, warned := k.warned, warnExpiry := k.warnExpiry }
      ∧ (k.yieldTime = h.yieldTime → k.warned = h.warned ∧ k.warnExpiry = h.warnExpiry)
      ∧ (k.yieldTime ≠ h.yieldTime → k.warned = false ∧ k.warnExpiry
        = if s.settings.warnLead = 0 then none else k.yieldTime.map (fun y => y - s.settings.warnLead))
      ∧ (k.yieldBooking.isSome = k.yieldTime.isSome)
      ∧ (∀ y n, k.yieldTime = some y → k.yieldBooking = some n → ∃ b ∈ t.plan.bookings, b.number = n
        ∧ (∃ p, b.place = some p ∧ p.tuner = x ∧ (mux b ≠ h.multiplex ∨ p.slot = h.slot)
          ∧ occupies t b p y (y + 1)) ∧ occupiedFrom t b = y)
      ∧ ∀ b ∈ t.plan.bookings, ∀ p a z, p.tuner = x → (mux b ≠ h.multiplex ∨ p.slot = h.slot) → occupies t b p a z →
        ∃ y, k.yieldTime = some y ∧ y ≤ occupiedFrom t b)
    -- what is handed on
    ∧ (∀ c ∈ t.plan.bookings, c.state = some .clashed → (∀ b ∈ s.plan.bookings, b.number = c.number →
        b.state ≠ some .clashed) → s.alerts.masks.edge.clashNew = false →
        s.outbox.notices.length + s.plan.bookings.length + 2 ≤ 24 → .clashNew c.number c.partners ∈ t.outbox.notices)
    ∧ (∀ n ps, .clashNew n ps ∈ t.outbox.notices → .clashNew n ps ∉ s.outbox.notices →
        (∃ c ∈ t.plan.bookings, c.number = n ∧ c.partners = ps ∧ c.state = some .clashed)
        ∧ ∀ b ∈ s.plan.bookings, b.number = n → b.state ≠ some .clashed)
    ∧ t.alerts.clashCount = (t.inState .clashed).length ∧ t.alerts.spaceCount = flaggedCount t
    ∧ (t.host.state = .sleeping ∨ t.host.state = .wakeFailed →
      (t.host.wakeExpiry, t.host.expiryCause) = computeWake t)
    -- what the pass makes due at once, in the order in which it is taken
    ∧ (∃ warned dues : List Due,
      t.agenda = warned ++ (match t.host.wakeExpiry with
          | some x => if (t.host.state = .sleeping ∨ t.host.state = .wakeFailed) ∧ x ≤ s.present then [.wake] else []
          | none => []) ++ s.agenda ++ dues
      ∧ (warned = [] ∨ warned = [.warning .a] ∨ warned = [.warning .b] ∨ warned = [.warning .a, .warning .b])
      ∧ ∀ d ∈ dues, ∃ n, d = .windowStart n ∨ d = .lateLimit n ∨ d = .provisionalEnd n)
    ∧ ∀ c ∈ t.plan.bookings,
      (c.state = some .planned → c.winStart ≤ s.present → (∀ b ∈ s.plan.bookings, b.number = c.number →
        b.windowExpiry ≠ some c.winStart) → .windowStart c.number ∈ t.agenda)
      ∧ (c.state = some .clashed → lateLimitOf s.settings c ≤ s.present → (∀ b ∈ s.plan.bookings, b.number = c.number →
        b.lateExpiry ≠ some (lateLimitOf s.settings c)) → .lateLimit c.number ∈ t.agenda)
      ∧ (c.state = some .recording → c.provEnd ≤ s.present → (∀ b ∈ s.plan.bookings, b.number = c.number →
        b.provExpiry ≠ some c.provEnd) → .provisionalEnd c.number ∈ t.agenda)

/-- BOOK_READ (R87): the live bookings from a number on, in ascending order of booking number, two at a time, with the number of
the first beyond them or 0; no state changes. -/
def Obligations.BookReadWalksByNumber : Prop :=
  ∀ (d : Dest) (w : Word16) (s : State), s.running = true → s.line.state.takes = true →
    let c := Instr.bookRead d (.fields w)
    let u := arrive c d s
    ∃ l : List Booking, l.Perm (u.plan.bookings.filter (fun b => w.toNat ≤ b.number))
      ∧ l.Pairwise (fun b b' => b.number ≤ b'.number)
      ∧ exec c s = .next (u.answering d
          (.accepted (.bookRead (l.take 2) (((l.drop 2).head?.map Booking.number).getD 0))))

/-- BOOK_CANCEL and BOOK_STOP (R124, R125): number 0 is refused with RANGE, one that no live booking has with UNKNOWN, a booking
in another state with STATE; a PLANNED, CLASHED, LATE or DUE booking finishes as a cancel, a RECORDING one TRUNCATED by
HOST_STOP with no END. -/
def Obligations.CancelAndStopFinishABooking : Prop :=
  ∀ (d : Dest) (w : Word16) (s : State), s.running = true → s.line.state.takes = true →
    (let c := Instr.bookCancel d (.fields w)
     let u := arrive c d s
     (w = 0 → exec c s = .next (u.answering d (.refused 0x41 .range [])))
     ∧ (w ≠ 0 → u.booking? w.toNat = none → exec c s = .next (u.answering d (.refused 0x41 .unknown [])))
     ∧ ∀ b, w ≠ 0 → u.booking? w.toNat = some b →
       (b.state = some .starting ∨ b.state = some .recording →
         exec c s = .next (u.answering d (.refused 0x41 .state [])))
       ∧ (b.state ≠ some .starting → b.state ≠ some .recording →
         exec c s = .next ((settle (finishOne .cancel none b u)).answering d (.accepted .bookCancel))))
    ∧ (let c := Instr.bookStop d (.fields w)
       let u := arrive c d s
       (w = 0 → exec c s = .next (u.answering d (.refused 0x42 .range [])))
       ∧ (w ≠ 0 → u.booking? w.toNat = none → exec c s = .next (u.answering d (.refused 0x42 .unknown [])))
       ∧ ∀ b, w ≠ 0 → u.booking? w.toNat = some b →
         (b.state ≠ some .recording → exec c s = .next (u.answering d (.refused 0x42 .state [])))
         ∧ (b.state = some .recording → exec c s = .next
             ((settle (finishOne (.outcome .truncated .hostStop 0) none b u)).answering d (.accepted .bookStop))))

/-- A finish (R132). Step 1: the END due joins the queue. Steps 2 and 3: a DUE booking's BEGIN leaves the queue, and the booking
leaves the list. Step 4: the entry it names is pinned once less and, unless the outcome is WITHDRAWN or REPLACED, settled for a
request that remains (R30, R31). Step 5: the request as the finish report leaves it; a DROPPING one goes with its last live
booking, an EVENT one unless WITHDRAWN, a single TIMED one always, out of every settled set (R65, R69). Step 6: a RECORDING
booking's count falls, and REC_LAST moves the panel lines as the last one goes (R111, R148). Step 7: BOOKING_END is announced
unless the finish is a cancel; a REPLACED booking's, made by a pass, carries the number of the alternate that then stands in
the list, and leaves every request as it was (R105). Step 8: with the clock set, a derivation when the request is a SERIES
one, and a whole pass. -/
def Obligations.FinishDoesItsSteps : Prop :=
  (∀ (e : Ending) (endReason : Option Reason) (b : Booking) (s : State),
    let t := finishBooking e endReason b s
    let ends := match endReason, b.place with
      | some r, some p => [Directive.endRec b.number p r]
      | _, _ => []
    let settles := ∀ r code, e ≠ .outcome .withdrawn r code ∧ e ≠ .outcome .replaced r code
    let live := s.plan.bookings.filter (fun c => c.number != b.number && c.request == b.request)
    t.standing = s.standing
    ∧ t.plan.bookings = s.plan.bookings.filter (fun c => c.number != b.number)
    ∧ t.outbox.directives = (if b.state = some .due
        then (s.outbox.directives ++ ends).filter (fun x => !x.isBeginFor b.number)
        else s.outbox.directives ++ ends)
    ∧ t.run.recordings = (if b.state = some .recording then s.run.recordings - 1 else s.run.recordings)
    ∧ t.panel.lines = (if b.state = some .recording ∧ s.run.recordings = 1 ∧ s.panel.staged.recLast.enable = true
        then s.panel.staged.recLast.pattern else s.panel.lines)
    ∧ t.guide.entries.map GuideEntry.slot = s.guide.entries.map GuideEntry.slot
    ∧ (∀ n x, b.key = .guideSlot n → x ∈ t.guide.entries → x.slot = n →
        ∃ y ∈ s.guide.entries, y.slot = n ∧ x.pins = y.pins - 1
          ∧ (settles → b.request ∈ t.requests.map Request.number → b.request ∈ x.settled)
          ∧ (¬ settles → ∀ m ∈ x.settled, m ∈ y.settled))
    ∧ (s.request? b.request = none → t.requests = s.requests)
    ∧ (∀ r, s.request? b.request = some r →
        let goes := match r.kind with
          | .event _ => ∀ x code, e ≠ .outcome .withdrawn x code
          | .timed f => f.days = 0
          | .series _ => False
        (r.state = .dropping → t.requests
            = if live = [] then s.requests.filter (fun q => q.number != b.request) else s.requests)
        ∧ (r.state ≠ .dropping → goes → t.requests = s.requests.filter (fun q => q.number != b.request))
        ∧ (r.state ≠ .dropping → ¬ goes → t.requests = s.requests.map (fun q =>
            if q.number == b.request then requestAfter q b s.present e else q))
        ∧ (b.request ∉ t.requests.map Request.number → ∀ x ∈ t.guide.entries, b.request ∉ x.settled))
    ∧ (∀ o r code, e = .outcome o r code → o ≠ .replaced → s.alerts.masks.edge.bookingEnd = false →
        s.outbox.notices.length < 23 → t.outbox.notices.getLast?
          = some (.bookingEnd ⟨b.number, b.request, o, r, code, b.begun, s.present, none⟩))
    ∧ (e = .cancel → t.outbox.notices.filter (fun n => n.source == .edge .bookingEnd)
        = s.outbox.notices.filter (fun n => n.source == .edge .bookingEnd) ∨ 24 ≤ s.outbox.notices.length)
    ∧ finishOne e endReason b s = (if s.clockSet = true then
        planPass (if s.isSeriesBooking b = true then derive t else t) else t))
  ∧ ∀ (w : Pass) (r : Request) (b : Booking) (g : GuideEntry) (p : Place) (n : Need),
    let s := w.state
    let t := (bookAlternate w r b g p n).state
    t.requests = s.requests ∧ t.standing = s.standing ∧ t.run = s.run ∧ t.outbox.directives = s.outbox.directives
    ∧ (∃ c ∈ t.plan.bookings, c.number = s.newNumber ∧ c.alternate = true ∧ c.state = some .planned ∧ c.place = some p
      ∧ c.request = r.number ∧ c.key = .guideSlot g.slot ∧ c.episode = g.episode
      ∧ t.plan.bookings.Perm (c :: s.plan.bookings.filter (fun x => x.number != b.number)))
    ∧ (∀ x ∈ t.guide.entries, ∃ y ∈ s.guide.entries, y.slot = x.slot ∧ y.settled = x.settled
      ∧ x.pins = y.pins - (if b.key = .guideSlot y.slot then 1 else 0) + (if y.slot = g.slot then 1 else 0))
    ∧ (s.alerts.masks.edge.bookingEnd = false → s.outbox.notices.length < 24 →
      t.outbox.notices = s.outbox.notices
        ++ [.bookingEnd ⟨b.number, b.request, .replaced, .replaced, 0, b.begun, s.present, some s.newNumber⟩])

/-- What a finish report writes into a request that is not DROPPING (R66, R67, R68): the loss count rises to 15 at most on
MISSED by CLASH, falls to 0 on DONE and is kept otherwise; a SERIES request credits the episode when at least half of the
programme was recorded; a repeating TIMED request skips a cancelled day and settles a finished one. -/
def Obligations.FinishReportOnARequest : Prop :=
  ∀ (r : Request) (b : Booking) (ended : Nat) (e : Ending),
    let q := requestAfter r b ended e
    q.number = r.number ∧ q.state = r.state ∧ q.importance = r.importance ∧ q.prePad = r.prePad ∧ q.postPad = r.postPad
    ∧ (∀ code, e = .outcome .missed .clash code → q.loss = min (r.loss + 1) 15)
    ∧ (∀ reason code, e = .outcome .done reason code → q.loss = 0)
    ∧ ((∀ code, e ≠ .outcome .missed .clash code) → (∀ reason code, e ≠ .outcome .done reason code) → q.loss = r.loss)
    ∧ (∀ f o reason code id begun, r.kind = .series f → e = .outcome o reason code → b.episode = some id →
        b.begun = some begun →
        ((o = .done ∨ o = .partly ∨ o = .truncated) → b.progDuration ≤ 2 * (ended - begun) →
          ∃ f', q.kind = .series f' ∧ f'.history.getLast? = some id
            ∧ (f.history.length ≤ 12 → f.history.Nodup → f'.history.length ≤ 12 ∧ f'.history.Nodup))
        ∧ (2 * (ended - begun) < b.progDuration → q.kind = r.kind))
    ∧ (∀ f day, r.kind = .timed f → f.days ≠ 0 → b.key = .localDay day →
        (e = .cancel → ∃ f', q.kind = .timed f' ∧ f'.settledDay = f.settledDay
          ∧ day ∈ f'.skip ∧ (f.skip.length ≤ 4 → f'.skip.length ≤ 4))
        ∧ (∀ o reason code, e = .outcome o reason code → ∃ f', q.kind = .timed f' ∧ f'.skip = f.skip
          ∧ f'.settledDay = some (match f.settledDay with
            | some sd => max sd day
            | none => day)))

/-- SPACE (R107 to R109): the free-space figure takes the carried value, and the space part runs: a PLANNED or LATE booking is
flagged exactly when the sizes of the placed bookings up to it, in list order, exceed the budget, a CLASHED one never; the
reply carries the budget, the total and the count flagged, which is the model's count of the PLANNED and LATE ones (log entry
27). The size of a booking (R108) is written out. -/
def Obligations.SpaceFlagsInListOrder : Prop :=
  (∀ (d : Dest) (w : Word32) (s : State), s.running = true → s.line.state.takes = true →
    let c := Instr.space d (.fields w)
    let u := arrive c d s
    let sizes := fun bs : List Booking => (bs.map (fun b => if b.isPlaced then sizeInMB u b else 0)).sum
    let m := w.toNat - s.settings.spaceReserve
    ∃ t : State, t.standing = { u.standing with freeSpace := some w.toNat }
      ∧ (∀ i, t.plan.bookings[i]? = u.plan.bookings[i]?.map (fun b : Booking =>
          if b.state = some .planned ∨ b.state = some .late then
            { b with spaceShort := decide (m < sizes (u.plan.bookings.take (i + 1))) }
          else if b.state = some .clashed then { b with spaceShort := false }
          else b))
      ∧ t.alerts.spaceCount = flaggedCount t
      ∧ exec c s = .next (t.answering d (.accepted (.space m (sizes u.plan.bookings) (flaggedCount t)))))
  ∧ ∀ (s : State) (b : Booking),
    let stop := if b.state = some .due ∨ b.state = some .starting ∨ b.state = some .recording then b.provEnd else b.winEnd
    let seconds := stop - max b.winStart s.present
    (∀ v, s.service? b.channel = some v → ∃ rest, rest < 1000
      ∧ seconds * s.settings.rateClass.getD v.rateClass 0 + rest = 1000 * sizeInMB s b)
    ∧ flaggedCount s = (s.plan.bookings.filter (fun b => b.spaceShort && (b.state == some .planned
      || b.state == some .late))).length

/-- HOLD (R120): a value other than 0 and 1 is refused with RANGE; the current value changes nothing; on withdraws every DUE
booking's BEGIN and makes it LATE with its late limit (with every such limit ahead, nothing more); off lets the LATE bookings
go (R115) when the host is AWAKE, and leaves them otherwise; the reply counts the bookings moved, and one step 8 serves those
that were turned away (R133). No pass of its own. R115, one LATE booking: a booking ending on its tuner in the way has its
provisional end taken first; then it finishes SKIPPED under STRICT_SPACE, and becomes DUE otherwise. GREET (R134): of a host
that is AWAKE each STARTING and RECORDING booking finishes TRUNCATED by HOST_RESTART, in list order, after the holds are gone
and before the LATE bookings go; one step 8 serves the holds and the finishes. The late limit and the take deadline (R112).
That the finishes of one message share one step 8 is DEDUCED for HOLD (log entry 12). -/
def Obligations.HoldMovesDueAndLate : Prop :=
  (∀ (d : Dest) (b : Byte) (s : State), Free s →
    let c := Instr.hold d (.fields b)
    let u := arrive c d s
    (1 < b.toNat → exec c s = .next (u.answering d (.refused 0x44 .range [])))
    ∧ (b = 0 → s.run.hold = false → exec c s = .next (u.answering d (.accepted (.hold false 0))))
    ∧ (b = 1 → s.run.hold = true → exec c s = .next (u.answering d (.accepted (.hold true 0))))
    ∧ (b = 1 → s.run.hold = false → (u.plan.bookings.map Booking.number).Nodup →
      (∀ x ∈ u.plan.bookings, x.state = some .due → s.present < lateLimitOf s.settings x) →
      exec c s = .next (State.answering
        { u with
          run := { u.run with hold := true }
          plan := { u.plan with bookings := u.plan.bookings.map (fun x =>
            if x.state = some .due then
              { x with
                state := some .late
                dueAt := none
                takeExpiry := none
                lateExpiry := some (lateLimitOf s.settings x) }
            else x) }
          outbox := { u.outbox with directives := u.outbox.directives.filter (fun y =>
            !(u.plan.bookings.any (fun x => x.state == some .due && y.isBeginFor x.number))) } }
        d (.accepted (.hold true (u.inState .due).length))))
    ∧ (b = 0 → s.run.hold = true →
      let w := takeLates { u with run := { u.run with hold := false } }
      exec c s = .next (State.answering (settle (if w.skipped = 0 then w.state else afterFinish w.series w.state)) d
        (.accepted (.hold false w.madeDue)))
      ∧ (settle (if w.skipped = 0 then w.state else afterFinish w.series w.state)).standing
          = { u.standing with hold := false }
      ∧ (u.host.state ≠ .awake → exec c s = .next (State.answering { u with run := { u.run with hold := false } } d
        (.accepted (.hold false 0)))))
    ∧ (b = 1 → s.run.hold = false → ∃ t : State,
      exec c s = .next (t.answering d (.accepted (.hold true (u.inState .due).length)))
        ∧ t.standing = { u.standing with hold := true }))
  ∧ (∀ s : State,
    (s.host.state ≠ .awake ∨ s.run.hold = true → takeLates s = ⟨s, 0, 0, false⟩)
    ∧ (s.host.state = .awake → s.run.hold = false → takeLates s
      = ((s.plan.bookings.filter (fun b => b.state == some .late)).map Booking.number).foldl takeLate ⟨s, 0, 0, false⟩))
  ∧ (∀ (w : LateWork) (n : Nat) (b : Booking),
    let v := clearWay 6 n w.state
    v.booking? n = some b →
    (b.state ≠ some .late → takeLate w n = { w with state := v })
    ∧ (b.state = some .late → v.settings.strictSpace = true → b.spaceShort = true → takeLate w n
      = ⟨finishBooking (.outcome .skipped .noSpace 0) none b v, w.madeDue, w.skipped + 1,
          w.series || v.isSeriesBooking b⟩)
    ∧ (b.state = some .late → ¬ (v.settings.strictSpace = true ∧ b.spaceShort = true) → takeLate w n
      = ⟨becomeDue b v, w.madeDue + 1, w.skipped, w.series⟩))
  ∧ (∀ (s : State) (n k : Nat) (b : Booking), s.booking? n = some b →
    (endingBefore s b = none → clearWay k n s = s)
    ∧ ∀ x, endingBefore s b = some x →
      clearWay (k + 1) n s = clearWay k n (settle (takeDue (.provisionalEnd x.number) s)))
  ∧ (∀ (d : Dest) (s : State), s.running = true → s.line.state.takes = true →
    let c := Instr.greet d (.fields ())
    let u := arrive c d s
    let freed : State := { u with tunerA := { u.tunerA with hold := none }, tunerB := { u.tunerB with hold := none } }
    let ended := u.plan.bookings.filter (fun b => u.host.state == .awake
      && (b.state == some .starting || b.state == some .recording))
    let f := ended.foldl (fun t b => finishBooking (.outcome .truncated .hostRestart 0) none b t) freed
    let w := takeLates { f with host :=
      ⟨.awake, none, .none, none, f.host.attempt, none, f.host.cause, false⟩ }
    let t := settle (if u.tunerA.hold.isSome = true ∨ u.tunerB.hold.isSome = true ∨ ended ≠ [] ∨ w.skipped ≠ 0
      then afterFinish (ended.any u.isSeriesBooking || w.series) w.state else w.state)
    exec c s = .next (State.answering { t with host := { t.host with cause := .none } } d
      (.accepted (.greet u.host.state u.host.cause))))
  ∧ ∀ (set : Settings) (b : Booking) (now : Nat),
    lateLimitOf set b = min (b.winStart + set.lateLimit) b.winEnd
    ∧ takeDeadlineOf set b now = min (max (lateLimitOf set b) (now + set.confirmTimeout)) b.winEnd

/-- CONFIRM (R122): number 0 is refused with RANGE, a booking not STARTING with STATE; a failure code finishes the booking
FAILED by HOST_FAIL; code 0 makes it RECORDING from the present, raises the recording count, which may move the panel lines,
and applies the early end where it applies at once; with the provisional end ahead that is all. -/
def Obligations.ConfirmStartsTheRecording : Prop :=
  ∀ (d : Dest) (a : ConfirmArgs) (s : State), Free s →
    let c := Instr.confirm d (.fields a)
    let u := arrive c d s
    (a.booking = 0 → exec c s = .next (u.answering d (.refused 0x51 .range [])))
    ∧ (a.booking ≠ 0 → (∀ b, u.booking? a.booking.toNat = some b → b.state ≠ some .starting) →
      exec c s = .next (u.answering d (.refused 0x51 .state [])))
    ∧ ∀ b, a.booking ≠ 0 → u.booking? a.booking.toNat = some b → b.state = some .starting →
      (a.code ≠ 0 → exec c s = .next
        ((settle (finishOne (.outcome .failed .hostFail a.code.toNat) none b u)).answering d (.accepted (.confirm false))))
      ∧ (a.code = 0 → (∀ x, b.provExpiry = some x → s.present < x) →
        let started := fun x : Booking =>
          { x with state := some BookingState.recording, begun := some s.present, confirmExpiry := none }
        let t : State := { u with
          plan := { u.plan with
            bookings := u.plan.bookings.map (fun x => if x.number == b.number then started x else x) }
          run := { u.run with recordings := u.run.recordings + 1 }
          panel := { u.panel with lines :=
            (if u.run.recordings = 0 ∧ u.panel.staged.recFirst.enable = true then u.panel.staged.recFirst.pattern
              else u.panel.lines) } }
        (earlyEndApplies t (started b) = false → exec c s = .next (t.answering d (.accepted (.confirm true))))
        ∧ (earlyEndApplies t (started b) = true →
          exec c s = .next ((settle (earlyEnd b.number t)).answering d (.accepted (.confirm true)))))
      ∧ (a.code = 0 → ∃ t : State, exec c s = .next (t.answering d (.accepted (.confirm true)))
        ∧ t.standing = u.standing)

/-- WINDOW_START of a PLANNED booking whose instant is reached (R113). With an ending booking on its tuner in the way, that
one's provisional end is taken first and the window start again after it. With none: past its late limit it finishes; with the
host AWAKE and HOLD off it becomes DUE, its viewer yielding before its BEGIN where they conflict (R26, R114, R154), or
finishes SKIPPED under STRICT_SPACE; otherwise it becomes LATE, and the wake expiry is computed afresh. Which of several
ending bookings comes first is the model's choice (log entry 31). -/
def Obligations.WindowStartTakesItsCase : Prop :=
  ∀ (n e : Nat) (s : State) (b : Booking) (p : Place), s.running = true → s.agenda = [] → s.saving = false →
    s.booking? n = some b → b.state = some .planned → b.place = some p → b.windowExpiry = some e → e ≤ s.present →
    (∀ x, endingBefore s b = some x → exec (.windowStart n) s = .next (settle
      { provEndWork x.number s with agenda := (provEndWork x.number s).agenda ++ [.windowStart n] }))
    ∧ (endingBefore s b = none →
    let strict := s.settings.strictSpace = true ∧ b.spaceShort = true
    let finish := fun (o : BookingOutcome) (r : Reason) =>
      exec (.windowStart n) s = .next (settle (finishOne (.outcome o r 0) none b s))
    (lateLimitOf s.settings b < s.present →
      (s.host.state ≠ .awake → finish .missed .hostAbsent)
      ∧ (s.host.state = .awake → s.run.hold = true → finish .missed .held)
      ∧ (s.host.state = .awake → s.run.hold = false → strict → finish .skipped .noSpace)
      ∧ (s.host.state = .awake → s.run.hold = false → ¬ strict → finish .missed .notTaken))
    ∧ (s.present ≤ lateLimitOf s.settings b → s.host.state = .awake → s.run.hold = false →
      (strict → finish .skipped .noSpace)
      ∧ (¬ strict → s.present < takeDeadlineOf s.settings b s.present →
        let due : State := { s with plan := { s.plan with bookings := s.plan.bookings.map (fun x =>
          if x.number == n then
            { x with
              state := some .due
              dueAt := some s.present
              windowExpiry := none
              lateExpiry := none
              takeExpiry := some (takeDeadlineOf s.settings b s.present) }
          else x) } }
        let begin := Directive.beginRec ⟨n, p, b.channel, s.networkOf b.channel, s.multiplexOf b.channel, b.progStart,
          b.progDuration, b.provEnd, isAccurate s b⟩
        ((∀ h, (s.tuner p.tuner).hold = some h → h.multiplex = s.multiplexOf b.channel ∧ h.slot ≠ p.slot) →
          exec (.windowStart n) s = .next { due with outbox := { due.outbox with
            directives := s.outbox.directives ++ [begin] } })
        ∧ (∀ h, (s.tuner p.tuner).hold = some h → (h.multiplex ≠ s.multiplexOf b.channel ∨ h.slot = p.slot) →
          exec (.windowStart n) s = .next { due.withTuner p.tuner { s.tuner p.tuner with hold := none } with
            outbox := { due.outbox with
              directives := s.outbox.directives.filter (fun y => !y.isYieldFor p.tuner)
                ++ [.yieldTuner p.tuner n, begin] } })))
    ∧ (s.present < lateLimitOf s.settings b → ¬ (s.host.state = .awake ∧ s.run.hold = false) →
      exec (.windowStart n) s = .next (settle (recomputeWake { s with plan := { s.plan with
        bookings := s.plan.bookings.map (fun x =>
          if x.number == n then
            { x with
              state := some .late
              dueAt := none
              windowExpiry := none
              takeExpiry := none
              lateExpiry := some (lateLimitOf s.settings b) }
          else x) } })))
    ∧ (s.present ≤ lateLimitOf s.settings b →
      (s.host.state = .awake → s.run.hold = false → ¬ strict → exec (.windowStart n) s = .next (settle (becomeDue b s)))
      ∧ (¬ (s.host.state = .awake ∧ s.run.hold = false) → exec (.windowStart n) s = .next (settle (becomeLate b s)))))

/-- LATE_LIMIT and TAKE_DEADLINE at a reached instant (R116): a CLASHED booking is MISSED by CLASH, a LATE one by HELD
when the host is AWAKE and by HOST_ABSENT otherwise, a DUE one, at its take deadline, by NOT_TAKEN. CONFIRM_TIMER,
and PROVISIONAL_END of a STARTING booking, at a reached instant (R123): the booking finishes FAILED by NO_CONFIRM
with an END whose reason is ABANDON. -/
def Obligations.DeadlinesFinishABooking : Prop :=
  (∀ (n e : Nat) (s : State) (b : Booking), s.running = true → s.saving = false → s.booking? n = some b → e ≤ s.present →
      let missed := fun (c : Instr) (r : Reason) =>
        exec c s = .next (settle (finishOne (.outcome .missed r 0) none b s))
      (b.lateExpiry = some e → b.state = some .clashed → missed (.lateLimit n) .clash)
      ∧ (b.lateExpiry = some e → b.state = some .late → s.host.state = .awake → missed (.lateLimit n) .held)
      ∧ (b.lateExpiry = some e → b.state = some .late → s.host.state ≠ .awake → missed (.lateLimit n) .hostAbsent)
      ∧ (b.takeExpiry = some e → b.state = some .due → missed (.takeDeadline n) .notTaken))
  ∧ (∀ (n e : Nat) (s : State) (b : Booking), s.running = true → s.saving = false → s.booking? n = some b →
      b.state = some .starting → e ≤ s.present →
      (b.confirmExpiry = some e → exec (.confirmTimer n) s
        = .next (settle (finishOne (.outcome .failed .noConfirm 0) (some .abandon) b s)))
      ∧ (b.provExpiry = some e → exec (.provisionalEnd n) s
        = .next (settle (finishOne (.outcome .failed .noConfirm 0) (some .abandon) b s))))

/-- PROVISIONAL_END of a RECORDING booking at a reached instant (R126, R127): the ACCURATE flag is refreshed from the request;
an accurate booking not cut by a YIELD, at or past its planned end and still on air or never seen on air, is extended by 300 s
up to its cap, or finishes TRUNCATED by LIMIT at the cap; any other finishes with the outcome its cut reason, its begun time
and its ends give, and an END with the same reason. -/
def Obligations.ProvisionalEndExtendsOrFinishes : Prop :=
  ∀ (n e : Nat) (s : State) (b : Booking) (r : Request), s.running = true → s.saving = false → s.booking? n = some b →
    b.state = some .recording → b.provExpiry = some e → e ≤ s.present → s.request? b.request = some r →
    let b' := { b with accurate := r.accurate }
    let s' := s.mapBooking n (fun x => { x with accurate := r.accurate })
    let onAir := ∃ g, s.entryOf b = some g ∧ g.withdrawn = false
      ∧ (g.status = .running ∨ g.status = .paused ∨ g.hasRun = false)
    let longer := r.accurate = true ∧ b.cut ≠ some .yield ∧ b.winEnd ≤ b.provEnd ∧ onAir
    let finish := fun (x : Booking) (o : BookingOutcome) (why : Reason) =>
      exec (.provisionalEnd n) s = .next (settle (finishOne (.outcome o why 0) (some why) x s'))
    (longer → b.provEnd < capOf s.settings b →
      exec (.provisionalEnd n) s = .next (settle (passIfSet
        (moveProvEnd n (min (b.provEnd + 300) (capOf s.settings b)) (if b.cut = some .limit then none else b.cut) s'))))
    ∧ (longer → capOf s.settings b ≤ b.provEnd → finish { b' with cut := some .limit } .truncated .limit)
    ∧ (¬ longer → b.cut = some .yield → finish b' .truncated .yield)
    ∧ (¬ longer → b.cut = some .limit → finish b' .truncated .limit)
    ∧ (¬ longer → b.cut = none → ∀ t, b.begun = some t →
      finish b' (if t ≤ b.progStart then .done else .partly) (if b.provEnd < b.winEnd then .early else .natural))

/-! ### Directives, notices, alerts and the panel -/

/-- TAKE (R157, R121): addressed to the part it removes and returns the head of the directive queue, else of the notice queue,
else EMPTY, with the counts left; a BEGIN makes its booking STARTING with a confirm timer and a provisional-end expiry (with
the provisional end ahead, nothing more). Broadcast it leaves both queues. -/
def Obligations.TakeReturnsTheHead : Prop :=
  ∀ s : State, Free s →
    (let u := arrive (.take .broadcast (.fields ())) .broadcast s
     exec (.take .broadcast (.fields ())) s = .next { u with line := { u.line with state := .idle } })
    ∧ (let u := arrive (.take .own (.fields ())) .own s
       let answer := fun (t : State) (i : TakenItem) => exec (.take .own (.fields ())) s = .next (t.answering .own
         (.accepted (.take i t.outbox.directives.length t.outbox.notices.length)))
       (u.outbox.directives = [] → u.outbox.notices = [] → answer u .empty)
       ∧ (∀ n ns, u.outbox.directives = [] → u.outbox.notices = n :: ns →
         answer { u with outbox := { u.outbox with notices := ns } } (.notice n))
       ∧ (∀ x xs, u.outbox.directives = x :: xs →
         ((∀ f, x ≠ .beginRec f) → answer { u with outbox := { u.outbox with directives := xs } } (.directive x))
         ∧ ∀ f b, x = .beginRec f → u.booking? f.booking = some b → s.present < b.provEnd →
           answer { u with
             outbox := { u.outbox with directives := xs }
             plan := { u.plan with bookings := u.plan.bookings.map (fun y =>
               if y.number == f.booking then
                 { y with
                   state := some .starting
                   dueAt := none
                   takeExpiry := none
                   confirmExpiry := some (s.present + s.settings.confirmTimeout)
                   provExpiry := some y.provEnd }
               else y) } } (.directive x))
       ∧ ∀ x xs, u.outbox.directives = x :: xs → ∃ t : State, t.standing = u.standing
         ∧ exec (.take .own (.fields ())) s = .next (t.answering .own
           (.accepted (.take (.directive x) xs.length u.outbox.notices.length))))

/-- A YIELD (R154): an untaken one for the same tuner leaves its place, the new one joins the tail, and those of the
other tuner and every other directive keep their order; so at most one waits for each tuner. A notice joins (R156):
at the tail; when 24 wait, the oldest edge notice gives way first and the lost-notice count rises, no further than
255; level notices never give way. -/
def Obligations.QueuesMakeRoom : Prop :=
  (∀ (s : State) (t : TunerId) (n : Nat),
      (s.queueYield t n).outbox.directives
          = s.outbox.directives.filter (fun d => !d.isYieldFor t) ++ [.yieldTuner t n]
      ∧ waitingYields (s.queueYield t n) t = 1
      ∧ ∀ u, u ≠ t → (s.queueYield t n).outbox.directives.filter (fun d => d.isYieldFor u)
          = s.outbox.directives.filter (fun d => d.isYieldFor u))
  ∧ (∀ (s : State) (n : Notice),
      (s.outbox.notices.length < 24 → s.joinNotice n = { s with outbox := { s.outbox with
        notices := s.outbox.notices ++ [n] } })
      ∧ ∀ before x after, s.outbox.notices = before ++ x :: after → 24 ≤ s.outbox.notices.length →
        x.isEdge = true → (∀ y ∈ before, y.isEdge = false) →
        s.joinNotice n = { s with outbox := { s.outbox with
          notices := before ++ after ++ [n]
          lost := min (s.outbox.lost + 1) 255 } })

/-- ALERT_ACK (R165): a number that names no source is refused with RANGE; an edge source is left; a level source whose notice
waits is refused with STATE; any other is taken out of service and sampled, and the reply reports a new notice. -/
def Obligations.AlertAckSamplesTheSource : Prop :=
  ∀ (d : Dest) (b : Byte) (s : State), s.running = true → s.line.state.takes = true →
    let c := Instr.alertAck d (.fields b)
    let u := arrive c d s
    (b.toNat = 0 ∨ 8 < b.toNat → exec c s = .next (u.answering d (.refused 0x52 .range [])))
    ∧ (∀ e, sourceOfNumber b.toNat = some (.edge e) → exec c s = .next (u.answering d (.accepted (.alertAck false))))
    ∧ ∀ l, sourceOfNumber b.toNat = some (.level l) →
      ((∃ n ∈ u.outbox.notices, n.source = .level l) → exec c s = .next (u.answering d (.refused 0x52 .state [])))
      ∧ ((∀ n ∈ u.outbox.notices, n.source ≠ .level l) →
        let clear : State := { u with alerts := { u.alerts with inService := u.alerts.inService.put l false } }
        ((u.alerts.condition l = true ∧ u.alerts.masks.level.get l = false) →
          ∃ t : State, exec c s = .next (t.answering d (.accepted (.alertAck true)))
            ∧ t.alerts = { u.alerts with inService := u.alerts.inService.put l true }
            ∧ t = { clear.joinNotice (u.alerts.notice l) with alerts := t.alerts })
        ∧ (¬ (u.alerts.condition l = true ∧ u.alerts.masks.level.get l = false) →
          exec c s = .next (clear.answering d (.accepted (.alertAck false)))))

/-- ALERT_MASK (R164): operands out of range are refused with RANGE, any during a save with BUSY; the current value changes
nothing; otherwise the one mask takes the value, stored content changes, and clearing a level source's mask samples it. The
queue keeps what it holds. That RANGE comes before BUSY during a save is the model's choice (log entry 19), and so is that a
STORE_STALE notice of the change joins before the sampled source's (log entry 28). -/
def Obligations.AlertMaskChangesOneMask : Prop :=
  ∀ (d : Dest) (a : AlertMaskArgs) (s : State), s.running = true → s.line.state.takes = true →
    let c := Instr.alertMask d (.fields a)
    let u := arrive c d s
    (a.source.toNat = 0 ∨ 8 < a.source.toNat ∨ 1 < a.mask.toNat →
      exec c s = .next (u.answering d (.refused 0x53 .range [])))
    ∧ ∀ x, sourceOfNumber a.source.toNat = some x → a.mask.toNat ≤ 1 →
      let v := decide (a.mask = 1)
      let changed : State := State.noteChange u.storedContent
        { u with alerts := { u.alerts with masks := u.alerts.masks.put x v } }
      (u.saving = true → exec c s = .next (u.answering d (.refused 0x53 .busy [])))
      ∧ (u.saving = false → u.alerts.masks.get x = v → exec c s = .next (u.answering d (.accepted (.alertMask false))))
      ∧ (u.saving = false → u.alerts.masks.get x ≠ v → changed.image.state ≠ .current
        ∧ (∀ y, y ≠ x → changed.alerts.masks.get y = u.alerts.masks.get y) ∧ changed.alerts.masks.get x = v
        ∧ ((v = true ∨ ∃ e, x = .edge e) → exec c s = .next (changed.answering d (.accepted (.alertMask true))))
        ∧ ∀ l, v = false → x = .level l →
          exec c s = .next ((changed.sample l).answering d (.accepted (.alertMask true))))

/-- ATTN_ENABLE (R159, R158): a value other than 0 and 1 is refused with RANGE, any during a save with BUSY; the current
value changes nothing; otherwise the enable takes the value, a change of stored content (R181): the directive queue is kept,
and so is the notice queue but for a STORE_STALE notice of a CURRENT image. The reply counts what waits, and the attention
line stands exactly when the enable is on and an item waits. That RANGE comes before BUSY during a save, and that the counts
are taken after a STORE_STALE notice of the change has joined, is the model's choice (log entries 19 and 17). -/
def Obligations.AttnEnableDrivesTheLine : Prop :=
  ∀ (d : Dest) (b : Byte) (s : State), s.running = true → s.line.state.takes = true →
    let c := Instr.attnEnable d (.fields b)
    let u := arrive c d s
    let v := decide (b = 1)
    let counted := fun t : State => exec c s = .next (t.answering d
      (.accepted (.attnEnable v t.outbox.directives.length t.outbox.notices.length)))
    (1 < b.toNat → exec c s = .next (u.answering d (.refused 0x54 .range [])))
    ∧ (b.toNat ≤ 1 → u.saving = true → exec c s = .next (u.answering d (.refused 0x54 .busy [])))
    ∧ (b.toNat ≤ 1 → u.saving = false →
      (u.outbox.attnEnable = v → counted u)
      ∧ let t := State.noteChange u.storedContent { u with outbox := { u.outbox with attnEnable := v } }
        counted t
        ∧ t.standing = { u.standing with attnEnable := v } ∧ t.outbox.directives = u.outbox.directives
        ∧ (u.image.state ≠ .current → t.outbox.notices = u.outbox.notices)
        ∧ (t.attention = true ↔ b = 1 ∧ (t.outbox.directives ≠ [] ∨ t.outbox.notices ≠ [])))

/-- PANEL_STAGE (R149): refused with BUSY during a save, with RANGE for a trigger, pattern or enable out of range; otherwise the
named trigger's pattern and enable are replaced, a change of stored content when either differs, and the lines do not move. -/
def Obligations.PanelStageReplacesAPattern : Prop :=
  ∀ (d : Dest) (a : PanelStageArgs) (s : State), s.running = true → s.line.state.takes = true →
    let c := Instr.panelStage d (.fields a)
    let u := arrive c d s
    (u.saving = true → exec c s = .next (u.answering d (.refused 0x60 .busy [])))
    ∧ (u.saving = false → a.trigger.toNat = 0 ∨ 4 < a.trigger.toNat ∨ 15 < a.pattern.toNat ∨ 1 < a.enable.toNat →
      exec c s = .next (u.answering d (.refused 0x60 .range [])))
    ∧ ∀ x, u.saving = false → triggerOf a.trigger = some x → a.pattern.toNat ≤ 15 → a.enable.toNat ≤ 1 →
      let g : Staged := ⟨BitVec.ofNat 4 a.pattern.toNat, decide (a.enable = 1)⟩
      (u.panel.staged.get x = g → exec c s = .next (u.answering d (.accepted (.panelStage false))))
      ∧ (u.panel.staged.get x ≠ g → ∃ t : State, exec c s = .next (t.answering d (.accepted (.panelStage true)))
        ∧ t.standing = { u.standing with staged := u.panel.staged.put x g } ∧ t.panel.lines = u.panel.lines
        ∧ t.panel.staged.get x = g ∧ (∀ y, y ≠ x → t.panel.staged.get y = u.panel.staged.get y)
        ∧ t.image.state ≠ .current)

/-- PANEL_SET (R150): a pattern above 15 is refused with RANGE; otherwise the lines take it at once, the reply carries the one
before, and nothing else changes, a save or not. -/
def Obligations.PanelSetMovesTheLines : Prop :=
  ∀ (d : Dest) (b : Byte) (s : State), s.running = true → s.line.state.takes = true →
    let c := Instr.panelSet d (.fields b)
    let u := arrive c d s
    (15 < b.toNat → exec c s = .next (u.answering d (.refused 0x61 .range [])))
    ∧ (b.toNat ≤ 15 → exec c s = .next (State.answering
        { u with panel := { u.panel with lines := BitVec.ofNat 4 b.toNat } } d (.accepted (.panelSet u.panel.lines))))

/-! ### The stored image -/

/-- A change of stored content (R181): a CURRENT image becomes STALE, a save takes the changed-in-save flag, the other states
stay; a change that leaves the content as it was is none. -/
def Obligations.StoredContentChangeMarksTheImage : Prop :=
  ∀ s t : State,
    (t.storedContent = s.storedContent → State.noteChange s.storedContent t = t)
    ∧ (t.storedContent ≠ s.storedContent →
      let m := State.noteChange s.storedContent t
      m.standing = t.standing ∧ m.storedContent = t.storedContent ∧ m.image.flash = t.image.flash
      ∧ (t.image.state = .current → m.image.state = .stale ∧ m.alerts.image = .stale)
      ∧ (t.image.state = .savingErase ∨ t.image.state = .savingWrite →
        m = { t with image := { t.image with changedInSave := true } })
      ∧ (t.image.state = .stale ∨ t.image.state = .absent ∨ t.image.state = .failed → m = t))

/-- A save from STORE_SAVE to its end (R182, R183): BUSY while one is in progress; else the marker is removed first and the
erase phase begins; at its end the content is captured with the present when the clock is set; at the end of the write phase
flash holds that image, STALE when something changed since the save began and CURRENT otherwise; with no scan waiting the
image record is the only part of it that this changes. The model's reading of the completions (log entry 4): ERASE_COMPLETE
and WRITE_COMPLETE outside their phase change nothing. An expiry of Run Control or the wake expiry abandons a save in progress
(R184): the image is FAILED, its abandon cause DEADLINE and its changed-in-save flag clear, and flash is as the save left it.
-/
def Obligations.SaveRunsThroughItsPhases : Prop :=
  (∀ (d : Dest) (s : State), s.running = true → s.line.state.takes = true →
    let c := Instr.storeSave d (.fields ())
    let u := arrive c d s
    (u.saving = true → exec c s = .next (u.answering d (.refused 0x62 .busy [])))
    ∧ (u.saving = false → ∃ t : State, exec c s = .next (t.answering d (.accepted (.storeSave .savingErase)))
      ∧ t.image = ⟨.savingErase, false, .none, none, none, none⟩ ∧ t.standing = u.standing
      ∧ t.storedContent = u.storedContent))
  ∧ (∀ s : State, s.running = true → s.image.state = .savingErase → ∃ t : State, exec .eraseComplete s = .next t
    ∧ t.image = { s.image with
        state := .savingWrite
        capture := some ⟨s.storedContent, if s.clockSet then some s.present else none⟩ }
    ∧ t.standing = s.standing)
  ∧ (∀ (s : State) (i : Image), Free s → s.image.state = .savingWrite → s.image.capture = some i →
    s.guide.scanWaits = false → ∃ t : State, exec .writeComplete s = .next t
    ∧ t.image = { s.image with
        state := (if s.image.changedInSave then .stale else .current)
        changedInSave := false
        lastSaved := i.savedAt
        flash := some i
        capture := none }
    ∧ t.standing = s.standing)
  ∧ (∀ (s : State) (i : Image), s.running = true → s.image.state = .savingWrite → s.image.capture = some i →
    ∃ t : State, exec .writeComplete s = .next t ∧ t.saving = false ∧ t.image.flash = some i ∧ t.standing = s.standing)
  ∧ (∀ s : State, (s.image.state ≠ .savingErase → exec .eraseComplete s = .next s)
    ∧ (s.image.state ≠ .savingWrite → exec .writeComplete s = .next s))
  ∧ ∀ (s : State) (n : Nat), s.running = true → s.saving = true →
    let abandons := fun (c : Instr) => ∃ t : State, exec c s = .next t ∧ t.standing = s.standing
      ∧ t.image = { s.image with state := .failed, changedInSave := false, abandonCause := .deadline, capture := none }
    (isDue (.windowStart n) s = true → abandons (.windowStart n))
    ∧ (isDue (.lateLimit n) s = true → abandons (.lateLimit n))
    ∧ (isDue (.takeDeadline n) s = true → abandons (.takeDeadline n))
    ∧ (isDue (.confirmTimer n) s = true → abandons (.confirmTimer n))
    ∧ (isDue (.provisionalEnd n) s = true → abandons (.provisionalEnd n))
    ∧ (isDue .wake s = true → abandons .wakeExpiry)

/-- STORE_QUERY (R185): the image state, whether a valid image is held, the changed-in-save flag, the last abandon cause and the
last saved instant, in this order; nothing else changes. QUERY's report carries the image state as well. -/
def Obligations.StoreQueryReports : Prop :=
  ∀ (d : Dest) (s : State), s.running = true → s.line.state.takes = true →
    let c := Instr.storeQuery d (.fields ())
    let u := arrive c d s
    let valid := decide (u.image.state = .current ∨ u.image.state = .stale)
    exec c s = .next (u.answering d (.accepted
        (.storeQuery u.image.state valid u.image.changedInSave u.image.abandonCause u.image.lastSaved)))
      ∧ replyPayload (.storeQuery u.image.state valid u.image.changedInSave u.image.abandonCause u.image.lastSaved)
        = [byteOf (imageCode u.image.state), byteOf valid.toNat, byteOf u.image.changedInSave.toNat,
           byteOf (abandonCode u.image.abandonCause)] ++ field4 (u.image.lastSaved.getD 0)
      ∧ abandonCode .none = 0 ∧ abandonCode .deadline = 1 ∧ abandonCode .reset = 2
      ∧ (queryReport u).image = u.image.state

/-! ### Host power -/

/-- GREET (R139, R27): both viewer holds go, the host is AWAKE with the wake line released and its expiry, timer and
failure removed, and the reply carries the state found and the wake cause, which then is NONE. REST (R140): refused
with CLOCK while the clock is unset and with STATE while a booking is held; otherwise both viewer holds go (`f`), and when one
stood a pass follows with what it makes due at once (`g`, R27); the host is SLEEPING with the wake line released, timer, failure
and cause removed, and the REST trigger moves the panel lines where it is enabled (`p`); then the wake expiry is computed and,
when already reached, taken at once. -/
def Obligations.GreetAndRestMoveTheHost : Prop :=
  (∀ (d : Dest) (s : State), s.running = true → s.line.state.takes = true →
      let c := Instr.greet d (.fields ())
      let u := arrive c d s
      ∃ t : State, exec c s = .next (t.answering d (.accepted (.greet u.host.state u.host.cause)))
        ∧ t.host = ⟨.awake, none, .none, none, u.host.attempt, none, .none, false⟩
        ∧ t.tunerA.hold = none ∧ t.tunerB.hold = none ∧ t.standing = u.standing)
  ∧ (∀ (d : Dest) (s : State), s.running = true → s.line.state.takes = true →
      let c := Instr.rest d (.fields ())
      let u := arrive c d s
      (s.clockSet = false → exec c s = .next (u.answering d (.refused 0x02 .clock [])))
      ∧ (s.clockSet = true → (∃ b ∈ u.plan.bookings, b.isHeld = true) →
        exec c s = .next (u.answering d (.refused 0x02 .state [])))
      ∧ (s.clockSet = true → (∀ b ∈ u.plan.bookings, b.isHeld = false) →
        let f : State := { u with tunerA := { u.tunerA with hold := none }, tunerB := { u.tunerB with hold := none } }
        let g := if u.tunerA.hold.isSome = true ∨ u.tunerB.hold.isSome = true then settle (planPass f) else f
        let p : State := { g with
          host := ⟨.sleeping, g.host.wakeExpiry, g.host.expiryCause, none, g.host.attempt, none, .none, false⟩
          panel := { g.panel with lines :=
            (if g.panel.staged.rest.enable = true then g.panel.staged.rest.pattern else g.panel.lines) } }
        p.tunerA.hold = none ∧ p.tunerB.hold = none ∧ p.standing = u.standing
        ∧ exec c s = .next ((settle (recomputeWake p)).answering d
            (.accepted (.rest (settle (recomputeWake p)).host.state (computeWake p).1)))))

/-- WAKE_EXPIRY and WAKE_TIMEOUT at a reached instant (R143, R144, R138): the wake asserts the line, notes the attempt and
sets the timer; the timeout releases the line, notes the failure, hands WAKE_FAILED with the attempt instant, and computes the
wake expiry afresh. That computation (R141, R142): the earliest of the instants that the PLANNED bookings, in WAKE_FAILED
those whose window starts after the failure, and the maintenance window ask for, with the first such booking in list order as
its cause, the maintenance window otherwise; held in SLEEPING and WAKE_FAILED alone, and taken at once when it is reached. -/
def Obligations.WakesBeginAndFail : Prop :=
  (∀ (s : State) (x : Nat), s.running = true → s.agenda = [] → s.saving = false →
    s.host.state = .sleeping ∨ s.host.state = .wakeFailed → s.host.wakeExpiry = some x → x ≤ s.present →
    exec .wakeExpiry s = .next { s with
      host := ⟨.waking, none, s.host.expiryCause, some (s.present + s.settings.wakeTimeout), some s.present,
        s.host.failure, s.host.expiryCause, true⟩
      panel := { s.panel with lines :=
        (if s.panel.staged.wake.enable = true then s.panel.staged.wake.pattern else s.panel.lines) } })
  ∧ (∀ (s : State) (x a : Nat), s.running = true → s.host.state = .waking → s.host.wakeTimer = some x →
    x ≤ s.present → s.host.attempt = some a →
    let f : State := { s with host := { s.host with
      state := .wakeFailed, wakeLine := false, wakeTimer := none, failure := some s.present } }
    exec .wakeTimeout s = .next (settle (recomputeWake (f.edgeEvent (.wakeFailed a)))))
  ∧ ∀ s : State,
    let asks := fun (b : Booking) (t : Nat) => b.state = some .planned ∧ t = b.winStart - s.settings.wakeLead
      ∧ (s.host.state = .wakeFailed → ∀ f, s.host.failure = some f → f < b.winStart)
    let asked := fun t : Nat => (∃ b ∈ s.plan.bookings, asks b t) ∨ nextMaintenance s = some t
    let timed : State := { s with host := { s.host with
      wakeExpiry := (computeWake s).1, expiryCause := (computeWake s).2 } }
    ((∀ t, ¬ asked t) → computeWake s = (none, .none))
    ∧ (∀ t, asked t → (∀ t', asked t' → t ≤ t') →
      (∀ before b after, s.plan.bookings = before ++ b :: after → asks b t → (∀ c ∈ before, ¬ asks c t) →
        computeWake s = (some t, .booking b.number))
      ∧ ((∀ b ∈ s.plan.bookings, ¬ asks b t) → computeWake s = (some t, .maint)))
    ∧ (s.host.state ≠ .sleeping → s.host.state ≠ .wakeFailed → recomputeWake s = s)
    ∧ (s.host.state = .sleeping ∨ s.host.state = .wakeFailed → recomputeWake s = { timed with agenda := s.agenda
      ++ (match (computeWake s).1 with
        | some x => if x ≤ s.present then [.wake] else []
        | none => []) })

/-! ### Invariants -/

/-- The state right after power-on without an image is in its bounds and orders, its booking numbers distinct, its wake
outputs, queues and alert table as they must be, its Booking List empty and its tuners without a hold (R178, R186); nothing
waits to be taken at once. That it also has its list in order, its keys apart and its pins and counts right is part of
StepKeepsOrderPinsAndCounts. State.reset stands for a first power-on, with drop address 14 and no image in flash, which is
the model's choice (log entry 1); the agenda is the model's (log entry 6). -/
def Obligations.ResetMeetsTheInvariants : Prop :=
  InBounds State.reset ∧ NumbersOk State.reset ∧ WakeOk State.reset ∧ QueuesOk State.reset ∧ ReportsOk State.reset
    ∧ LevelsOk State.reset ∧ UnsetOk State.reset ∧ State.reset.agenda = []

/-- Every step keeps the tables, the settings, the present and the stored images in their bounds and orders (R1, R12,
R28, R29, R51, R167, section 10.6). Every step keeps at most 240 bookings, no two with one number, and the numbers
and the counter from 1 to 65,535 (R70, R72). -/
def Obligations.StepKeepsTablesAndNumbers : Prop :=
  (∀ s t : State, InBounds s → step s = .next t → InBounds t)
  ∧ (∀ s t : State, NumbersOk s → step s = .next t → NumbersOk t)

/-- Every step keeps the Booking List in its order (R70), the keys of the guide entries apart (R28), every pin count equal to
the number of live bookings that name its entry (R30), the recording count equal to the number of RECORDING bookings (R111),
and one BEGIN waiting for each DUE booking and none besides (R112, R153); and the state after power-on has all of these. -/
def Obligations.StepKeepsOrderPinsAndCounts : Prop :=
  (ListOk State.reset ∧ KeysOk State.reset ∧ PinsOk State.reset ∧ RunsOk State.reset)
  ∧ (∀ s t : State, NumbersOk s → ListOk s → step s = .next t → ListOk t)
  ∧ (∀ s t : State, KeysOk s → step s = .next t → KeysOk t)
  ∧ (∀ s t : State, InBounds s → NumbersOk s → PinsOk s → step s = .next t → PinsOk t)
  ∧ (∀ s t : State, NumbersOk s → RunsOk s → step s = .next t → RunsOk t)

/-- Every step keeps the wake line asserted exactly in WAKING, the wake timer to WAKING, and the wake expiry to SLEEPING and
WAKE_FAILED (R137, R138). -/
def Obligations.StepKeepsTheWakeOutputs : Prop := ∀ s t : State, WakeOk s → step s = .next t → WakeOk t

/-- Every step keeps the queues: at most 24 notices and a lost count of at most 255, at most one notice of each level source and
that only in service, at most one YIELD for each tuner (R154, R156, R162). -/
def Obligations.StepKeepsTheQueues : Prop := ∀ s t : State, QueuesOk s → step s = .next t → QueuesOk t

/-- Every step keeps the alert table true to the guide-full flag, the list-short flag and the image state (R50, R86,
R163, R181). Every step keeps every unmasked level source whose condition is true in service (R162, R164, R165,
R166). -/
def Obligations.StepKeepsTheAlertTable : Prop :=
  (∀ s t : State, ReportsOk s → step s = .next t → ReportsOk t)
  ∧ (∀ s t : State, LevelsOk s → step s = .next t → LevelsOk t)

/-- Every step keeps the Booking List empty and the tuners without a viewer hold while the clock is unset (R88). Every
step leaves no expiry waiting to be taken at once (R1, R90; the agenda is the model's, log entry 6). -/
def Obligations.StepKeepsUnsetEmptyAndSettled : Prop :=
  (∀ s t : State, UnsetOk s → step s = .next t → UnsetOk t)
  ∧ (∀ s t : State, s.agenda = [] → step s = .next t → t.agenda = [])
end

