-- ==== Sys2Proof/Laws/State.lean ====
section
/-! SUPPORT. One lemma per field per update of the state, so that no proof unfolds a record update. -/

namespace Sys2Proof.Machine

variable (s : State)

/-! ### withEntries -/

@[simp] theorem State.withEntries_pending (es : List GuideEntry) : (s.withEntries es).pending = s.pending := rfl
@[simp] theorem State.withEntries_powered (es : List GuideEntry) : (s.withEntries es).powered = s.powered := rfl
@[simp] theorem State.withEntries_resetLow (es : List GuideEntry) : (s.withEntries es).resetLow = s.resetLow := rfl
@[simp] theorem State.withEntries_present (es : List GuideEntry) : (s.withEntries es).present = s.present := rfl
@[simp] theorem State.withEntries_clockSet (es : List GuideEntry) : (s.withEntries es).clockSet = s.clockSet := rfl
@[simp] theorem State.withEntries_settings (es : List GuideEntry) : (s.withEntries es).settings = s.settings := rfl
@[simp] theorem State.withEntries_services (es : List GuideEntry) : (s.withEntries es).services = s.services := rfl
@[simp] theorem State.withEntries_tunerA (es : List GuideEntry) : (s.withEntries es).tunerA = s.tunerA := rfl
@[simp] theorem State.withEntries_tunerB (es : List GuideEntry) : (s.withEntries es).tunerB = s.tunerB := rfl
@[simp] theorem State.withEntries_requests (es : List GuideEntry) : (s.withEntries es).requests = s.requests := rfl
@[simp] theorem State.withEntries_plan (es : List GuideEntry) : (s.withEntries es).plan = s.plan := rfl
@[simp] theorem State.withEntries_run (es : List GuideEntry) : (s.withEntries es).run = s.run := rfl
@[simp] theorem State.withEntries_host (es : List GuideEntry) : (s.withEntries es).host = s.host := rfl
@[simp] theorem State.withEntries_panel (es : List GuideEntry) : (s.withEntries es).panel = s.panel := rfl
@[simp] theorem State.withEntries_outbox (es : List GuideEntry) : (s.withEntries es).outbox = s.outbox := rfl
@[simp] theorem State.withEntries_alerts (es : List GuideEntry) : (s.withEntries es).alerts = s.alerts := rfl
@[simp] theorem State.withEntries_image (es : List GuideEntry) : (s.withEntries es).image = s.image := rfl
@[simp] theorem State.withEntries_line (es : List GuideEntry) : (s.withEntries es).line = s.line := rfl
@[simp] theorem State.withEntries_agenda (es : List GuideEntry) : (s.withEntries es).agenda = s.agenda := rfl

/-! ### withBookings -/

@[simp] theorem State.withBookings_pending (bs : List Booking) : (s.withBookings bs).pending = s.pending := rfl
@[simp] theorem State.withBookings_powered (bs : List Booking) : (s.withBookings bs).powered = s.powered := rfl
@[simp] theorem State.withBookings_resetLow (bs : List Booking) : (s.withBookings bs).resetLow = s.resetLow := rfl
@[simp] theorem State.withBookings_present (bs : List Booking) : (s.withBookings bs).present = s.present := rfl
@[simp] theorem State.withBookings_clockSet (bs : List Booking) : (s.withBookings bs).clockSet = s.clockSet := rfl
@[simp] theorem State.withBookings_settings (bs : List Booking) : (s.withBookings bs).settings = s.settings := rfl
@[simp] theorem State.withBookings_services (bs : List Booking) : (s.withBookings bs).services = s.services := rfl
@[simp] theorem State.withBookings_tunerA (bs : List Booking) : (s.withBookings bs).tunerA = s.tunerA := rfl
@[simp] theorem State.withBookings_tunerB (bs : List Booking) : (s.withBookings bs).tunerB = s.tunerB := rfl
@[simp] theorem State.withBookings_guide (bs : List Booking) : (s.withBookings bs).guide = s.guide := rfl
@[simp] theorem State.withBookings_requests (bs : List Booking) : (s.withBookings bs).requests = s.requests := rfl
@[simp] theorem State.withBookings_run (bs : List Booking) : (s.withBookings bs).run = s.run := rfl
@[simp] theorem State.withBookings_host (bs : List Booking) : (s.withBookings bs).host = s.host := rfl
@[simp] theorem State.withBookings_panel (bs : List Booking) : (s.withBookings bs).panel = s.panel := rfl
@[simp] theorem State.withBookings_outbox (bs : List Booking) : (s.withBookings bs).outbox = s.outbox := rfl
@[simp] theorem State.withBookings_alerts (bs : List Booking) : (s.withBookings bs).alerts = s.alerts := rfl
@[simp] theorem State.withBookings_image (bs : List Booking) : (s.withBookings bs).image = s.image := rfl
@[simp] theorem State.withBookings_line (bs : List Booking) : (s.withBookings bs).line = s.line := rfl
@[simp] theorem State.withBookings_agenda (bs : List Booking) : (s.withBookings bs).agenda = s.agenda := rfl

/-! ### withDirectives -/

@[simp] theorem State.withDirectives_pending (ds : List Directive) : (s.withDirectives ds).pending = s.pending := rfl
@[simp] theorem State.withDirectives_powered (ds : List Directive) : (s.withDirectives ds).powered = s.powered := rfl
@[simp] theorem State.withDirectives_resetLow (ds : List Directive) : (s.withDirectives ds).resetLow = s.resetLow := rfl
@[simp] theorem State.withDirectives_present (ds : List Directive) : (s.withDirectives ds).present = s.present := rfl
@[simp] theorem State.withDirectives_clockSet (ds : List Directive) : (s.withDirectives ds).clockSet = s.clockSet := rfl
@[simp] theorem State.withDirectives_settings (ds : List Directive) : (s.withDirectives ds).settings = s.settings := rfl
@[simp] theorem State.withDirectives_services (ds : List Directive) : (s.withDirectives ds).services = s.services := rfl
@[simp] theorem State.withDirectives_tunerA (ds : List Directive) : (s.withDirectives ds).tunerA = s.tunerA := rfl
@[simp] theorem State.withDirectives_tunerB (ds : List Directive) : (s.withDirectives ds).tunerB = s.tunerB := rfl
@[simp] theorem State.withDirectives_guide (ds : List Directive) : (s.withDirectives ds).guide = s.guide := rfl
@[simp] theorem State.withDirectives_requests (ds : List Directive) : (s.withDirectives ds).requests = s.requests := rfl
@[simp] theorem State.withDirectives_plan (ds : List Directive) : (s.withDirectives ds).plan = s.plan := rfl
@[simp] theorem State.withDirectives_run (ds : List Directive) : (s.withDirectives ds).run = s.run := rfl
@[simp] theorem State.withDirectives_host (ds : List Directive) : (s.withDirectives ds).host = s.host := rfl
@[simp] theorem State.withDirectives_panel (ds : List Directive) : (s.withDirectives ds).panel = s.panel := rfl
@[simp] theorem State.withDirectives_alerts (ds : List Directive) : (s.withDirectives ds).alerts = s.alerts := rfl
@[simp] theorem State.withDirectives_image (ds : List Directive) : (s.withDirectives ds).image = s.image := rfl
@[simp] theorem State.withDirectives_line (ds : List Directive) : (s.withDirectives ds).line = s.line := rfl
@[simp] theorem State.withDirectives_agenda (ds : List Directive) : (s.withDirectives ds).agenda = s.agenda := rfl

/-! ### mapEntry -/

@[simp] theorem State.mapEntry_pending (n : Nat) (f : GuideEntry → GuideEntry) : (s.mapEntry n f).pending = s.pending := rfl
@[simp] theorem State.mapEntry_powered (n : Nat) (f : GuideEntry → GuideEntry) : (s.mapEntry n f).powered = s.powered := rfl
@[simp] theorem State.mapEntry_resetLow (n : Nat) (f : GuideEntry → GuideEntry) : (s.mapEntry n f).resetLow = s.resetLow := rfl
@[simp] theorem State.mapEntry_present (n : Nat) (f : GuideEntry → GuideEntry) : (s.mapEntry n f).present = s.present := rfl
@[simp] theorem State.mapEntry_clockSet (n : Nat) (f : GuideEntry → GuideEntry) : (s.mapEntry n f).clockSet = s.clockSet := rfl
@[simp] theorem State.mapEntry_settings (n : Nat) (f : GuideEntry → GuideEntry) : (s.mapEntry n f).settings = s.settings := rfl
@[simp] theorem State.mapEntry_services (n : Nat) (f : GuideEntry → GuideEntry) : (s.mapEntry n f).services = s.services := rfl
@[simp] theorem State.mapEntry_tunerA (n : Nat) (f : GuideEntry → GuideEntry) : (s.mapEntry n f).tunerA = s.tunerA := rfl
@[simp] theorem State.mapEntry_tunerB (n : Nat) (f : GuideEntry → GuideEntry) : (s.mapEntry n f).tunerB = s.tunerB := rfl
@[simp] theorem State.mapEntry_requests (n : Nat) (f : GuideEntry → GuideEntry) : (s.mapEntry n f).requests = s.requests := rfl
@[simp] theorem State.mapEntry_plan (n : Nat) (f : GuideEntry → GuideEntry) : (s.mapEntry n f).plan = s.plan := rfl
@[simp] theorem State.mapEntry_run (n : Nat) (f : GuideEntry → GuideEntry) : (s.mapEntry n f).run = s.run := rfl
@[simp] theorem State.mapEntry_host (n : Nat) (f : GuideEntry → GuideEntry) : (s.mapEntry n f).host = s.host := rfl
@[simp] theorem State.mapEntry_panel (n : Nat) (f : GuideEntry → GuideEntry) : (s.mapEntry n f).panel = s.panel := rfl
@[simp] theorem State.mapEntry_outbox (n : Nat) (f : GuideEntry → GuideEntry) : (s.mapEntry n f).outbox = s.outbox := rfl
@[simp] theorem State.mapEntry_alerts (n : Nat) (f : GuideEntry → GuideEntry) : (s.mapEntry n f).alerts = s.alerts := rfl
@[simp] theorem State.mapEntry_image (n : Nat) (f : GuideEntry → GuideEntry) : (s.mapEntry n f).image = s.image := rfl
@[simp] theorem State.mapEntry_line (n : Nat) (f : GuideEntry → GuideEntry) : (s.mapEntry n f).line = s.line := rfl
@[simp] theorem State.mapEntry_agenda (n : Nat) (f : GuideEntry → GuideEntry) : (s.mapEntry n f).agenda = s.agenda := rfl

/-! ### mapBooking -/

@[simp] theorem State.mapBooking_pending (n : Nat) (f : Booking → Booking) : (s.mapBooking n f).pending = s.pending := rfl
@[simp] theorem State.mapBooking_powered (n : Nat) (f : Booking → Booking) : (s.mapBooking n f).powered = s.powered := rfl
@[simp] theorem State.mapBooking_resetLow (n : Nat) (f : Booking → Booking) : (s.mapBooking n f).resetLow = s.resetLow := rfl
@[simp] theorem State.mapBooking_present (n : Nat) (f : Booking → Booking) : (s.mapBooking n f).present = s.present := rfl
@[simp] theorem State.mapBooking_clockSet (n : Nat) (f : Booking → Booking) : (s.mapBooking n f).clockSet = s.clockSet := rfl
@[simp] theorem State.mapBooking_settings (n : Nat) (f : Booking → Booking) : (s.mapBooking n f).settings = s.settings := rfl
@[simp] theorem State.mapBooking_services (n : Nat) (f : Booking → Booking) : (s.mapBooking n f).services = s.services := rfl
@[simp] theorem State.mapBooking_tunerA (n : Nat) (f : Booking → Booking) : (s.mapBooking n f).tunerA = s.tunerA := rfl
@[simp] theorem State.mapBooking_tunerB (n : Nat) (f : Booking → Booking) : (s.mapBooking n f).tunerB = s.tunerB := rfl
@[simp] theorem State.mapBooking_guide (n : Nat) (f : Booking → Booking) : (s.mapBooking n f).guide = s.guide := rfl
@[simp] theorem State.mapBooking_requests (n : Nat) (f : Booking → Booking) : (s.mapBooking n f).requests = s.requests := rfl
@[simp] theorem State.mapBooking_run (n : Nat) (f : Booking → Booking) : (s.mapBooking n f).run = s.run := rfl
@[simp] theorem State.mapBooking_host (n : Nat) (f : Booking → Booking) : (s.mapBooking n f).host = s.host := rfl
@[simp] theorem State.mapBooking_panel (n : Nat) (f : Booking → Booking) : (s.mapBooking n f).panel = s.panel := rfl
@[simp] theorem State.mapBooking_outbox (n : Nat) (f : Booking → Booking) : (s.mapBooking n f).outbox = s.outbox := rfl
@[simp] theorem State.mapBooking_alerts (n : Nat) (f : Booking → Booking) : (s.mapBooking n f).alerts = s.alerts := rfl
@[simp] theorem State.mapBooking_image (n : Nat) (f : Booking → Booking) : (s.mapBooking n f).image = s.image := rfl
@[simp] theorem State.mapBooking_line (n : Nat) (f : Booking → Booking) : (s.mapBooking n f).line = s.line := rfl
@[simp] theorem State.mapBooking_agenda (n : Nat) (f : Booking → Booking) : (s.mapBooking n f).agenda = s.agenda := rfl

/-! ### mapRequest -/

@[simp] theorem State.mapRequest_pending (n : Nat) (f : Request → Request) : (s.mapRequest n f).pending = s.pending := rfl
@[simp] theorem State.mapRequest_powered (n : Nat) (f : Request → Request) : (s.mapRequest n f).powered = s.powered := rfl
@[simp] theorem State.mapRequest_resetLow (n : Nat) (f : Request → Request) : (s.mapRequest n f).resetLow = s.resetLow := rfl
@[simp] theorem State.mapRequest_present (n : Nat) (f : Request → Request) : (s.mapRequest n f).present = s.present := rfl
@[simp] theorem State.mapRequest_clockSet (n : Nat) (f : Request → Request) : (s.mapRequest n f).clockSet = s.clockSet := rfl
@[simp] theorem State.mapRequest_settings (n : Nat) (f : Request → Request) : (s.mapRequest n f).settings = s.settings := rfl
@[simp] theorem State.mapRequest_services (n : Nat) (f : Request → Request) : (s.mapRequest n f).services = s.services := rfl
@[simp] theorem State.mapRequest_tunerA (n : Nat) (f : Request → Request) : (s.mapRequest n f).tunerA = s.tunerA := rfl
@[simp] theorem State.mapRequest_tunerB (n : Nat) (f : Request → Request) : (s.mapRequest n f).tunerB = s.tunerB := rfl
@[simp] theorem State.mapRequest_guide (n : Nat) (f : Request → Request) : (s.mapRequest n f).guide = s.guide := rfl
@[simp] theorem State.mapRequest_plan (n : Nat) (f : Request → Request) : (s.mapRequest n f).plan = s.plan := rfl
@[simp] theorem State.mapRequest_run (n : Nat) (f : Request → Request) : (s.mapRequest n f).run = s.run := rfl
@[simp] theorem State.mapRequest_host (n : Nat) (f : Request → Request) : (s.mapRequest n f).host = s.host := rfl
@[simp] theorem State.mapRequest_panel (n : Nat) (f : Request → Request) : (s.mapRequest n f).panel = s.panel := rfl
@[simp] theorem State.mapRequest_outbox (n : Nat) (f : Request → Request) : (s.mapRequest n f).outbox = s.outbox := rfl
@[simp] theorem State.mapRequest_alerts (n : Nat) (f : Request → Request) : (s.mapRequest n f).alerts = s.alerts := rfl
@[simp] theorem State.mapRequest_image (n : Nat) (f : Request → Request) : (s.mapRequest n f).image = s.image := rfl
@[simp] theorem State.mapRequest_line (n : Nat) (f : Request → Request) : (s.mapRequest n f).line = s.line := rfl
@[simp] theorem State.mapRequest_agenda (n : Nat) (f : Request → Request) : (s.mapRequest n f).agenda = s.agenda := rfl

/-! ### queueDirective -/

@[simp] theorem State.queueDirective_pending (d : Directive) : (s.queueDirective d).pending = s.pending := rfl
@[simp] theorem State.queueDirective_powered (d : Directive) : (s.queueDirective d).powered = s.powered := rfl
@[simp] theorem State.queueDirective_resetLow (d : Directive) : (s.queueDirective d).resetLow = s.resetLow := rfl
@[simp] theorem State.queueDirective_present (d : Directive) : (s.queueDirective d).present = s.present := rfl
@[simp] theorem State.queueDirective_clockSet (d : Directive) : (s.queueDirective d).clockSet = s.clockSet := rfl
@[simp] theorem State.queueDirective_settings (d : Directive) : (s.queueDirective d).settings = s.settings := rfl
@[simp] theorem State.queueDirective_services (d : Directive) : (s.queueDirective d).services = s.services := rfl
@[simp] theorem State.queueDirective_tunerA (d : Directive) : (s.queueDirective d).tunerA = s.tunerA := rfl
@[simp] theorem State.queueDirective_tunerB (d : Directive) : (s.queueDirective d).tunerB = s.tunerB := rfl
@[simp] theorem State.queueDirective_guide (d : Directive) : (s.queueDirective d).guide = s.guide := rfl
@[simp] theorem State.queueDirective_requests (d : Directive) : (s.queueDirective d).requests = s.requests := rfl
@[simp] theorem State.queueDirective_plan (d : Directive) : (s.queueDirective d).plan = s.plan := rfl
@[simp] theorem State.queueDirective_run (d : Directive) : (s.queueDirective d).run = s.run := rfl
@[simp] theorem State.queueDirective_host (d : Directive) : (s.queueDirective d).host = s.host := rfl
@[simp] theorem State.queueDirective_panel (d : Directive) : (s.queueDirective d).panel = s.panel := rfl
@[simp] theorem State.queueDirective_alerts (d : Directive) : (s.queueDirective d).alerts = s.alerts := rfl
@[simp] theorem State.queueDirective_image (d : Directive) : (s.queueDirective d).image = s.image := rfl
@[simp] theorem State.queueDirective_line (d : Directive) : (s.queueDirective d).line = s.line := rfl
@[simp] theorem State.queueDirective_agenda (d : Directive) : (s.queueDirective d).agenda = s.agenda := rfl

/-! ### withdrawBegin -/

@[simp] theorem State.withdrawBegin_pending (n : Nat) : (s.withdrawBegin n).pending = s.pending := rfl
@[simp] theorem State.withdrawBegin_powered (n : Nat) : (s.withdrawBegin n).powered = s.powered := rfl
@[simp] theorem State.withdrawBegin_resetLow (n : Nat) : (s.withdrawBegin n).resetLow = s.resetLow := rfl
@[simp] theorem State.withdrawBegin_present (n : Nat) : (s.withdrawBegin n).present = s.present := rfl
@[simp] theorem State.withdrawBegin_clockSet (n : Nat) : (s.withdrawBegin n).clockSet = s.clockSet := rfl
@[simp] theorem State.withdrawBegin_settings (n : Nat) : (s.withdrawBegin n).settings = s.settings := rfl
@[simp] theorem State.withdrawBegin_services (n : Nat) : (s.withdrawBegin n).services = s.services := rfl
@[simp] theorem State.withdrawBegin_tunerA (n : Nat) : (s.withdrawBegin n).tunerA = s.tunerA := rfl
@[simp] theorem State.withdrawBegin_tunerB (n : Nat) : (s.withdrawBegin n).tunerB = s.tunerB := rfl
@[simp] theorem State.withdrawBegin_guide (n : Nat) : (s.withdrawBegin n).guide = s.guide := rfl
@[simp] theorem State.withdrawBegin_requests (n : Nat) : (s.withdrawBegin n).requests = s.requests := rfl
@[simp] theorem State.withdrawBegin_plan (n : Nat) : (s.withdrawBegin n).plan = s.plan := rfl
@[simp] theorem State.withdrawBegin_run (n : Nat) : (s.withdrawBegin n).run = s.run := rfl
@[simp] theorem State.withdrawBegin_host (n : Nat) : (s.withdrawBegin n).host = s.host := rfl
@[simp] theorem State.withdrawBegin_panel (n : Nat) : (s.withdrawBegin n).panel = s.panel := rfl
@[simp] theorem State.withdrawBegin_alerts (n : Nat) : (s.withdrawBegin n).alerts = s.alerts := rfl
@[simp] theorem State.withdrawBegin_image (n : Nat) : (s.withdrawBegin n).image = s.image := rfl
@[simp] theorem State.withdrawBegin_line (n : Nat) : (s.withdrawBegin n).line = s.line := rfl
@[simp] theorem State.withdrawBegin_agenda (n : Nat) : (s.withdrawBegin n).agenda = s.agenda := rfl

/-! ### queueYield -/

@[simp] theorem State.queueYield_pending (t : TunerId) (n : Nat) : (s.queueYield t n).pending = s.pending := rfl
@[simp] theorem State.queueYield_powered (t : TunerId) (n : Nat) : (s.queueYield t n).powered = s.powered := rfl
@[simp] theorem State.queueYield_resetLow (t : TunerId) (n : Nat) : (s.queueYield t n).resetLow = s.resetLow := rfl
@[simp] theorem State.queueYield_present (t : TunerId) (n : Nat) : (s.queueYield t n).present = s.present := rfl
@[simp] theorem State.queueYield_clockSet (t : TunerId) (n : Nat) : (s.queueYield t n).clockSet = s.clockSet := rfl
@[simp] theorem State.queueYield_settings (t : TunerId) (n : Nat) : (s.queueYield t n).settings = s.settings := rfl
@[simp] theorem State.queueYield_services (t : TunerId) (n : Nat) : (s.queueYield t n).services = s.services := rfl
@[simp] theorem State.queueYield_tunerA (t : TunerId) (n : Nat) : (s.queueYield t n).tunerA = s.tunerA := rfl
@[simp] theorem State.queueYield_tunerB (t : TunerId) (n : Nat) : (s.queueYield t n).tunerB = s.tunerB := rfl
@[simp] theorem State.queueYield_guide (t : TunerId) (n : Nat) : (s.queueYield t n).guide = s.guide := rfl
@[simp] theorem State.queueYield_requests (t : TunerId) (n : Nat) : (s.queueYield t n).requests = s.requests := rfl
@[simp] theorem State.queueYield_plan (t : TunerId) (n : Nat) : (s.queueYield t n).plan = s.plan := rfl
@[simp] theorem State.queueYield_run (t : TunerId) (n : Nat) : (s.queueYield t n).run = s.run := rfl
@[simp] theorem State.queueYield_host (t : TunerId) (n : Nat) : (s.queueYield t n).host = s.host := rfl
@[simp] theorem State.queueYield_panel (t : TunerId) (n : Nat) : (s.queueYield t n).panel = s.panel := rfl
@[simp] theorem State.queueYield_alerts (t : TunerId) (n : Nat) : (s.queueYield t n).alerts = s.alerts := rfl
@[simp] theorem State.queueYield_image (t : TunerId) (n : Nat) : (s.queueYield t n).image = s.image := rfl
@[simp] theorem State.queueYield_line (t : TunerId) (n : Nat) : (s.queueYield t n).line = s.line := rfl
@[simp] theorem State.queueYield_agenda (t : TunerId) (n : Nat) : (s.queueYield t n).agenda = s.agenda := rfl

/-! ### removeRequest -/

@[simp] theorem State.removeRequest_pending (n : Nat) : (s.removeRequest n).pending = s.pending := rfl
@[simp] theorem State.removeRequest_powered (n : Nat) : (s.removeRequest n).powered = s.powered := rfl
@[simp] theorem State.removeRequest_resetLow (n : Nat) : (s.removeRequest n).resetLow = s.resetLow := rfl
@[simp] theorem State.removeRequest_present (n : Nat) : (s.removeRequest n).present = s.present := rfl
@[simp] theorem State.removeRequest_clockSet (n : Nat) : (s.removeRequest n).clockSet = s.clockSet := rfl
@[simp] theorem State.removeRequest_settings (n : Nat) : (s.removeRequest n).settings = s.settings := rfl
@[simp] theorem State.removeRequest_services (n : Nat) : (s.removeRequest n).services = s.services := rfl
@[simp] theorem State.removeRequest_tunerA (n : Nat) : (s.removeRequest n).tunerA = s.tunerA := rfl
@[simp] theorem State.removeRequest_tunerB (n : Nat) : (s.removeRequest n).tunerB = s.tunerB := rfl
@[simp] theorem State.removeRequest_plan (n : Nat) : (s.removeRequest n).plan = s.plan := rfl
@[simp] theorem State.removeRequest_run (n : Nat) : (s.removeRequest n).run = s.run := rfl
@[simp] theorem State.removeRequest_host (n : Nat) : (s.removeRequest n).host = s.host := rfl
@[simp] theorem State.removeRequest_panel (n : Nat) : (s.removeRequest n).panel = s.panel := rfl
@[simp] theorem State.removeRequest_outbox (n : Nat) : (s.removeRequest n).outbox = s.outbox := rfl
@[simp] theorem State.removeRequest_alerts (n : Nat) : (s.removeRequest n).alerts = s.alerts := rfl
@[simp] theorem State.removeRequest_image (n : Nat) : (s.removeRequest n).image = s.image := rfl
@[simp] theorem State.removeRequest_line (n : Nat) : (s.removeRequest n).line = s.line := rfl
@[simp] theorem State.removeRequest_agenda (n : Nat) : (s.removeRequest n).agenda = s.agenda := rfl

/-! ### setClock -/

@[simp] theorem State.setClock_pending (v : Nat) : (s.setClock v).pending = s.pending := rfl
@[simp] theorem State.setClock_powered (v : Nat) : (s.setClock v).powered = s.powered := rfl
@[simp] theorem State.setClock_resetLow (v : Nat) : (s.setClock v).resetLow = s.resetLow := rfl
@[simp] theorem State.setClock_settings (v : Nat) : (s.setClock v).settings = s.settings := rfl
@[simp] theorem State.setClock_services (v : Nat) : (s.setClock v).services = s.services := rfl
@[simp] theorem State.setClock_tunerA (v : Nat) : (s.setClock v).tunerA = s.tunerA := rfl
@[simp] theorem State.setClock_tunerB (v : Nat) : (s.setClock v).tunerB = s.tunerB := rfl
@[simp] theorem State.setClock_guide (v : Nat) : (s.setClock v).guide = s.guide := rfl
@[simp] theorem State.setClock_requests (v : Nat) : (s.setClock v).requests = s.requests := rfl
@[simp] theorem State.setClock_plan (v : Nat) : (s.setClock v).plan = s.plan := rfl
@[simp] theorem State.setClock_run (v : Nat) : (s.setClock v).run = s.run := rfl
@[simp] theorem State.setClock_host (v : Nat) : (s.setClock v).host = s.host := rfl
@[simp] theorem State.setClock_panel (v : Nat) : (s.setClock v).panel = s.panel := rfl
@[simp] theorem State.setClock_outbox (v : Nat) : (s.setClock v).outbox = s.outbox := rfl
@[simp] theorem State.setClock_alerts (v : Nat) : (s.setClock v).alerts = s.alerts := rfl
@[simp] theorem State.setClock_image (v : Nat) : (s.setClock v).image = s.image := rfl
@[simp] theorem State.setClock_line (v : Nat) : (s.setClock v).line = s.line := rfl
@[simp] theorem State.setClock_agenda (v : Nat) : (s.setClock v).agenda = s.agenda := rfl

/-! ### insertService -/

@[simp] theorem State.insertService_pending (v : Service) : (s.insertService v).pending = s.pending := rfl
@[simp] theorem State.insertService_powered (v : Service) : (s.insertService v).powered = s.powered := rfl
@[simp] theorem State.insertService_resetLow (v : Service) : (s.insertService v).resetLow = s.resetLow := rfl
@[simp] theorem State.insertService_present (v : Service) : (s.insertService v).present = s.present := rfl
@[simp] theorem State.insertService_clockSet (v : Service) : (s.insertService v).clockSet = s.clockSet := rfl
@[simp] theorem State.insertService_settings (v : Service) : (s.insertService v).settings = s.settings := rfl
@[simp] theorem State.insertService_tunerA (v : Service) : (s.insertService v).tunerA = s.tunerA := rfl
@[simp] theorem State.insertService_tunerB (v : Service) : (s.insertService v).tunerB = s.tunerB := rfl
@[simp] theorem State.insertService_guide (v : Service) : (s.insertService v).guide = s.guide := rfl
@[simp] theorem State.insertService_requests (v : Service) : (s.insertService v).requests = s.requests := rfl
@[simp] theorem State.insertService_plan (v : Service) : (s.insertService v).plan = s.plan := rfl
@[simp] theorem State.insertService_run (v : Service) : (s.insertService v).run = s.run := rfl
@[simp] theorem State.insertService_host (v : Service) : (s.insertService v).host = s.host := rfl
@[simp] theorem State.insertService_panel (v : Service) : (s.insertService v).panel = s.panel := rfl
@[simp] theorem State.insertService_outbox (v : Service) : (s.insertService v).outbox = s.outbox := rfl
@[simp] theorem State.insertService_alerts (v : Service) : (s.insertService v).alerts = s.alerts := rfl
@[simp] theorem State.insertService_image (v : Service) : (s.insertService v).image = s.image := rfl
@[simp] theorem State.insertService_line (v : Service) : (s.insertService v).line = s.line := rfl
@[simp] theorem State.insertService_agenda (v : Service) : (s.insertService v).agenda = s.agenda := rfl

/-! ### insertRequest -/

@[simp] theorem State.insertRequest_pending (r : Request) : (s.insertRequest r).pending = s.pending := rfl
@[simp] theorem State.insertRequest_powered (r : Request) : (s.insertRequest r).powered = s.powered := rfl
@[simp] theorem State.insertRequest_resetLow (r : Request) : (s.insertRequest r).resetLow = s.resetLow := rfl
@[simp] theorem State.insertRequest_present (r : Request) : (s.insertRequest r).present = s.present := rfl
@[simp] theorem State.insertRequest_clockSet (r : Request) : (s.insertRequest r).clockSet = s.clockSet := rfl
@[simp] theorem State.insertRequest_settings (r : Request) : (s.insertRequest r).settings = s.settings := rfl
@[simp] theorem State.insertRequest_services (r : Request) : (s.insertRequest r).services = s.services := rfl
@[simp] theorem State.insertRequest_tunerA (r : Request) : (s.insertRequest r).tunerA = s.tunerA := rfl
@[simp] theorem State.insertRequest_tunerB (r : Request) : (s.insertRequest r).tunerB = s.tunerB := rfl
@[simp] theorem State.insertRequest_guide (r : Request) : (s.insertRequest r).guide = s.guide := rfl
@[simp] theorem State.insertRequest_plan (r : Request) : (s.insertRequest r).plan = s.plan := rfl
@[simp] theorem State.insertRequest_run (r : Request) : (s.insertRequest r).run = s.run := rfl
@[simp] theorem State.insertRequest_host (r : Request) : (s.insertRequest r).host = s.host := rfl
@[simp] theorem State.insertRequest_panel (r : Request) : (s.insertRequest r).panel = s.panel := rfl
@[simp] theorem State.insertRequest_outbox (r : Request) : (s.insertRequest r).outbox = s.outbox := rfl
@[simp] theorem State.insertRequest_alerts (r : Request) : (s.insertRequest r).alerts = s.alerts := rfl
@[simp] theorem State.insertRequest_image (r : Request) : (s.insertRequest r).image = s.image := rfl
@[simp] theorem State.insertRequest_line (r : Request) : (s.insertRequest r).line = s.line := rfl
@[simp] theorem State.insertRequest_agenda (r : Request) : (s.insertRequest r).agenda = s.agenda := rfl

/-! ### setAttn -/

@[simp] theorem State.setAttn_pending (v : Bool) : (s.setAttn v).pending = s.pending := rfl
@[simp] theorem State.setAttn_powered (v : Bool) : (s.setAttn v).powered = s.powered := rfl
@[simp] theorem State.setAttn_resetLow (v : Bool) : (s.setAttn v).resetLow = s.resetLow := rfl
@[simp] theorem State.setAttn_present (v : Bool) : (s.setAttn v).present = s.present := rfl
@[simp] theorem State.setAttn_clockSet (v : Bool) : (s.setAttn v).clockSet = s.clockSet := rfl
@[simp] theorem State.setAttn_settings (v : Bool) : (s.setAttn v).settings = s.settings := rfl
@[simp] theorem State.setAttn_services (v : Bool) : (s.setAttn v).services = s.services := rfl
@[simp] theorem State.setAttn_tunerA (v : Bool) : (s.setAttn v).tunerA = s.tunerA := rfl
@[simp] theorem State.setAttn_tunerB (v : Bool) : (s.setAttn v).tunerB = s.tunerB := rfl
@[simp] theorem State.setAttn_guide (v : Bool) : (s.setAttn v).guide = s.guide := rfl
@[simp] theorem State.setAttn_requests (v : Bool) : (s.setAttn v).requests = s.requests := rfl
@[simp] theorem State.setAttn_plan (v : Bool) : (s.setAttn v).plan = s.plan := rfl
@[simp] theorem State.setAttn_run (v : Bool) : (s.setAttn v).run = s.run := rfl
@[simp] theorem State.setAttn_host (v : Bool) : (s.setAttn v).host = s.host := rfl
@[simp] theorem State.setAttn_panel (v : Bool) : (s.setAttn v).panel = s.panel := rfl
@[simp] theorem State.setAttn_alerts (v : Bool) : (s.setAttn v).alerts = s.alerts := rfl
@[simp] theorem State.setAttn_image (v : Bool) : (s.setAttn v).image = s.image := rfl
@[simp] theorem State.setAttn_line (v : Bool) : (s.setAttn v).line = s.line := rfl
@[simp] theorem State.setAttn_agenda (v : Bool) : (s.setAttn v).agenda = s.agenda := rfl

/-! ### setMask -/

@[simp] theorem State.setMask_pending (x : Source) (v : Bool) : (s.setMask x v).pending = s.pending := rfl
@[simp] theorem State.setMask_powered (x : Source) (v : Bool) : (s.setMask x v).powered = s.powered := rfl
@[simp] theorem State.setMask_resetLow (x : Source) (v : Bool) : (s.setMask x v).resetLow = s.resetLow := rfl
@[simp] theorem State.setMask_present (x : Source) (v : Bool) : (s.setMask x v).present = s.present := rfl
@[simp] theorem State.setMask_clockSet (x : Source) (v : Bool) : (s.setMask x v).clockSet = s.clockSet := rfl
@[simp] theorem State.setMask_settings (x : Source) (v : Bool) : (s.setMask x v).settings = s.settings := rfl
@[simp] theorem State.setMask_services (x : Source) (v : Bool) : (s.setMask x v).services = s.services := rfl
@[simp] theorem State.setMask_tunerA (x : Source) (v : Bool) : (s.setMask x v).tunerA = s.tunerA := rfl
@[simp] theorem State.setMask_tunerB (x : Source) (v : Bool) : (s.setMask x v).tunerB = s.tunerB := rfl
@[simp] theorem State.setMask_guide (x : Source) (v : Bool) : (s.setMask x v).guide = s.guide := rfl
@[simp] theorem State.setMask_requests (x : Source) (v : Bool) : (s.setMask x v).requests = s.requests := rfl
@[simp] theorem State.setMask_plan (x : Source) (v : Bool) : (s.setMask x v).plan = s.plan := rfl
@[simp] theorem State.setMask_run (x : Source) (v : Bool) : (s.setMask x v).run = s.run := rfl
@[simp] theorem State.setMask_host (x : Source) (v : Bool) : (s.setMask x v).host = s.host := rfl
@[simp] theorem State.setMask_panel (x : Source) (v : Bool) : (s.setMask x v).panel = s.panel := rfl
@[simp] theorem State.setMask_outbox (x : Source) (v : Bool) : (s.setMask x v).outbox = s.outbox := rfl
@[simp] theorem State.setMask_image (x : Source) (v : Bool) : (s.setMask x v).image = s.image := rfl
@[simp] theorem State.setMask_line (x : Source) (v : Bool) : (s.setMask x v).line = s.line := rfl
@[simp] theorem State.setMask_agenda (x : Source) (v : Bool) : (s.setMask x v).agenda = s.agenda := rfl

/-! ### stage -/

@[simp] theorem State.stage_pending (t : Trigger) (x : Staged) : (s.stage t x).pending = s.pending := rfl
@[simp] theorem State.stage_powered (t : Trigger) (x : Staged) : (s.stage t x).powered = s.powered := rfl
@[simp] theorem State.stage_resetLow (t : Trigger) (x : Staged) : (s.stage t x).resetLow = s.resetLow := rfl
@[simp] theorem State.stage_present (t : Trigger) (x : Staged) : (s.stage t x).present = s.present := rfl
@[simp] theorem State.stage_clockSet (t : Trigger) (x : Staged) : (s.stage t x).clockSet = s.clockSet := rfl
@[simp] theorem State.stage_settings (t : Trigger) (x : Staged) : (s.stage t x).settings = s.settings := rfl
@[simp] theorem State.stage_services (t : Trigger) (x : Staged) : (s.stage t x).services = s.services := rfl
@[simp] theorem State.stage_tunerA (t : Trigger) (x : Staged) : (s.stage t x).tunerA = s.tunerA := rfl
@[simp] theorem State.stage_tunerB (t : Trigger) (x : Staged) : (s.stage t x).tunerB = s.tunerB := rfl
@[simp] theorem State.stage_guide (t : Trigger) (x : Staged) : (s.stage t x).guide = s.guide := rfl
@[simp] theorem State.stage_requests (t : Trigger) (x : Staged) : (s.stage t x).requests = s.requests := rfl
@[simp] theorem State.stage_plan (t : Trigger) (x : Staged) : (s.stage t x).plan = s.plan := rfl
@[simp] theorem State.stage_run (t : Trigger) (x : Staged) : (s.stage t x).run = s.run := rfl
@[simp] theorem State.stage_host (t : Trigger) (x : Staged) : (s.stage t x).host = s.host := rfl
@[simp] theorem State.stage_outbox (t : Trigger) (x : Staged) : (s.stage t x).outbox = s.outbox := rfl
@[simp] theorem State.stage_alerts (t : Trigger) (x : Staged) : (s.stage t x).alerts = s.alerts := rfl
@[simp] theorem State.stage_image (t : Trigger) (x : Staged) : (s.stage t x).image = s.image := rfl
@[simp] theorem State.stage_line (t : Trigger) (x : Staged) : (s.stage t x).line = s.line := rfl
@[simp] theorem State.stage_agenda (t : Trigger) (x : Staged) : (s.stage t x).agenda = s.agenda := rfl

/-! ### The fields the updates write -/

@[simp] theorem State.withEntries_entries (es : List GuideEntry) : (s.withEntries es).guide.entries = es := rfl
@[simp] theorem State.withBookings_bookings (bs : List Booking) : (s.withBookings bs).plan.bookings = bs := rfl
@[simp] theorem State.withDirectives_directives (ds : List Directive) :
    (s.withDirectives ds).outbox.directives = ds := rfl
@[simp] theorem State.withDirectives_notices (ds : List Directive) :
    (s.withDirectives ds).outbox.notices = s.outbox.notices := rfl
@[simp] theorem State.withDirectives_lost (ds : List Directive) :
    (s.withDirectives ds).outbox.lost = s.outbox.lost := rfl
@[simp] theorem State.withDirectives_attn (ds : List Directive) :
    (s.withDirectives ds).outbox.attnEnable = s.outbox.attnEnable := rfl
@[simp] theorem State.withEntries_stream (es : List GuideEntry) : (s.withEntries es).guide.stream = s.guide.stream := rfl
@[simp] theorem State.withBookings_freeSpace (bs : List Booking) :
    (s.withBookings bs).plan.freeSpace = s.plan.freeSpace := rfl
@[simp] theorem State.withBookings_counter (bs : List Booking) :
    (s.withBookings bs).plan.counter = s.plan.counter := rfl
@[simp] theorem State.setClock_present (v : Nat) : (s.setClock v).present = v := rfl
@[simp] theorem State.setClock_clockSet (v : Nat) : (s.setClock v).clockSet = true := rfl
@[simp] theorem State.tuner_a : s.tuner .a = s.tunerA := rfl
@[simp] theorem State.tuner_b : s.tuner .b = s.tunerB := rfl
@[simp] theorem State.withTuner_a (x : Tuner) : s.withTuner .a x = { s with tunerA := x } := rfl
@[simp] theorem State.withTuner_b (x : Tuner) : s.withTuner .b x = { s with tunerB := x } := rfl

end Sys2Proof.Machine
end

