-- ==== Sys2Proof/Laws/Works.lean ====
section
/-! SUPPORT. What the part's own work can do, said once: `Works s t` collects what holds of a state `t` that derivations, plan
passes, finishes, scans and expiries taken at once have made of `s`. One lemma per shared operation says that the operation
works. -/

namespace Sys2Proof.Machine

/-- What the part's own work keeps and bounds. -/
structure Works (s t : State) : Prop where
  standing : t.standing = s.standing := by rfl
  slots : (t.guide.entries.map GuideEntry.slot).Sublist (s.guide.entries.map GuideEntry.slot) := by
    exact List.Sublist.refl _
  requests : (t.requests.map Request.number).Sublist (s.requests.map Request.number) := by exact List.Sublist.refl _
  unset : s.clockSet = true ∨ t.plan.bookings.length ≤ s.plan.bookings.length := by exact Or.inr (Nat.le_refl _)
  numbers : NumbersOk s → NumbersOk t := by exact fun h => ⟨h.1, h.2, h.3, h.4⟩
  flash : t.image.flash = s.image.flash := by rfl
  capture : t.image.capture = s.image.capture ∨ t.image.capture = none := by exact Or.inl rfl
  holdA : t.tunerA.hold.isSome = true → s.tunerA.hold.isSome = true := by exact id
  holdB : t.tunerB.hold.isSome = true → s.tunerB.hold.isSome = true := by exact id
  wake : WakeOk s → WakeOk t := by exact fun h => ⟨h.1, h.2, h.3⟩
  awake : s.host.state = .awake → t.host = s.host := by exact fun _ => rfl
  notAwake : s.host.state ≠ .awake → t.host.state ≠ .awake := by exact id
  queues : QueuesOk s → QueuesOk t := by exact fun h => ⟨h.1, h.2, h.3, h.4⟩
  reports : ReportsOk s → ReportsOk t := by exact fun h => ⟨h.1, h.2, h.3⟩
  levels : LevelsOk s → LevelsOk t := by exact fun h => h
  saving : s.saving = false → t.saving = false := by exact id
  notCurrent : s.image.state ≠ .current → t.image.state ≠ .current := by exact id
  failed : s.image.state = .failed → t.image = s.image := by exact fun _ => rfl
  scan : ∀ x, s.guide.nextScan = some x → s.present < x →
    t.guide.nextScan = some x ∨ t.guide.nextScan = some (s.present + Config.scanInterval) := by
    exact fun _ h _ => Or.inl h

namespace Works

theorem refl (s : State) : Works s s := {}

theorem present {s t : State} (h : Works s t) : t.present = s.present := congrArg Standing.present h.standing
theorem clockSet {s t : State} (h : Works s t) : t.clockSet = s.clockSet := congrArg Standing.clockSet h.standing
theorem settings {s t : State} (h : Works s t) : t.settings = s.settings := congrArg Standing.settings h.standing
theorem services {s t : State} (h : Works s t) : t.services = s.services := congrArg Standing.services h.standing
theorem stream {s t : State} (h : Works s t) : t.guide.stream = s.guide.stream := congrArg Standing.stream h.standing
theorem masks {s t : State} (h : Works s t) : t.alerts.masks = s.alerts.masks := congrArg Standing.masks h.standing
theorem line {s t : State} (h : Works s t) : t.line = s.line := congrArg Standing.line h.standing
theorem pending {s t : State} (h : Works s t) : t.pending = s.pending := congrArg Standing.pending h.standing
theorem running {s t : State} (h : Works s t) : t.running = s.running := by
  have a : t.powered = s.powered := congrArg Standing.powered h.standing
  have b : t.resetLow = s.resetLow := congrArg Standing.resetLow h.standing
  simp [State.running, a, b]

theorem trans {s t u : State} (h : Works s t) (k : Works t u) : Works s u where
  standing := k.standing.trans h.standing
  slots := k.slots.trans h.slots
  requests := k.requests.trans h.requests
  unset := by
    rcases h.unset with a | a
    · exact .inl a
    · rcases k.unset with b | b
      · exact .inl (h.clockSet ▸ b)
      · exact .inr (b.trans a)
  numbers := k.numbers ∘ h.numbers
  flash := k.flash.trans h.flash
  capture := by
    rcases k.capture with a | a
    · rw [a]; exact h.capture
    · exact .inr a
  holdA := h.holdA ∘ k.holdA
  holdB := h.holdB ∘ k.holdB
  wake := k.wake ∘ h.wake
  awake := fun a => (k.awake ((h.awake a) ▸ a)).trans (h.awake a)
  notAwake := k.notAwake ∘ h.notAwake
  queues := k.queues ∘ h.queues
  reports := k.reports ∘ h.reports
  levels := k.levels ∘ h.levels
  saving := k.saving ∘ h.saving
  notCurrent := k.notCurrent ∘ h.notCurrent
  failed := fun a => (k.failed ((h.failed a) ▸ a)).trans (h.failed a)
  scan := by
    intro x a b
    rcases h.scan x a b with c | c
    · have := k.scan x c (h.present ▸ b)
      rwa [h.present] at this
    · have := k.scan _ c (by rw [h.present]; simp [Config.scanInterval])
      rw [h.present] at this
      exact this.elim .inr .inr

/-- Work done step by step over a list. -/
theorem foldl {α : Type} {f : State → α → State} (h : ∀ s a, Works s (f s a)) (xs : List α) (s : State) :
    Works s (xs.foldl f s) := by
  induction xs generalizing s with
  | nil => exact refl s
  | cons x xs ih => exact (h s x).trans (ih _)

end Works

/-! ### Blocks no invariant but the numbers speaks of -/

theorem agenda_works (s : State) (ds : List Due) : Works s { s with agenda := ds } := {}

theorem recordings_works (s : State) (n : Nat) : Works s { s with run := { s.run with recordings := n } } := {}

theorem lines_works (s : State) (l : BitVec 4) : Works s { s with panel := { s.panel with lines := l } } := {}

theorem occupancy_works (s : State) (xs : List Extent) : Works s { s with plan := { s.plan with occupancy := xs } } := {}

/-- The Booking List replaced by one whose numbers are among the old ones, each once. -/
theorem bookings_works (s : State) (bs : List Booking)
    (h : ∃ ns : List Nat, ns.Sublist (s.plan.bookings.map Booking.number) ∧ ns.Perm (bs.map Booking.number)) :
    Works s (s.withBookings bs) := by
  obtain ⟨ns, hs, hp⟩ := h
  have hl : bs.length ≤ s.plan.bookings.length := by
    have a := hp.length_eq; have b := hs.length_le; simp at a b; omega
  exact {
    unset := .inr hl
    numbers := fun k => ⟨hl.trans k.1, hp.nodup_iff.mp (hs.nodup k.2),
      fun n hn => k.3 n (hs.subset (hp.mem_iff.mpr hn)), k.4⟩ }

/-- Bookings changed in place, each keeping its number. -/
theorem mapBookings_works (s : State) (f : Booking → Booking) (h : ∀ b, (f b).number = b.number) :
    Works s (s.withBookings (s.plan.bookings.map f)) :=
  bookings_works s _ ⟨_, .refl _, by simp [List.map_map, Function.comp_def, h]⟩

theorem mapBooking_works (s : State) (n : Nat) (f : Booking → Booking) (h : ∀ b, (f b).number = b.number) :
    Works s (s.mapBooking n f) :=
  mapBookings_works s _ (fun b => by by_cases a : b.number == n <;> simp [a, h])

theorem filterBookings_works (s : State) (p : Booking → Bool) :
    Works s (s.withBookings (s.plan.bookings.filter p)) :=
  bookings_works s _ ⟨_, List.filter_sublist.map _, .refl _⟩

/-- Guide entries replaced by some whose slots are among the old ones. -/
theorem entries_works (s : State) (es : List GuideEntry)
    (h : (es.map GuideEntry.slot).Sublist (s.guide.entries.map GuideEntry.slot)) : Works s (s.withEntries es) :=
  { slots := h }

theorem mapEntries_works (s : State) (f : GuideEntry → GuideEntry) (h : ∀ e, (f e).slot = e.slot) :
    Works s (s.withEntries (s.guide.entries.map f)) :=
  entries_works s _ (by simp [List.map_map, Function.comp_def, h])

theorem mapEntry_works (s : State) (n : Nat) (f : GuideEntry → GuideEntry) (h : ∀ e, (f e).slot = e.slot) :
    Works s (s.mapEntry n f) :=
  mapEntries_works s _ (fun e => by by_cases a : e.slot == n <;> simp [a, h])

theorem pinUp_works (s : State) (k : OccurrenceKey) : Works s (s.pinUp k) := by
  cases k with
  | guideSlot n => exact mapEntry_works s n _ (fun _ => rfl)
  | localDay d => exact .refl s

theorem pinDown_works (s : State) (k : OccurrenceKey) : Works s (s.pinDown k) := by
  cases k with
  | guideSlot n => exact mapEntry_works s n _ (fun _ => rfl)
  | localDay d => exact .refl s

theorem mapRequests_works (s : State) (f : Request → Request) (h : ∀ r, (f r).number = r.number) :
    Works s { s with requests := s.requests.map f } :=
  { requests := by simp [List.map_map, Function.comp_def, h] }

theorem mapRequest_works (s : State) (n : Nat) (f : Request → Request) (h : ∀ r, (f r).number = r.number) :
    Works s (s.mapRequest n f) :=
  mapRequests_works s _ (fun r => by by_cases a : r.number == n <;> simp [a, h])

theorem removeRequest_works (s : State) (n : Nat) : Works s (s.removeRequest n) :=
  { requests := List.filter_sublist.map _
    slots := by simp [State.removeRequest, List.map_map, Function.comp_def] }

theorem removeSilently_works (s : State) (p : Booking → Bool) : Works s (s.removeSilently p) :=
  (filterBookings_works s (fun b => !p b)).trans (Works.foldl (fun t (b : Booking) => pinDown_works t b.key) _ _)

theorem atOnce_works (s : State) (d : Due) (t : Nat) : Works s (s.atOnce d t) := by
  unfold State.atOnce; split
  · exact agenda_works s _
  · exact .refl s

/-! ### Notices (R156, R161, R162) -/

/-- A queue without its oldest edge notice is one shorter and holds the same level notices. -/
theorem dropOldestEdge_spec {ns q : List Notice} (h : dropOldestEdge ns = some q) :
    q.length + 1 = ns.length ∧ ∀ l, (q.filter (fun n => n.source == .level l)) = ns.filter (fun n => n.source == .level l) := by
  induction ns generalizing q with
  | nil => simp [dropOldestEdge] at h
  | cons n ns ih =>
    simp only [dropOldestEdge] at h
    split at h
    · rename_i he
      cases h
      refine ⟨rfl, fun l => ?_⟩
      have : (n.source == Source.level l) = false := by
        unfold Notice.isEdge at he
        cases hs : n.source <;> simp_all
      simp [this]
    · cases hq : dropOldestEdge ns with
      | none => simp [hq] at h
      | some r =>
        simp [hq] at h; subst h
        obtain ⟨a, b⟩ := ih hq
        exact ⟨by simp [a], fun l => by simp [List.filter_cons, b l]⟩

/-- What joining does to the queue: it stays within 24, the lost count within 255, and no more than the notice itself is
added to the notices of a level source. -/
theorem joinNotice_spec (s : State) (n : Notice) :
    (s.outbox.notices.length ≤ Config.maxNotices → (s.joinNotice n).outbox.notices.length ≤ Config.maxNotices)
      ∧ (s.outbox.lost ≤ Config.maxLost → (s.joinNotice n).outbox.lost ≤ Config.maxLost)
      ∧ ∀ l, waitingNotices (s.joinNotice n) (.level l)
          ≤ waitingNotices s (.level l) + if n.source = .level l then 1 else 0 := by
  unfold State.joinNotice
  split
  · rename_i h
    refine ⟨fun _ => by simp; omega, id, fun l => ?_⟩
    simp only [waitingNotices, List.filter_append, List.length_append]
    by_cases a : n.source = .level l <;> simp [a]
  · split
    · rename_i q hq
      obtain ⟨a, b⟩ := dropOldestEdge_spec hq
      refine ⟨fun _ => by simp; omega, fun _ => Nat.min_le_right _ _, fun l => ?_⟩
      simp only [waitingNotices, List.filter_append, List.length_append, b l]
      by_cases a : n.source = .level l <;> simp [a]
    · exact ⟨id, id, fun l => by simp⟩

theorem joinNotice_standing (s : State) (n : Notice) : (s.joinNotice n).standing = s.standing := by
  unfold State.joinNotice; split
  · rfl
  · split <;> rfl

/-- Joining touches the queue and the lost count alone. -/
theorem joinNotice_eq (s : State) (n : Notice) : s.joinNotice n = { s with outbox := { s.outbox with
    notices := (s.joinNotice n).outbox.notices, lost := (s.joinNotice n).outbox.lost } } := by
  unfold State.joinNotice; split
  · rfl
  · split <;> rfl

theorem joinEdge_works (s : State) (n : Notice) (h : n.isEdge = true) : Works s (s.joinNotice n) := by
  have hn : ∀ l, n.source ≠ .level l := fun l a => by simp [Notice.isEdge, a] at h
  obtain ⟨a, b, c⟩ := joinNotice_spec s n
  have hq : QueuesOk s → QueuesOk (s.joinNotice n) := fun k =>
    ⟨a k.1, b k.2, fun l => by
      have := c l; have i := k.3 l
      rw [if_neg (hn l)] at this
      have e : (s.joinNotice n).alerts = s.alerts := by rw [joinNotice_eq]
      rw [e]; omega,
     fun t => by
      have e : (s.joinNotice n).outbox.directives = s.outbox.directives := by rw [joinNotice_eq]
      unfold waitingYields; rw [e]; exact k.4 t⟩
  rw [joinNotice_eq] at hq ⊢
  exact { queues := hq }

theorem edgeEvent_works (s : State) (n : Notice) (h : n.isEdge = true) : Works s (s.edgeEvent n) := by
  unfold State.edgeEvent; split
  · exact .refl s
  · exact joinEdge_works s n h

/-- A notice a level source gives is of that source. -/
theorem notice_source (t : AlertTable) (l : LevelSource) : (t.notice l).source = .level l := by cases l <;> rfl

@[simp] theorem LevelFlags.get_put (f : LevelFlags) (l m : LevelSource) (v : Bool) :
    (f.put l v).get m = if m = l then v else f.get m := by cases l <;> cases m <;> rfl

theorem condition_inService (t : AlertTable) (f : LevelFlags) (l : LevelSource) :
    AlertTable.condition { t with inService := f } l = t.condition l := by cases l <;> rfl

/-- A sampling touches the queue, the lost count and the source's own in-service flag alone, and leaves the source in service
when its condition is true and its mask clear (R162). -/
theorem sample_eq (s : State) (l : LevelSource) : s.sample l = { s with
    outbox := { s.outbox with notices := (s.sample l).outbox.notices, lost := (s.sample l).outbox.lost }
    alerts := { s.alerts with inService := (s.sample l).alerts.inService } } := by
  unfold State.sample; split
  · conv_lhs => rw [joinNotice_eq]
  · rfl

theorem sample_inService (s : State) (l m : LevelSource) :
    (s.sample l).alerts.inService.get m = (s.alerts.inService.get m || (decide (m = l) && s.samplingQueues l)) := by
  unfold State.sample; split
  · rename_i h; by_cases a : m = l <;> simp [a, h]
  · rename_i h; simp [h]

theorem sample_queues (s : State) (l : LevelSource) (k : QueuesOk s) : QueuesOk (s.sample l) := by
  by_cases h : s.samplingQueues l = true
  · obtain ⟨a, b, c⟩ := joinNotice_spec s (s.alerts.notice l)
    have e : s.sample l = { s.joinNotice (s.alerts.notice l) with
        alerts := { s.alerts with inService := s.alerts.inService.put l true } } := by
      simp [State.sample, h]
    have hf : s.alerts.inService.get l = false := by
      simp [State.samplingQueues] at h; exact h.2
    refine ⟨by rw [e]; exact a k.1, by rw [e]; exact b k.2, fun m => ?_, fun t => ?_⟩
    · have c' := c m
      have k' := k.3 m
      have e2 : waitingNotices (s.sample l) (.level m) = waitingNotices (s.joinNotice (s.alerts.notice l)) (.level m) := by
        rw [e]; rfl
      rw [e2, sample_inService]
      rw [notice_source] at c'
      by_cases x : m = l
      · subst x; simp [hf] at k'; simp [h] at c' ⊢; omega
      · rw [if_neg (by simpa using fun y => x y.symm)] at c'
        simp only [x, decide_false, Bool.false_and, Bool.or_false]
        omega
    · have : (s.sample l).outbox.directives = s.outbox.directives := by rw [sample_eq]
      unfold waitingYields; rw [this]; exact k.4 t
  · have e : s.sample l = s := by simp [State.sample, h]
    rw [e]; exact k

/-- A sampling of one source restores what the other sources kept. -/
theorem sample_levels (s : State) (l : LevelSource)
    (k : s.running = true → ∀ m, m ≠ l → s.alerts.condition m = true → s.alerts.masks.level.get m = false →
      s.alerts.inService.get m = true) : LevelsOk (s.sample l) := by
  have e := sample_eq s l
  intro hr m hc hm
  have hr' : s.running = true := by rw [e] at hr; exact hr
  have hc' : s.alerts.condition m = true := by rw [e] at hc; simpa [condition_inService] using hc
  have hm' : s.alerts.masks.level.get m = false := by rw [e] at hm; exact hm
  rw [sample_inService]
  by_cases x : m = l
  · subst x; cases h : s.alerts.inService.get m <;> simp [State.samplingQueues, hc', hm', h]
  · simp [x, k hr' m x hc' hm']

theorem sample_works (s : State) (l : LevelSource) : Works s (s.sample l) := by
  have hq := sample_queues s l
  have hl : LevelsOk s → LevelsOk (s.sample l) := fun k => sample_levels s l (fun a m _ => k a m)
  have e := sample_eq s l
  rw [e] at hq hl ⊢
  exact { queues := hq, levels := hl }

theorem condition_clash (t : AlertTable) (n : Nat) (m : LevelSource) (h : m ≠ .clashPresent) :
    AlertTable.condition { t with clashCount := n } m = t.condition m := by
  cases m <;> first | rfl | exact absurd rfl h

theorem condition_space (t : AlertTable) (n : Nat) (m : LevelSource) (h : m ≠ .spaceShort) :
    AlertTable.condition { t with spaceCount := n } m = t.condition m := by
  cases m <;> first | rfl | exact absurd rfl h

theorem condition_guideFull (t : AlertTable) (v : Bool) (m : LevelSource) (h : m ≠ .capacity) :
    AlertTable.condition { t with guideFull := v } m = t.condition m := by
  cases m <;> first | rfl | exact absurd rfl h

theorem condition_listShort (t : AlertTable) (v : Bool) (m : LevelSource) (h : m ≠ .capacity) :
    AlertTable.condition { t with listShort := v } m = t.condition m := by
  cases m <;> first | rfl | exact absurd rfl h

theorem condition_image (t : AlertTable) (v : ImageState) (m : LevelSource) (h : m ≠ .storeStale) :
    AlertTable.condition { t with image := v } m = t.condition m := by
  cases m <;> first | rfl | exact absurd rfl h

theorem reportClashes_works (s : State) (n : Nat) : Works s (s.reportClashes n) := by
  have e := sample_eq { s with alerts := { s.alerts with clashCount := n } } .clashPresent
  have hq : QueuesOk s → QueuesOk (s.reportClashes n) := fun k => sample_queues _ _ ⟨k.1, k.2, k.3, k.4⟩
  have hl : LevelsOk s → LevelsOk (s.reportClashes n) := fun k => sample_levels _ _ (fun r m hm hc hk =>
    k r m ((condition_clash _ n m hm).symm.trans hc) hk)
  unfold State.reportClashes at hq hl ⊢
  rw [e] at hq hl ⊢
  exact { queues := hq, levels := hl }

theorem reportSpace_works (s : State) (n : Nat) : Works s (s.reportSpace n) := by
  have e := sample_eq { s with alerts := { s.alerts with spaceCount := n } } .spaceShort
  have hq : QueuesOk s → QueuesOk (s.reportSpace n) := fun k => sample_queues _ _ ⟨k.1, k.2, k.3, k.4⟩
  have hl : LevelsOk s → LevelsOk (s.reportSpace n) := fun k => sample_levels _ _ (fun r m hm hc hk =>
    k r m ((condition_space _ n m hm).symm.trans hc) hk)
  unfold State.reportSpace at hq hl ⊢
  rw [e] at hq hl ⊢
  exact { queues := hq, levels := hl }

theorem setGuideFull_works (s : State) (v : Bool) : Works s (s.setGuideFull v) := by
  unfold State.setGuideFull; split
  · exact .refl s
  · let u : State := { s with guide := { s.guide with full := v }, alerts := { s.alerts with guideFull := v } }
    have e := sample_eq u .capacity
    have hq : QueuesOk s → QueuesOk (u.sample .capacity) := fun k => sample_queues u _ ⟨k.1, k.2, k.3, k.4⟩
    have hl : LevelsOk s → LevelsOk (u.sample .capacity) := fun k => sample_levels u _ (fun r m hm hc hk =>
      k r m ((condition_guideFull _ v m hm).symm.trans hc) hk)
    show Works s (u.sample .capacity)
    rw [e] at hq hl ⊢
    exact { queues := hq, levels := hl, reports := fun k => ⟨rfl, k.2, k.3⟩ }

theorem setListShort_works (s : State) (v : Bool) : Works s (s.setListShort v) := by
  unfold State.setListShort; split
  · exact .refl s
  · let u : State := { s with plan := { s.plan with listShort := v }, alerts := { s.alerts with listShort := v } }
    have e := sample_eq u .capacity
    have hq : QueuesOk s → QueuesOk (u.sample .capacity) := fun k => sample_queues u _ ⟨k.1, k.2, k.3, k.4⟩
    have hl : LevelsOk s → LevelsOk (u.sample .capacity) := fun k => sample_levels u _ (fun r m hm hc hk =>
      k r m ((condition_listShort _ v m hm).symm.trans hc) hk)
    show Works s (u.sample .capacity)
    rw [e] at hq hl ⊢
    exact { queues := hq, levels := hl, reports := fun k => ⟨k.1, rfl, k.3⟩ }

/-- The image state written and reported (R181): the queues, the alert table and the image state alone change. -/
theorem setImageState_eq (s : State) (st : ImageState) : s.setImageState st = { s with
    outbox := { s.outbox with
      notices := (s.setImageState st).outbox.notices, lost := (s.setImageState st).outbox.lost }
    alerts := { s.alerts with
      inService := (s.setImageState st).alerts.inService, image := (s.setImageState st).alerts.image }
    image := { s.image with state := st } } := by
  unfold State.setImageState; split
  · rename_i h; rw [← h]
  · let u : State := { s with image := { s.image with state := st }, alerts := { s.alerts with image := st } }
    have e := sample_eq u .storeStale
    have i : (u.sample .storeStale).alerts.image = st := by rw [e]
    show u.sample .storeStale = { s with
      outbox := { s.outbox with
        notices := (u.sample .storeStale).outbox.notices, lost := (u.sample .storeStale).outbox.lost }
      alerts := { s.alerts with
        inService := (u.sample .storeStale).alerts.inService, image := (u.sample .storeStale).alerts.image }
      image := { s.image with state := st } }
    rw [i]; exact e

theorem setImageState_queues (s : State) (st : ImageState) (k : QueuesOk s) : QueuesOk (s.setImageState st) := by
  unfold State.setImageState; split
  · exact k
  · exact sample_queues _ _ ⟨k.1, k.2, k.3, k.4⟩

theorem setImageState_levels (s : State) (st : ImageState) (k : LevelsOk s) : LevelsOk (s.setImageState st) := by
  unfold State.setImageState; split
  · exact k
  · exact sample_levels _ _ (fun r m hm hc hk => k r m ((condition_image _ st m hm).symm.trans hc) hk)

theorem setImageState_image (s : State) (st : ImageState) (k : s.alerts.image = s.image.state) :
    (s.setImageState st).alerts.image = st := by
  unfold State.setImageState; split
  · rename_i h; rw [k, h]
  · rw [sample_eq]

/-- Work that leaves an image that is not FAILED STALE or FAILED, never CURRENT and never in a save. -/
theorem setImageState_works (s : State) (st : ImageState) (h : st = .stale ∨ st = .failed)
    (k : s.image.state ≠ .failed) : Works s (s.setImageState st) := by
  have hq := setImageState_queues s st
  have hl := setImageState_levels s st
  have hi := setImageState_image s st
  have e := setImageState_eq s st
  rw [e] at hq hl hi ⊢
  exact { queues := hq, levels := hl
          reports := fun k => ⟨k.1, k.2, hi k.3⟩
          saving := fun _ => by rcases h with rfl | rfl <;> rfl
          notCurrent := fun _ => by rcases h with rfl | rfl <;> simp
          failed := fun a => absurd a k }

theorem changedInSave_works (s : State) (v : Bool) (k : s.image.state ≠ .failed) :
    Works s { s with image := { s.image with changedInSave := v } } := { failed := fun a => absurd a k }

theorem markChanged_works (s : State) : Works s s.markChanged := by
  unfold State.markChanged; split <;> rename_i h
  · exact setImageState_works s _ (.inl rfl) (by simp [h])
  · exact changedInSave_works s true (by simp [h])
  · exact changedInSave_works s true (by simp [h])
  · exact .refl s
  · exact .refl s
  · exact .refl s

theorem noteChange_works (c : StoredContent) (s : State) : Works s (State.noteChange c s) := by
  unfold State.noteChange; split
  · exact .refl s
  · exact markChanged_works s

theorem changing_works (s : State) (f : State → State) (h : Works s (f s)) : Works s (s.changing f) :=
  h.trans (noteChange_works _ _)

/-! ### Panel and directives -/

theorem applyTrigger_works (s : State) (t : Trigger) : Works s (s.applyTrigger t) := by
  unfold State.applyTrigger; split
  · exact lines_works s _
  · exact .refl s

theorem setRecordings_works (s : State) (n : Nat) : Works s (s.setRecordings n) := by
  unfold State.setRecordings
  simp only []
  split
  · exact (recordings_works s n).trans (applyTrigger_works _ _)
  · split
    · exact (recordings_works s n).trans (applyTrigger_works _ _)
    · exact recordings_works s n

/-- Directives replaced, no tuner getting more YIELDs than one. -/
theorem directives_works (s : State) (ds : List Directive)
    (h : ∀ t, (ds.filter (fun d => d.isYieldFor t)).length ≤ max 1 (waitingYields s t)) :
    Works s (s.withDirectives ds) :=
  { queues := fun k => ⟨k.1, k.2, k.3, fun t => (h t).trans (by have := k.4 t; omega)⟩ }

theorem queueDirective_works (s : State) (d : Directive) (h : ∀ t, d.isYieldFor t = false) :
    Works s (s.queueDirective d) :=
  directives_works s _ (fun t => by simp [List.filter_append, h, waitingYields])

theorem withdrawBegin_works (s : State) (n : Nat) : Works s (s.withdrawBegin n) :=
  directives_works s _ (fun t => by
    rw [List.filter_filter]
    refine le_trans (List.Sublist.length_le ?_) (Nat.le_max_right _ _)
    exact List.monotone_filter_right _ (fun d hd => by simp at hd; exact hd.1))

theorem queueYield_works (s : State) (t : TunerId) (n : Nat) : Works s (s.queueYield t n) :=
  directives_works s _ (fun u => by
    rw [List.filter_append, List.filter_filter]
    by_cases h : u = t
    · subst h
      have : (s.outbox.directives.filter (fun d => d.isYieldFor u && !d.isYieldFor u)) = [] := by
        apply List.filter_eq_nil_iff.mpr; intro d _; simp
      rw [this]; simp [Directive.isYieldFor]
    · have a : ([Directive.yieldTuner t n].filter (fun d => d.isYieldFor u)) = [] := by
        have : (t == u) = false := by simpa using fun x => h x.symm
        simp [Directive.isYieldFor, this]
      rw [a]
      simp only [List.append_nil]
      refine le_trans (List.Sublist.length_le ?_) (Nat.le_max_right _ _)
      exact List.monotone_filter_right _ (fun d hd => by simp at hd; exact hd.1))

end Sys2Proof.Machine
end

