-- ==== Sys2Proof/Laws/Planning.lean ====
section
/-! SUPPORT. A derivation and a plan pass work. -/

namespace Sys2Proof.Machine

/-! ### Lists in order -/

theorem insertBy_perm {α : Type} (before : α → α → Bool) (x : α) (ys : List α) :
    (insertBy before x ys).Perm (x :: ys) := by
  induction ys with
  | nil => exact .refl _
  | cons y ys ih =>
    simp only [insertBy]; split
    · exact .refl _
    · exact (ih.cons y).trans (.swap x y ys)

theorem insertStable_perm {α : Type} (before : α → α → Bool) (x : α) (ys : List α) :
    (sortBy.insertStable before x ys).Perm (x :: ys) := by
  induction ys with
  | nil => exact .refl _
  | cons y ys ih =>
    simp only [sortBy.insertStable]; split
    · exact (ih.cons y).trans (.swap x y ys)
    · exact .refl _

theorem sortBy_perm {α : Type} (before : α → α → Bool) (xs : List α) : (sortBy before xs).Perm xs := by
  induction xs with
  | nil => exact .refl _
  | cons x xs ih => exact (insertStable_perm before x _).trans (ih.cons x)

/-- Bookings changed, each keeping its number, and put in order. -/
theorem sortBookings_works (s : State) (before : Booking → Booking → Bool) (f : Booking → Booking)
    (h : ∀ b, (f b).number = b.number) : Works s (s.withBookings (sortBy before (s.plan.bookings.map f))) :=
  bookings_works s _ ⟨_, .refl _, by
    have := (sortBy_perm before (s.plan.bookings.map f)).map Booking.number
    simpa [List.map_map, Function.comp_def, h] using this.symm⟩

/-! ### Booking numbers (R72) -/

theorem nextNumber_range {n : Nat} : 1 ≤ nextNumber n ∧ nextNumber n ≤ Config.maxBookingNumber := by
  unfold nextNumber; split <;> (simp [Config.maxBookingNumber] at *; try omega)

theorem iterate_nextNumber (n : Nat) (h : 1 ≤ n ∧ n ≤ Config.maxBookingNumber) (i : Nat) (hi : i ≤ 65535) :
    nextNumber^[i] n = if n + i ≤ 65535 then n + i else n + i - 65535 := by
  simp only [Config.maxBookingNumber] at h
  induction i with
  | zero => simp; omega
  | succ i ih =>
    rw [Function.iterate_succ_apply', ih (by omega)]
    simp only [nextNumber, Config.maxBookingNumber]
    split <;> split <;> split <;> omega

theorem freeNumber_held (held : List Nat) (fuel n : Nat) (h : freeNumber held fuel n ∈ held) :
    ∀ i < fuel, nextNumber^[i] n ∈ held := by
  induction fuel generalizing n with
  | zero => intro i hi; omega
  | succ fuel ih =>
    simp only [freeNumber] at h
    split at h
    · rename_i hc
      intro i hi
      cases i with
      | zero => simpa using hc
      | succ i => simpa [Function.iterate_succ_apply] using ih _ h i (by omega)
    · rename_i hc; exact absurd h (by simpa using hc)

theorem freeNumber_range (held : List Nat) (fuel n : Nat) (h : 1 ≤ n ∧ n ≤ Config.maxBookingNumber) :
    1 ≤ freeNumber held fuel n ∧ freeNumber held fuel n ≤ Config.maxBookingNumber := by
  induction fuel generalizing n with
  | zero => exact h
  | succ fuel ih =>
    simp only [freeNumber]; split
    · exact ih _ nextNumber_range
    · exact h

theorem firstBy_eq_none {α : Type} (before : α → α → Bool) (l : List α) : firstBy before l = none ↔ l = [] := by
  cases l with
  | nil => simp [firstBy]
  | cons x l =>
    simp only [firstBy]
    split
    · simp
    · split <;> simp

/-- The element chosen is of the list, and none of the list comes before it. -/
theorem firstBy_spec {α : Type} {before : α → α → Bool} (irrefl : ∀ x, before x x = false)
    (asymm : ∀ x y, before x y = true → before y x = false)
    (trans : ∀ x y z, before x y = false → before y z = false → before x z = false) {l : List α} {x : α}
    (h : firstBy before l = some x) : x ∈ l ∧ ∀ y ∈ l, before y x = false := by
  induction l generalizing x with
  | nil => cases h
  | cons a l ih =>
    simp only [firstBy] at h
    split at h
    · rename_i e
      rw [firstBy_eq_none] at e
      cases h; subst e
      simp [irrefl]
    · rename_i y e
      obtain ⟨m, k⟩ := ih e
      split at h <;> rename_i c <;> cases h
      · refine ⟨List.mem_cons_of_mem _ m, fun z hz => ?_⟩
        rcases List.mem_cons.1 hz with rfl | hz
        · exact asymm _ _ c
        · exact k z hz
      · refine ⟨List.mem_cons_self .., fun z hz => ?_⟩
        rcases List.mem_cons.1 hz with rfl | hz
        · exact irrefl _
        · exact trans _ y _ (k z hz) (by simpa using c)

/-- A number found free is the first from `n` on that is not held. -/
theorem freeNumber_first (held : List Nat) (fuel n : Nat) (h : freeNumber held fuel n ∉ held) :
    ∃ i ≤ fuel, freeNumber held fuel n = nextNumber^[i] n ∧ ∀ j < i, nextNumber^[j] n ∈ held := by
  induction fuel generalizing n with
  | zero => exact ⟨0, Nat.le_refl _, rfl, fun j hj => absurd hj (Nat.not_lt_zero _)⟩
  | succ f ih =>
    simp only [freeNumber] at h ⊢
    split at h <;> rename_i q
    · rw [if_pos q]
      obtain ⟨i, hi, e, k⟩ := ih _ h
      refine ⟨i + 1, by omega, by rw [e]; rfl, fun j hj => ?_⟩
      cases j with
      | zero => simpa using q
      | succ j => exact k j (by omega)
    · rw [if_neg q]; exact ⟨0, Nat.zero_le _, rfl, fun j hj => absurd hj (Nat.not_lt_zero _)⟩

/-- While the numbers are in order, the number a creation takes is one no live booking holds (R72). -/
theorem newNumber_spec {s : State} (k : NumbersOk s) :
    s.newNumber ∉ s.plan.bookings.map Booking.number ∧ 1 ≤ s.newNumber ∧ s.newNumber ≤ Config.maxBookingNumber := by
  refine ⟨fun h => ?_, freeNumber_range _ _ _ k.counter⟩
  have a := freeNumber_held _ _ _ h
  have d : ((List.range 241).map (fun i => nextNumber^[i] s.plan.counter)).Nodup := by
    refine List.Nodup.map_on (fun i hi j hj e => ?_) List.nodup_range
    rw [List.mem_range] at hi hj
    have hc := k.counter
    rw [iterate_nextNumber _ hc i (by omega), iterate_nextNumber _ hc j (by omega)] at e
    simp only [Config.maxBookingNumber] at hc
    split at e <;> split at e <;> omega
  have sub : ((List.range 241).map (fun i => nextNumber^[i] s.plan.counter)) ⊆ s.plan.bookings.map Booking.number := by
    intro x hx
    obtain ⟨i, hi, rfl⟩ := List.mem_map.mp hx
    exact a i (by simpa [Config.maxBookings] using hi)
  have := (List.subperm_of_subset d sub).length_le
  have r := k.room
  rw [List.length_map, List.length_range, List.length_map] at this
  simp only [Config.maxBookings] at r
  omega

/-! ### The derivation (R76) -/

@[simp] theorem formWindow_number (set : Settings) (r : Request) (b : Booking) :
    (b.formWindow set r).number = b.number := rfl

@[simp] theorem updateBooking_number (set : Settings) (r : Request) (o : Occurrence) (b : Booking) :
    (updateBooking set r o b).number = b.number := rfl

@[simp] theorem newBooking_number (set : Settings) (r : Request) (o : Occurrence) (n : Nat) :
    (newBooking set r o n).number = n := rfl

theorem pruneSkips_works (s : State) : Works s (pruneSkips s) :=
  changing_works s _ (mapRequests_works s _ (fun r => by
    cases hk : r.kind with
    | timed f => cases hd : f.settledDay <;> simp [hd]
    | event f => rfl
    | series f => rfl))

theorem removeUnwanted_works (w : List Occurrence) (s : State) : Works s (removeUnwanted w s) :=
  removeSilently_works s _

theorem updateOpen_works (w : List Occurrence) (s : State) : Works s (updateOpen w s) :=
  sortBookings_works s _ _ (fun b => by
    split
    · split <;> rfl
    · rfl)

/-- A booking with a number of its own enters a list that has room. -/
theorem enterBooking_works {s t : State} (w : Works s t) (b : Booking) (hc : s.clockSet = true)
    (h : NumbersOk s → NumbersOk t → t.plan.bookings.length < Config.maxBookings
      ∧ b.number ∉ t.plan.bookings.map Booking.number ∧ 1 ≤ b.number ∧ b.number ≤ Config.maxBookingNumber) :
    Works s (t.enterBooking b) := by
  have p := w.trans (pinUp_works t b.key)
  have e : (t.pinUp b.key).plan = t.plan := by cases b.key <;> rfl
  exact {
    standing := p.standing
    slots := p.slots
    requests := p.requests
    unset := .inl hc
    numbers := fun k => by
      have k' := w.numbers k
      obtain ⟨hl, hn, h1, h2⟩ := h k k'
      have hp := insertBy_perm listBefore b t.plan.bookings
      have hm := hp.map Booking.number
      refine ⟨?_, ?_, fun n hn' => ?_, nextNumber_range⟩
      · show (insertBy listBefore b (t.pinUp b.key).plan.bookings).length ≤ _
        rw [e, hp.length_eq]; exact hl
      · show ((insertBy listBefore b (t.pinUp b.key).plan.bookings).map Booking.number).Nodup
        rw [e]; exact hm.nodup_iff.mpr (List.nodup_cons.mpr ⟨hn, k'.distinct⟩)
      · have : n ∈ (insertBy listBefore b t.plan.bookings).map Booking.number := by rw [← e]; exact hn'
        rcases List.mem_cons.mp (hm.mem_iff.mp this) with rfl | q
        · exact ⟨h1, h2⟩
        · exact k'.numbers n q
    flash := p.flash
    capture := p.capture
    holdA := p.holdA
    holdB := p.holdB
    wake := fun k => let x := p.wake k; ⟨x.1, x.2, x.3⟩
    awake := p.awake
    notAwake := p.notAwake
    queues := fun k => let x := p.queues k; ⟨x.1, x.2, x.3, x.4⟩
    reports := fun k => let x := p.reports k; ⟨x.1, x.2, x.3⟩
    levels := p.levels
    saving := p.saving
    notCurrent := p.notCurrent
    failed := p.failed
    scan := p.scan }

theorem createOne_works (s : State) (o : Occurrence) (hc : s.clockSet = true) : Works s (createOne s o) := by
  unfold createOne; split
  · rename_i hl
    split
    · exact enterBooking_works (.refl s) _ hc (fun k _ => ⟨hl, (newNumber_spec k).1, (newNumber_spec k).2⟩)
    · exact .refl s
  · exact .refl s

theorem createWanted_works (w : List Occurrence) (s : State) (hc : s.clockSet = true) : Works s (createWanted w s) := by
  have f : ∀ (os : List Occurrence) (t : State), t.clockSet = true → Works t (os.foldl createOne t) := by
    intro os
    induction os with
    | nil => exact fun t _ => .refl t
    | cons o os ih => exact fun t h =>
        (createOne_works t o h).trans (ih _ ((createOne_works t o h).clockSet.trans h))
  exact (f _ s hc).trans (setListShort_works _ _)

theorem derive_works (s : State) (hc : s.clockSet = true) : Works s (derive s) := by
  have a := pruneSkips_works s
  have b := a.trans (removeUnwanted_works (wantedSet (pruneSkips s)) _)
  have c := b.trans (updateOpen_works (wantedSet (pruneSkips s)) _)
  exact c.trans (createWanted_works _ _ (c.clockSet.trans hc))

/-! ### Step 4 of a pass -/

theorem formWindows_works (s : State) : Works s (formWindows s) :=
  sortBookings_works s _ _ (fun b => by
    unfold refreshBooking; split
    · rfl
    · split
      · rfl
      · split <;> rfl)

theorem booking?_mem {s : State} {n : Nat} {b : Booking} (h : s.booking? n = some b) :
    b ∈ s.plan.bookings ∧ b.number = n :=
  ⟨List.mem_of_find?_eq_some h, by simpa using List.find?_some h⟩

theorem bookAlternate_works (w : Pass) (r : Request) (b : Booking) (e : GuideEntry) (p : Place) (n : Need)
    (hc : w.state.clockSet = true) (hb : b.number ∈ w.state.plan.bookings.map Booking.number) :
    Works w.state (bookAlternate w r b e p n).state := by
  have h1 := filterBookings_works w.state (fun c => c.number != b.number)
  have h2 := h1.trans (pinDown_works _ b.key)
  have h3 := h2.trans (edgeEvent_works _ (.bookingEnd ⟨b.number, b.request, .replaced, .replaced, 0, b.begun,
    w.state.present, some w.state.newNumber⟩) rfl)
  refine enterBooking_works h3 _ hc (fun k _ => ?_)
  have f := newNumber_spec k
  have key : ∀ (t : State) (x : Notice), ((t.pinDown b.key).edgeEvent x).plan = t.plan := by
    intro t x
    have a : (t.pinDown b.key).plan = t.plan := by cases b.key <;> rfl
    unfold State.edgeEvent; split
    · exact a
    · rw [joinNotice_eq]; exact a
  rw [key]
  refine ⟨?_, ?_, f.2⟩
  · have hlt : (w.state.plan.bookings.filter (fun c => c.number != b.number)).length < w.state.plan.bookings.length := by
      obtain ⟨c, hc1, hc2⟩ := List.mem_map.mp hb
      exact List.length_filter_lt_length_iff_exists.mpr ⟨c, hc1, by simp [hc2]⟩
    exact lt_of_lt_of_le hlt k.room
  · intro hm
    obtain ⟨c, hc1, hc2⟩ := List.mem_map.mp hm
    have hc3 : c.number = w.state.newNumber := hc2
    exact f.1 (hc3 ▸ List.mem_map_of_mem (List.mem_of_mem_filter hc1))

theorem clashBooking_works (w : Pass) (b : Booking) (n : Need) (hc : w.state.clockSet = true)
    (hb : b ∈ w.state.plan.bookings) : Works w.state (clashBooking w b n).state := by
  have h1 := mapBooking_works w.state b.number (fun c => { c with
    state := some .clashed, place := none, partners := partnersOf w.state w.laid n }) (fun _ => rfl)
  unfold clashBooking
  simp only []
  split
  · split
    · split
      · refine h1.trans (bookAlternate_works (Pass.mk _ _ _ _ _ _) _ b _ _ _ (h1.clockSet.trans hc) ?_)
        exact List.mem_map.mpr ⟨_, List.mem_map_of_mem hb, by simp⟩
      · exact h1
    · exact h1
  · exact h1

theorem takeCandidate_works (w : Pass) (c : Ranked) (hc : w.state.clockSet = true) :
    Works w.state (takeCandidate w c).state := by
  unfold takeCandidate
  split
  · unfold placeBooking; split
    · exact .refl _
    · rename_i hb
      simp only []
      split
      · exact mapBooking_works _ _ _ (fun _ => rfl)
      · exact clashBooking_works w _ _ hc (booking?_mem hb).1
  · unfold settleOverrun; split
    · exact .refl _
    · split
      · exact .refl _
      · simp only []
        split
        · exact .refl _
        · exact mapBooking_works _ _ _ (fun _ => rfl)
  · unfold settleHold; split
    · exact .refl _
    · simp only []
      split
      · exact .refl _
      · split <;> exact .refl _

theorem placeAll_works (s : State) (hc : s.clockSet = true) : Works s (placeAll s).state := by
  have f : ∀ (cs : List Ranked) (w : Pass), w.state.clockSet = true →
      Works w.state (cs.foldl takeCandidate w).state := by
    intro cs
    induction cs with
    | nil => exact fun w _ => .refl _
    | cons c cs ih => exact fun w h =>
        (takeCandidate_works w c h).trans (ih _ ((takeCandidate_works w c h).clockSet.trans h))
  exact f _ (Pass.mk s _ _ _ _ _) hc

/-! ### Steps 5 to 7 of a pass -/

theorem clashEvent_works (s : State) (n : Nat) : Works s (clashEvent s n) := by
  unfold clashEvent; split
  · exact edgeEvent_works s _ rfl
  · exact .refl s

theorem flagSpace_numbers (s : State) (n : Nat) (bs : List Booking) :
    (flagSpace s n bs).map Booking.number = bs.map Booking.number := by
  induction bs generalizing n with
  | nil => rfl
  | cons b bs ih =>
    simp only [flagSpace, List.map_cons, ih]
    congr 1
    split
    · rfl
    · split <;> rfl

theorem spacePart_works (s : State) : Works s (spacePart s) :=
  (bookings_works s (flagSpace s 0 s.plan.bookings) ⟨_, .refl _, by rw [flagSpace_numbers]⟩).trans
    (reportSpace_works _ _)

theorem reportPass_works (w : Pass) : Works w.state (reportPass w).state :=
  (((occupancy_works w.state w.laid).trans (Works.foldl clashEvent_works _ _)).trans (reportClashes_works _ _)).trans
    (spacePart_works _)

theorem alignExpiries_works (s : State) : Works s (alignExpiries s) :=
  (mapBookings_works s (alignBooking s.settings) (fun b => by unfold alignBooking; split <;> rfl)).trans
    (agenda_works _ (s.agenda ++ (s.plan.bookings.map (alignDues s)).flatten))

/-- A tuner's hold replaced by another, or removed. -/
theorem withHold_works (s : State) (t : TunerId) (h : Option ViewerHold)
    (k : h.isSome = true → (s.tuner t).hold.isSome = true) :
    Works s (s.withTuner t { s.tuner t with hold := h }) := by
  cases t with
  | a => exact { holdA := k }
  | b => exact { holdB := k }

theorem setWarning_works (s : State) (t : TunerId) (h : ViewerHold) (k : (s.tuner t).hold.isSome = true) :
    Works s (s.setWarning t h) := by
  have a := withHold_works s t (some { h with warnExpiry := warnInstant s.settings h }) (fun _ => k)
  unfold State.setWarning
  simp only []
  split
  · exact a.trans (atOnce_works _ _ _)
  · exact a

theorem writeYield_works (s : State) (t : TunerId) (y : Option (Nat × Nat)) : Works s (s.writeYield t y) := by
  unfold State.writeYield; split
  · exact .refl s
  · rename_i h hh
    simp only []
    split
    · exact withHold_works s t _ (fun _ => by rw [hh]; rfl)
    · exact setWarning_works s t _ (by rw [hh]; rfl)

theorem recomputeWake_works (s : State) : Works s (recomputeWake s) := by
  unfold recomputeWake; split
  · rename_i h
    have a : Works s { s with host := { s.host with
        wakeExpiry := (computeWake s).1, expiryCause := (computeWake s).2 } } :=
      { wake := fun k => ⟨k.1, k.2, fun _ => h⟩
        awake := fun k => by rw [k] at h; cases h }
    simp only []
    split
    · exact a.trans (atOnce_works _ _ _)
    · exact a
  · exact .refl s

theorem handOn_works (w : Pass) : Works w.state (handOn w) :=
  (((((alignExpiries_works w.state).trans (agenda_works _ [])).trans (writeYield_works _ _ _)).trans
    (writeYield_works _ _ _)).trans (recomputeWake_works _)).trans (agenda_works _ _)

theorem planPass_works (s : State) (hc : s.clockSet = true) : Works s (planPass s) := by
  have a := formWindows_works s
  exact ((a.trans (placeAll_works _ (a.clockSet.trans hc))).trans (reportPass_works _)).trans (handOn_works _)

theorem passIfSet_works (s : State) : Works s (passIfSet s) := by
  unfold passIfSet; split
  · rename_i h; exact planPass_works s h
  · exact .refl s

theorem deriveAndPass_works (s : State) : Works s (deriveAndPass s) := by
  unfold deriveAndPass; split
  · rename_i h
    have a := derive_works s h
    exact a.trans (planPass_works _ (a.clockSet.trans h))
  · exact .refl s

end Sys2Proof.Machine
end

