-- ==== Sys2Proof/Laws/Running.lean ====
section
/-! SUPPORT. Scans, finishes, expiries and the close of a stream work. -/

namespace Sys2Proof.Machine

/-! ### Scans and saves (R47, R48, R184) -/

theorem dropEntries_works (s : State) (keep : GuideEntry → Bool) : Works s (s.dropEntries keep) := by
  have a := entries_works s (s.guide.entries.filter keep) (List.filter_sublist.map _)
  unfold State.dropEntries
  simp only []
  split
  · exact a.trans (setGuideFull_works _ _)
  · exact a

theorem runScan_works (s : State) : Works s (runScan s) := by
  have a := dropEntries_works s (fun e => !agedOut s e)
  refine a.trans ?_
  exact { scan := fun _ _ _ => .inr (by rw [a.present]; rfl) }

theorem scanNow_works (s : State) : Works s (scanNow s) := (runScan_works s).trans (deriveAndPass_works _)

theorem releaseScan_works (s : State) : Works s (releaseScan s) := by
  unfold releaseScan; split
  · split
    · exact {}
    · refine Works.trans ?_ (scanNow_works _); exact {}
  · exact .refl s

theorem stopSave_works (c : AbandonCause) (s : State) : Works s (stopSave c s) := by
  unfold stopSave; split
  · rename_i h
    have k : s.image.state ≠ .failed := fun a => by simp [State.saving, a] at h
    refine Works.trans ?_ (setImageState_works _ _ (.inr rfl) k)
    exact { capture := .inr rfl, failed := fun a => absurd a k }
  · exact .refl s

theorem abandonSave_works (s : State) : Works s (abandonSave s) := by
  unfold abandonSave; split
  · exact (stopSave_works _ s).trans (releaseScan_works _)
  · exact .refl s

theorem scanWork_works (s : State) (h : isDue .scan s = true) : Works s (scanWork s) := by
  have k : ∀ x, s.guide.nextScan = some x → s.present < x → False := by
    intro x a b; simp [isDue, reached, a] at h; omega
  have g : ∀ v w, Works s { s with guide := { s.guide with nextScan := none, agingPending := v, scanWaits := w } } :=
    fun v w => { scan := fun x a b => (k x a b).elim }
  unfold scanWork
  simp only []
  split
  · exact g _ _
  · split
    · exact g _ _
    · exact (g _ _).trans (scanNow_works _)

/-! ### Finishes (R132) -/

theorem applyReport_works (b : Booking) (e : Ending) (s : State) : Works s (applyReport b e s) := by
  unfold applyReport; split
  · exact .refl s
  · refine changing_works s _ ?_
    simp only []
    split
    · split
      · exact removeRequest_works s _
      · exact .refl s
    · split
      · refine Works.trans ?_ (removeRequest_works _ _)
        exact mapRequest_works s _ _ (fun _ => rfl)
      · exact mapRequest_works s _ _ (fun _ => rfl)

theorem releaseEntry_works (b : Booking) (e : Ending) (s : State) : Works s (releaseEntry b e s) := by
  unfold releaseEntry
  simp only []
  split
  · split
    · exact (pinDown_works s _).trans (mapEntry_works _ _ _ (fun _ => rfl))
    · exact pinDown_works s _
  · exact pinDown_works s _

theorem queueEnd_works (b : Booking) (r : Option Reason) (s : State) : Works s (queueEnd b r s) := by
  unfold queueEnd; split
  · exact queueDirective_works s _ (fun _ => rfl)
  · exact .refl s

theorem announceEnd_works (b : Booking) (e : Ending) (s : State) : Works s (announceEnd b e s) := by
  unfold announceEnd; split
  · exact edgeEvent_works s _ rfl
  · exact .refl s

theorem finishBooking_works (e : Ending) (r : Option Reason) (b : Booking) (s : State) :
    Works s (finishBooking e r b s) := by
  unfold finishBooking
  simp only []
  have h1 := queueEnd_works b r s
  have h2 : Works s (if b.state = some .due then (queueEnd b r s).withdrawBegin b.number else queueEnd b r s) := by
    split
    · exact h1.trans (withdrawBegin_works _ _)
    · exact h1
  have h3 := h2.trans (filterBookings_works _ (fun c => c.number != b.number))
  have h4 := h3.trans (releaseEntry_works b e _)
  have h5 := h4.trans (applyReport_works b e _)
  refine Works.trans ?_ (announceEnd_works b e _)
  split
  · exact h5.trans (setRecordings_works _ _)
  · exact h5

theorem afterFinish_works (v : Bool) (s : State) : Works s (afterFinish v s) := by
  unfold afterFinish; split
  · exact deriveAndPass_works s
  · exact passIfSet_works s

theorem finishOne_works (e : Ending) (r : Option Reason) (b : Booking) (s : State) : Works s (finishOne e r b s) :=
  (finishBooking_works e r b s).trans (afterFinish_works _ _)

theorem finishEach_works (e : Ending) (r : Option Reason) (bs : List Booking) (s : State) :
    Works s (finishEach e r bs s) := Works.foldl (fun t b => finishBooking_works e r b t) bs s

/-! ### Expiries -/

theorem displaceViewer_works (b : Booking) (p : Place) (s : State) : Works s (displaceViewer b p s) := by
  unfold displaceViewer; split
  · split
    · exact (withHold_works s _ none (fun h => by simp at h)).trans (queueYield_works _ _ _)
    · exact .refl s
  · exact .refl s

theorem becomeDue_works (b : Booking) (s : State) : Works s (becomeDue b s) := by
  unfold becomeDue; split
  · exact .refl s
  · refine Works.trans ?_ (recomputeWake_works _)
    refine Works.trans ?_ (atOnce_works _ _ _)
    refine Works.trans ?_ (queueDirective_works _ _ (fun _ => rfl))
    refine Works.trans ?_ (displaceViewer_works _ _ _)
    exact mapBooking_works s _ _ (fun _ => rfl)

theorem becomeLate_works (b : Booking) (s : State) : Works s (becomeLate b s) := by
  unfold becomeLate
  refine Works.trans ?_ (atOnce_works _ _ _)
  refine Works.trans ?_ (recomputeWake_works _)
  exact mapBooking_works s _ _ (fun _ => rfl)

theorem failUnconfirmed_works (b : Booking) (s : State) : Works s (failUnconfirmed b s) := finishOne_works _ _ b s

theorem setProvEnd_works (n t : Nat) (c : Option CutReason) (s : State) : Works s (setProvEnd n t c s) :=
  mapBooking_works s n _ (fun _ => rfl)

theorem moveProvEnd_works (n t : Nat) (c : Option CutReason) (s : State) : Works s (moveProvEnd n t c s) :=
  (setProvEnd_works n t c s).trans (atOnce_works _ _ _)

theorem endOrExtend_works (b : Booking) (s : State) : Works s (endOrExtend b s) := by
  unfold endOrExtend
  have a := fun v : Bool => mapBooking_works s b.number (fun c => { c with accurate := v }) (fun _ => rfl)
  simp only []
  split
  all_goals
    split
    · split
      · refine Works.trans ?_ (passIfSet_works _)
        refine Works.trans ?_ (moveProvEnd_works _ _ _ _)
        exact a _
      · refine Works.trans ?_ (finishOne_works _ _ _ _)
        exact a _
    · refine Works.trans ?_ (finishOne_works _ _ _ _)
      exact a _

theorem provEndWork_works (n : Nat) (s : State) : Works s (provEndWork n s) := by
  unfold provEndWork; split
  · exact .refl s
  · split
    · exact failUnconfirmed_works _ s
    · exact endOrExtend_works _ s
    · exact .refl s

theorem openWindow_works (b : Booking) (s : State) : Works s (openWindow b s) := by
  unfold openWindow; split
  · exact finishOne_works _ _ b s
  · split
    · split
      · exact finishOne_works _ _ b s
      · exact becomeDue_works b s
    · exact becomeLate_works b s

theorem windowWork_works (n : Nat) (s : State) : Works s (windowWork n s) := by
  unfold windowWork; split
  · exact .refl s
  · split
    · exact (provEndWork_works _ s).trans (agenda_works _ _)
    · exact openWindow_works _ s

theorem limitWork_works (n : Nat) (s : State) : Works s (limitWork n s) := by
  unfold limitWork; split
  · exact .refl s
  · split
    · exact finishOne_works _ _ _ s
    · exact .refl s

theorem confirmWork_works (n : Nat) (s : State) : Works s (confirmWork n s) := by
  unfold confirmWork; split
  · exact .refl s
  · exact failUnconfirmed_works _ s

theorem wakeWork_works (c : WakeCause) (s : State) (h : s.host.state ≠ .awake) : Works s (wakeWork c s) := by
  unfold wakeWork
  simp only []
  have a : Works s { s with host := { s.host with
      cause := c, state := .waking, wakeExpiry := none, attempt := some s.present, wakeLine := true } } :=
    { wake := fun _ => ⟨by simp, fun _ => rfl, fun k => by simp at k⟩
      awake := fun k => absurd k h
      notAwake := fun _ => by simp }
  have b := a.trans (applyTrigger_works _ .wake)
  have hw : (State.applyTrigger { s with host := { s.host with
      cause := c, state := .waking, wakeExpiry := none, attempt := some s.present, wakeLine := true } }
      .wake).host.state = .waking := by
    unfold State.applyTrigger; split <;> rfl
  refine b.trans ?_
  exact { wake := fun k => ⟨k.1, fun _ => hw, k.3⟩
          awake := fun k => by rw [hw] at k; cases k }

theorem wakeTimeoutWork_works (s : State) (h : s.host.state = .waking) : Works s (wakeTimeoutWork s) := by
  unfold wakeTimeoutWork
  simp only []
  refine Works.trans ?_ (recomputeWake_works _)
  refine Works.trans ?_ (edgeEvent_works _ _ rfl)
  exact { wake := fun _ => ⟨by simp, fun k => by simp at k, fun _ => rfl⟩
          notAwake := fun _ => by simp
          awake := fun k => by rw [h] at k; cases k }

theorem warningWork_works (t : TunerId) (s : State) : Works s (warningWork t s) := by
  unfold warningWork; split
  · exact .refl s
  · rename_i h hh
    exact (withHold_works s t _ (fun _ => by rw [hh]; rfl)).trans (edgeEvent_works _ _ rfl)

theorem abandoning_works (d : Due) (work : State → State) (h : ∀ s, Works s (work s)) (s : State) :
    Works s (abandoning d work s) := by
  unfold abandoning
  split
  · exact (abandonSave_works s).trans (agenda_works _ _)
  · exact h s

theorem takeDue_works (d : Due) (s : State) : Works s (takeDue d s) := by
  unfold takeDue; split
  · rename_i h
    split
    · exact abandoning_works _ _ (windowWork_works _) s
    · exact abandoning_works _ _ (limitWork_works _) s
    · exact abandoning_works _ _ (limitWork_works _) s
    · exact abandoning_works _ _ (confirmWork_works _) s
    · exact abandoning_works _ _ (provEndWork_works _) s
    · refine (abandonSave_works s).trans (wakeWork_works _ _ ((abandonSave_works s).notAwake ?_))
      intro k; simp [isDue, k, HostState.holdsWake] at h
    · exact wakeTimeoutWork_works s (by simp [isDue] at h; exact h.1)
    · exact warningWork_works _ s
    · exact scanWork_works s h
  · exact .refl s

theorem settleFrom_works (fuel : Nat) (s : State) : Works s (settleFrom fuel s) := by
  induction fuel generalizing s with
  | zero => exact agenda_works s []
  | succ fuel ih =>
    simp only [settleFrom]
    split
    · exact .refl s
    · refine Works.trans ?_ (ih _)
      refine Works.trans ?_ (agenda_works _ _)
      refine Works.trans ?_ (takeDue_works _ _)
      exact agenda_works s []

theorem settle_works (s : State) : Works s (settle s) := by
  unfold settle; exact settleFrom_works _ s

/-- Nothing is left to be taken at once. -/
@[simp] theorem settle_agenda (s : State) : (settle s).agenda = [] := by
  have : ∀ fuel s, (settleFrom fuel s).agenda = [] := by
    intro fuel
    induction fuel with
    | zero => exact fun _ => rfl
    | succ fuel ih =>
      intro s; simp only [settleFrom]; split
      · assumption
      · exact ih _
  unfold settle; exact this _ s

/-- With nothing to be taken at once, settling does nothing. -/
theorem settle_of_agenda {s : State} (h : s.agenda = []) : settle s = s := by
  unfold settle
  show settleFrom (99999 + 1) s = s
  simp only [settleFrom, h]

theorem expire_works (d : Due) (s : State) : Works s (expire d s) := by
  unfold expire; split
  · exact (takeDue_works d s).trans (settle_works _)
  · exact .refl s

/-! ### LATE bookings and early ends (R115, R128) -/

theorem clearWay_works (fuel n : Nat) (s : State) : Works s (clearWay fuel n s) := by
  induction fuel generalizing s with
  | zero => exact .refl s
  | succ fuel ih =>
    simp only [clearWay]; split
    · exact .refl s
    · split
      · exact ((takeDue_works _ s).trans (settle_works _)).trans (ih _)
      · exact .refl s

theorem takeLate_works (w : LateWork) (n : Nat) : Works w.state (takeLate w n).state := by
  have a := clearWay_works 6 n w.state
  unfold takeLate
  simp only []
  split
  · split
    · split
      · exact a.trans (finishBooking_works (.outcome .skipped .noSpace 0) none _ _)
      · exact a.trans (becomeDue_works _ (clearWay 6 n w.state))
    · exact a
  · exact a

theorem takeLates_works (s : State) : Works s (takeLates s).state := by
  have f : ∀ (ns : List Nat) (w : LateWork), Works w.state (ns.foldl takeLate w).state := by
    intro ns
    induction ns with
    | nil => exact fun w => .refl _
    | cons n ns ih => exact fun w => (takeLate_works w n).trans (ih _)
  unfold takeLates; split
  · exact f _ ⟨s, 0, 0, false⟩
  · exact .refl s

theorem earlyEnd_works (n : Nat) (s : State) : Works s (earlyEnd n s) := by
  unfold earlyEnd; split
  · exact .refl s
  · simp only []
    split
    · exact .refl s
    · split
      · exact (moveProvEnd_works _ _ _ s).trans (passIfSet_works _)
      · exact moveProvEnd_works _ _ _ s

/-! ### The finishes of one message (R133) -/

theorem clearSave_works (s : State) : Works s (clearSave s) := (abandonSave_works s).trans (settle_works _)

/-- With no save in progress and nothing due at once there is nothing to clear. -/
theorem clearSave_of_idle {s : State} (h : s.saving = false) (k : s.agenda = []) : clearSave s = s := by
  unfold clearSave abandonSave
  rw [h, if_neg Bool.false_ne_true, settle_of_agenda k]

theorem finishOf_works (en : State → Booking → Option (Ending × Option Reason)) (w : GroupWork) (n : Nat) :
    Works w.state (finishOf en w n).state := by
  unfold finishOf; split
  · exact .refl _
  · split
    · exact .refl _
    · exact finishBooking_works _ _ _ _

theorem GroupWork.close_works (w : GroupWork) : Works w.state w.close := by
  unfold GroupWork.close; split
  · exact afterFinish_works _ _
  · exact .refl _

theorem finishGroup_works (en : State → Booking → Option (Ending × Option Reason)) (ns : List Nat) (s : State) :
    Works s (finishGroup en ns s) := by
  have f : ∀ (ns : List Nat) (w : GroupWork), Works w.state (ns.foldl (finishOf en) w).state := by
    intro ns
    induction ns with
    | nil => exact fun w => .refl _
    | cons n ns ih => exact fun w => (finishOf_works en w n).trans (ih _)
  unfold finishGroup; split
  · exact .refl s
  · exact ((clearSave_works s).trans (f ns ⟨clearSave s, false, false⟩)).trans (GroupWork.close_works _)

/-! ### A change of running status handed on (R45, R128) -/

/-- Where the early end applies (R128). -/
theorem earlyEndApplies_iff (s : State) (b : Booking) : earlyEndApplies s b = true ↔ b.state = some .recording
    ∧ b.accurate = true ∧ ∃ e, s.entryOf b = some e ∧ e.withdrawn = false ∧ e.status = .notRunning ∧ e.hasRun = true := by
  unfold earlyEndApplies isAccurate
  cases h : s.entryOf b <;> simp [and_assoc]

theorem endEarly_works (w : GroupWork) (b : Booking) (x : Nat) (c : Option CutReason) :
    Works w.state (endEarly w b x c).state := by
  unfold endEarly
  refine Works.trans ?_ (finishOf_works _ _ _)
  refine Works.trans ?_ (clearSave_works _)
  have a := setProvEnd_works b.number x c w.state
  split
  · exact a.trans (passIfSet_works _)
  · exact a

theorem handStatus_works (w : GroupWork) (n : Nat) : Works w.state (handStatus w n).state := by
  unfold handStatus; split
  · exact .refl _
  · split
    · split
      · exact .refl _
      · split
        · exact endEarly_works _ _ _ _
        · exact (earlyEnd_works _ _).trans (settle_works _)
    · exact .refl _

theorem handRunning_works (slot : Nat) (s : State) : Works s (handRunning slot s) := by
  have f : ∀ (ns : List Nat) (w : GroupWork), Works w.state (ns.foldl handStatus w).state := by
    intro ns
    induction ns with
    | nil => exact fun w => .refl _
    | cons n ns ih => exact fun w => (handStatus_works w n).trans (ih _)
  unfold handRunning
  have a := f ((s.plan.bookings.filter (fun b => b.key == .guideSlot slot)).map Booking.number) ⟨s, false, false⟩
  simp only []
  split
  · exact (a.trans (GroupWork.close_works _)).trans (settle_works _)
  · exact a

/-! ### The close of a stream (R40 to R42) -/

/-- A stream window put in or taken out, with its flags. -/
theorem sweepStore_works (w : StreamWindow) (s : State) : Works s (sweepStore w s) := by
  have a := mapEntries_works s (fun e => if sweepWithdraws w e then { e with withdrawn := true } else e)
    (fun e => by by_cases h : sweepWithdraws w e <;> simp [h])
  unfold sweepStore
  simp only []
  split
  · refine (a.trans (dropEntries_works _ (fun e => !sweepRemoves w e))).trans ?_
    exact {}
  · exact a.trans (dropEntries_works _ _)

theorem finishWithdrawn_works (ns : List Nat) (s : State) : Works s (finishWithdrawn ns s) := by
  unfold finishWithdrawn
  simp only []
  split
  · exact .refl s
  · exact ((finishEach_works _ _ _ s).trans (afterFinish_works _ _)).trans (settle_works _)

theorem sweepStream_works (w : StreamWindow) (s : State) : Works s (sweepStream w s) := by
  unfold sweepStream; split
  · exact (sweepStore_works w s).trans (finishWithdrawn_works _ _)
  · exact .refl s

theorem clearMarks_works (s : State) : Works s (clearMarks s) := mapEntries_works s _ (fun _ => rfl)

theorem postponedScan_works (s : State) : Works s (postponedScan s) := by
  unfold postponedScan; split
  · split
    · exact {}
    · exact runScan_works s
  · exact .refl s

/-- Closing the record touches nothing but the stream and its two flags. -/
theorem closeRecord_mono {s t : State} (h : Works s t) : Works (closeRecord s) (closeRecord t) where
  standing := congrArg (fun x : Standing => { x with stream := none }) h.standing
  slots := h.slots
  requests := h.requests
  unset := h.unset
  numbers := fun k => let x := h.numbers ⟨k.1, k.2, k.3, k.4⟩; ⟨x.1, x.2, x.3, x.4⟩
  flash := h.flash
  capture := h.capture
  holdA := h.holdA
  holdB := h.holdB
  wake := fun k => let x := h.wake ⟨k.1, k.2, k.3⟩; ⟨x.1, x.2, x.3⟩
  awake := h.awake
  notAwake := h.notAwake
  queues := fun k => let x := h.queues ⟨k.1, k.2, k.3, k.4⟩; ⟨x.1, x.2, x.3, x.4⟩
  reports := fun k => let x := h.reports ⟨k.1, k.2, k.3⟩; ⟨x.1, x.2, x.3⟩
  levels := h.levels
  saving := h.saving
  notCurrent := h.notCurrent
  failed := h.failed
  scan := h.scan

/-- A close: the record is CLOSED, and the rest is work (R40 to R42). -/
theorem closeStream_works (s : State) : Works (closeRecord s) (closeStream s) := by
  unfold closeStream; split
  · rename_i h
    exact { standing := by
              have : s.standing.stream = none := h
              show s.standing = { s.standing with stream := none }
              rw [← this] }
  · rename_i w h
    have a := ((sweepStream_works w s).trans (clearMarks_works _)).trans (postponedScan_works _)
    refine Works.trans (closeRecord_mono ?_) (settle_works _)
    split
    · exact a.trans (deriveAndPass_works _)
    · exact a

/-- With no stream OPEN, a close does nothing. -/
theorem closeStream_closed {s : State} (h : s.guide.stream = none) : closeStream s = s := by
  unfold closeStream; rw [h]

theorem closeStream_agenda {s : State} (h : s.agenda = []) : (closeStream s).agenda = [] := by
  unfold closeStream; split
  · exact h
  · exact settle_agenda _

/-! ### A message's arrival (R171) -/

/-- The state a message's owner works on, but for the work of closing the stream. -/
def arrived (i : Instr) (d : Dest) (s : State) : State :=
  if closesStream i then closeRecord (startWork i d s) else startWork i d s

/-- An arrival closes the stream, where the message does, and the rest is work. -/
theorem arrive_works (i : Instr) (d : Dest) (s : State) : Works (arrived i d s) (arrive i d s) := by
  unfold arrived arrive
  simp only []
  split
  · exact closeStream_works _
  · exact .refl _

theorem arrive_agenda (i : Instr) (d : Dest) {s : State} (h : s.agenda = []) : (arrive i d s).agenda = [] := by
  unfold arrive
  simp only []
  split
  · exact closeStream_agenda h
  · exact h

/-- With no stream OPEN, an arrival changes the Line Interface alone. -/
theorem arrive_closed (i : Instr) (d : Dest) {s : State} (h : s.guide.stream = none) :
    arrive i d s = startWork i d s := by
  unfold arrive
  simp only []
  split
  · exact closeStream_closed h
  · rfl

end Sys2Proof.Machine
end

