-- ==== Sys2Proof/Laws/Commands.lean ====
section
/-! SUPPORT. Message commands and the work that the settings and the services bring with them. -/

namespace Sys2Proof.Machine

/-! ### A message's answer (R171, R172) -/

theorem hears_of {s : State} (h : s.running = true) (k : s.line.state.takes = true) : s.hears = true := by
  simp [State.hears, h, k]

theorem respond_pair (k : Byte) (d : Dest) (w : State × Answer) :
    respond k d w = w.1.answering d (replyOf k w.2) := by cases d <;> rfl

/-- A message with its fields, when the part hears it: the owner's work on the state that has arrived, and its answer. -/
theorem message_fields {α : Type} {i : Instr} {d : Dest} {a : α} {owner : α → State → State × Answer} {s : State}
    (h : s.running = true) (k : s.line.state.takes = true) :
    message i d (.fields a) owner s
      = (owner a (arrive i d s)).1.answering d (replyOf (kindByte i) (owner a (arrive i d s)).2) := by
  simp [message, hears_of h k, respond_pair]

/-! ### What a changed setting brings (R173, R118, R136) -/

theorem overrunChanged_works (b : Nat) (s : State) : Works s (overrunChanged b s) := by
  unfold overrunChanged; split
  · have a := mapBookings_works s (pullDown s) (fun b => by unfold pullDown; simp only []; split <;> rfl)
    simp only []
    exact (((a.trans (finishGroup_works _ _ _)).trans (settle_works _)).trans (passIfSet_works _)).trans (settle_works _)
  · exact .refl s

theorem lateChanged_works (s : State) : Works s (lateChanged s) := by
  unfold lateChanged; simp only []
  exact ((mapBookings_works s (relimit s.settings) (fun b => by unfold relimit; split <;> rfl)).trans
    (finishGroup_works _ _ _)).trans (settle_works _)

theorem rewarn_works (t : TunerId) (s : State) : Works s (rewarn t s) := by
  unfold rewarn; split
  · rename_i h hh
    split
    · exact setWarning_works s t h (by rw [hh]; rfl)
    · exact .refl s
  · exact .refl s

theorem settingEffect_works (id : Nat) (b : Settings) (s : State) : Works s (settingEffect id b s) := by
  unfold settingEffect
  split
  · exact (deriveAndPass_works _).trans (settle_works _)
  · exact (deriveAndPass_works _).trans (settle_works _)
  · exact (deriveAndPass_works _).trans (settle_works _)
  · exact overrunChanged_works _ _
  · exact lateChanged_works _
  · exact (recomputeWake_works _).trans (settle_works _)
  · exact ((rewarn_works _ _).trans (rewarn_works _ _)).trans (settle_works _)
  · exact ((deriveAndPass_works _).trans (recomputeWake_works _)).trans (settle_works _)
  · exact (recomputeWake_works _).trans (settle_works _)
  · exact (recomputeWake_works _).trans (settle_works _)
  · exact (passIfSet_works _).trans (settle_works _)
  · exact (passIfSet_works _).trans (settle_works _)
  · exact (passIfSet_works _).trans (settle_works _)
  · exact spacePart_works _
  · exact spacePart_works _
  · exact .refl _

end Sys2Proof.Machine
end

