-- ==== Sys2Proof/Laws/PerInstr.lean ====
section
/-! SUPPORT. One lemma per command: the payload of a well-formed message has its kind and fits the 64 bytes of a message
(R170). -/

namespace Sys2Proof.Laws

/-- A well-formed message command has a kind byte, and its payload has at most 64 bytes (R170, section 10.5). -/
def PayloadFits.Statement (i : Instr) : Prop :=
  i.wellFormed = true → ∀ d p, payloadOf i = some (d, p) → p.length ≤ 64 ∧ (kindOf i).isSome = true

/-- A payload of a length the catalogue does not give still fits. -/
theorem badLength_fits (α : Type) {allowed : List Nat} {p : List Byte}
    (h : plainBodyOk (α := α) allowed (.badLength p) = true) : p.length ≤ 64 := by
  simp only [plainBodyOk, badLengthOk, Bool.and_eq_true, decide_eq_true_eq] at h; exact h.1

theorem none_fits {b : Body Unit} (h : plainBodyOk [0] b = true) : (encodeNone b).length ≤ 64 := by
  cases b with
  | fields _ => simp [encodeNone]
  | badLength _ => exact badLength_fits _ h

theorem byte_fits {b : Body Byte} (h : plainBodyOk [1] b = true) : (encodeByte b).length ≤ 64 := by
  cases b with
  | fields _ => simp [encodeByte]
  | badLength _ => exact badLength_fits _ h

theorem word16_fits {b : Body Word16} (h : plainBodyOk [2] b = true) : (encodeWord16 b).length ≤ 64 := by
  cases b with
  | fields _ => simp [encodeWord16, bytes16]
  | badLength _ => exact badLength_fits _ h

theorem word32_fits {b : Body Word32} (h : plainBodyOk [4] b = true) : (encodeWord32 b).length ≤ 64 := by
  cases b with
  | fields _ => simp [encodeWord32, bytes32]
  | badLength _ => exact badLength_fits _ h

theorem guidePut_fits {b : Body GuidePutArgs} (h : plainBodyOk [20, 40, 60] b = true) :
    (encodeGuidePut b).length ≤ 64 := by
  cases b with
  | fields a => cases a <;> simp [encodeGuidePut, GuidePutArgs.entries, encodeEntry, bytes16, bytes32, bytes24]
  | badLength _ => exact badLength_fits _ h

theorem reqAdd_fits {b : Body ReqAddArgs} (h : reqAddOk b = true) : (encodeReqAdd b).length ≤ 64 := by
  cases b with
  | fields a =>
    cases a with
    | timed => simp [encodeReqAdd, encodeCommon, bytes16, bytes32]
    | event => simp [encodeReqAdd, encodeCommon, bytes16]
    | series => simp [encodeReqAdd, encodeCommon, bytes16, bytes32]
    | other k r =>
      simp only [reqAddOk, Bool.and_eq_true, decide_eq_true_eq] at h
      simp only [encodeReqAdd, List.length_cons]; omega
  | badLength p =>
    cases p with
    | nil => simp [encodeReqAdd]
    | cons k r =>
      simp only [reqAddOk, Bool.and_eq_true, decide_eq_true_eq] at h
      simp only [encodeReqAdd, List.length_cons]; omega

theorem reqEdit_fits {b : Body ReqEditArgs} (h : reqEditOk b = true) : (encodeReqEdit b).length ≤ 64 := by
  cases b with
  | fields a =>
    obtain ⟨n, a⟩ := a
    cases a with
    | timed => simp [encodeReqEdit, encodeCommon, bytes16, bytes32]
    | event => simp [encodeReqEdit, encodeCommon, bytes16]
    | series => simp [encodeReqEdit, encodeCommon, bytes16]
    | other k r =>
      simp only [reqEditOk, Bool.and_eq_true, decide_eq_true_eq] at h
      simp only [encodeReqEdit, List.length_cons]; omega
  | badLength p =>
    match p with
    | [] => simp [encodeReqEdit]
    | [_] => simp [encodeReqEdit]
    | _ :: _ :: r =>
      simp only [reqEditOk, Bool.and_eq_true, decide_eq_true_eq] at h
      simp only [encodeReqEdit, List.length_cons]; omega

theorem PayloadFits.powerOn (straps : Straps) : PayloadFits.Statement (.powerOn straps) := by
  intro _ d p hp; cases hp

theorem PayloadFits.resetPin (event : ResetPinEvent) : PayloadFits.Statement (.resetPin event) := by
  intro _ d p hp; cases hp

theorem PayloadFits.presentAdvance : PayloadFits.Statement (.presentAdvance) := by
  intro _ d p hp; cases hp

theorem PayloadFits.assemblyTimeout (lead : List LineChar) : PayloadFits.Statement (.assemblyTimeout lead) := by
  intro _ d p hp; cases hp

theorem PayloadFits.unknownKindMessage (dest : Dest) (kind : Byte) (payload : List Byte) : PayloadFits.Statement (.unknownKindMessage dest kind payload) := by
  intro h d p hp
  cases hp
  simp only [Instr.wellFormed, Bool.and_eq_true, decide_eq_true_eq] at h
  exact ⟨h.1, rfl⟩

theorem PayloadFits.replyComplete : PayloadFits.Statement (.replyComplete) := by
  intro _ d p hp; cases hp

theorem PayloadFits.greet (dest : Dest) (body : Body Unit) : PayloadFits.Statement (.greet dest body) := by
  intro h d p hp; cases hp; exact ⟨none_fits h, rfl⟩

theorem PayloadFits.rest (dest : Dest) (body : Body Unit) : PayloadFits.Statement (.rest dest body) := by
  intro h d p hp; cases hp; exact ⟨none_fits h, rfl⟩

theorem PayloadFits.clock (dest : Dest) (body : Body Word32) : PayloadFits.Statement (.clock dest body) := by
  intro h d p hp; cases hp; exact ⟨word32_fits h, rfl⟩

theorem PayloadFits.query (dest : Dest) (body : Body Unit) : PayloadFits.Statement (.query dest body) := by
  intro h d p hp; cases hp; exact ⟨none_fits h, rfl⟩

theorem PayloadFits.paramSet (dest : Dest) (body : Body ParamSetArgs) : PayloadFits.Statement (.paramSet dest body) := by
  intro h d p hp
  cases body with
  | fields a =>
    cases hp
    simp only [Instr.wellFormed, paramSetOk, Bool.and_eq_true, decide_eq_true_eq] at h
    exact ⟨by simp only [List.length_cons]; omega, rfl⟩
  | badLength q =>
    cases hp
    cases p with
    | nil => exact ⟨by simp, rfl⟩
    | cons x q =>
      simp only [Instr.wellFormed, paramSetOk, Bool.and_eq_true, decide_eq_true_eq] at h
      exact ⟨by simp only [List.length_cons]; omega, rfl⟩

theorem PayloadFits.paramGet (dest : Dest) (body : Body Byte) : PayloadFits.Statement (.paramGet dest body) := by
  intro h d p hp; cases hp; exact ⟨byte_fits h, rfl⟩

theorem PayloadFits.reset (dest : Dest) (body : Body Byte) : PayloadFits.Statement (.reset dest body) := by
  intro h d p hp; cases hp; exact ⟨byte_fits h, rfl⟩

theorem PayloadFits.svcPut (dest : Dest) (body : Body SvcPutArgs) : PayloadFits.Statement (.svcPut dest body) := by
  intro h d p hp
  cases body with
  | fields a => cases hp; exact ⟨by simp [bytes16], rfl⟩
  | badLength _ => cases hp; exact ⟨badLength_fits SvcPutArgs h, rfl⟩

theorem PayloadFits.svcDrop (dest : Dest) (body : Body Word16) : PayloadFits.Statement (.svcDrop dest body) := by
  intro h d p hp; cases hp; exact ⟨word16_fits h, rfl⟩

theorem PayloadFits.svcRead (dest : Dest) (body : Body Word16) : PayloadFits.Statement (.svcRead dest body) := by
  intro h d p hp; cases hp; exact ⟨word16_fits h, rfl⟩

theorem PayloadFits.tunerCfg (dest : Dest) (body : Body TunerCfgArgs) : PayloadFits.Statement (.tunerCfg dest body) := by
  intro h d p hp
  cases body with
  | fields a => cases hp; exact ⟨by simp, rfl⟩
  | badLength _ => cases hp; exact ⟨badLength_fits TunerCfgArgs h, rfl⟩

theorem PayloadFits.viewOn (dest : Dest) (body : Body ViewOnArgs) : PayloadFits.Statement (.viewOn dest body) := by
  intro h d p hp
  cases body with
  | fields a => cases hp; exact ⟨by simp [bytes16], rfl⟩
  | badLength _ => cases hp; exact ⟨badLength_fits ViewOnArgs h, rfl⟩

theorem PayloadFits.viewOff (dest : Dest) (body : Body Byte) : PayloadFits.Statement (.viewOff dest body) := by
  intro h d p hp; cases hp; exact ⟨byte_fits h, rfl⟩

theorem PayloadFits.guideOpen (dest : Dest) (body : Body GuideOpenArgs) : PayloadFits.Statement (.guideOpen dest body) := by
  intro h d p hp
  cases body with
  | fields a => cases hp; exact ⟨by simp [bytes16, bytes32], rfl⟩
  | badLength _ => cases hp; exact ⟨badLength_fits GuideOpenArgs h, rfl⟩

theorem PayloadFits.guidePut (dest : Dest) (body : Body GuidePutArgs) : PayloadFits.Statement (.guidePut dest body) := by
  intro h d p hp; cases hp; exact ⟨guidePut_fits h, rfl⟩

theorem PayloadFits.guideFlush (dest : Dest) (body : Body GuideFlushArgs) : PayloadFits.Statement (.guideFlush dest body) := by
  intro h d p hp
  cases body with
  | fields a => cases a <;> (cases hp; exact ⟨by simp [bytes16], rfl⟩)
  | badLength _ => cases hp; exact ⟨badLength_fits GuideFlushArgs h, rfl⟩

theorem PayloadFits.running (dest : Dest) (body : Body RunningArgs) : PayloadFits.Statement (.running dest body) := by
  intro h d p hp
  cases body with
  | fields a => cases hp; exact ⟨by simp [bytes16], rfl⟩
  | badLength _ => cases hp; exact ⟨badLength_fits RunningArgs h, rfl⟩

theorem PayloadFits.agingScan : PayloadFits.Statement (.agingScan) := by
  intro _ d p hp; cases hp

theorem PayloadFits.reqAdd (dest : Dest) (body : Body ReqAddArgs) : PayloadFits.Statement (.reqAdd dest body) := by
  intro h d p hp; cases hp; exact ⟨reqAdd_fits h, rfl⟩

theorem PayloadFits.reqEdit (dest : Dest) (body : Body ReqEditArgs) : PayloadFits.Statement (.reqEdit dest body) := by
  intro h d p hp; cases hp; exact ⟨reqEdit_fits h, rfl⟩

theorem PayloadFits.reqDrop (dest : Dest) (body : Body Byte) : PayloadFits.Statement (.reqDrop dest body) := by
  intro h d p hp; cases hp; exact ⟨byte_fits h, rfl⟩

theorem PayloadFits.reqPause (dest : Dest) (body : Body Byte) : PayloadFits.Statement (.reqPause dest body) := by
  intro h d p hp; cases hp; exact ⟨byte_fits h, rfl⟩

theorem PayloadFits.reqResume (dest : Dest) (body : Body Byte) : PayloadFits.Statement (.reqResume dest body) := by
  intro h d p hp; cases hp; exact ⟨byte_fits h, rfl⟩

theorem PayloadFits.reqRead (dest : Dest) (body : Body ReqReadArgs) : PayloadFits.Statement (.reqRead dest body) := by
  intro h d p hp
  cases body with
  | fields a => cases hp; exact ⟨by simp, rfl⟩
  | badLength _ => cases hp; exact ⟨badLength_fits ReqReadArgs h, rfl⟩

theorem PayloadFits.bookRead (dest : Dest) (body : Body Word16) : PayloadFits.Statement (.bookRead dest body) := by
  intro h d p hp; cases hp; exact ⟨word16_fits h, rfl⟩

theorem PayloadFits.bookCancel (dest : Dest) (body : Body Word16) : PayloadFits.Statement (.bookCancel dest body) := by
  intro h d p hp; cases hp; exact ⟨word16_fits h, rfl⟩

theorem PayloadFits.bookStop (dest : Dest) (body : Body Word16) : PayloadFits.Statement (.bookStop dest body) := by
  intro h d p hp; cases hp; exact ⟨word16_fits h, rfl⟩

theorem PayloadFits.space (dest : Dest) (body : Body Word32) : PayloadFits.Statement (.space dest body) := by
  intro h d p hp; cases hp; exact ⟨word32_fits h, rfl⟩

theorem PayloadFits.hold (dest : Dest) (body : Body Byte) : PayloadFits.Statement (.hold dest body) := by
  intro h d p hp; cases hp; exact ⟨byte_fits h, rfl⟩

theorem PayloadFits.take (dest : Dest) (body : Body Unit) : PayloadFits.Statement (.take dest body) := by
  intro h d p hp; cases hp; exact ⟨none_fits h, rfl⟩

theorem PayloadFits.confirm (dest : Dest) (body : Body ConfirmArgs) : PayloadFits.Statement (.confirm dest body) := by
  intro h d p hp
  cases body with
  | fields a => cases hp; exact ⟨by simp [bytes16], rfl⟩
  | badLength _ => cases hp; exact ⟨badLength_fits ConfirmArgs h, rfl⟩

theorem PayloadFits.alertAck (dest : Dest) (body : Body Byte) : PayloadFits.Statement (.alertAck dest body) := by
  intro h d p hp; cases hp; exact ⟨byte_fits h, rfl⟩

theorem PayloadFits.alertMask (dest : Dest) (body : Body AlertMaskArgs) : PayloadFits.Statement (.alertMask dest body) := by
  intro h d p hp
  cases body with
  | fields a => cases hp; exact ⟨by simp, rfl⟩
  | badLength _ => cases hp; exact ⟨badLength_fits AlertMaskArgs h, rfl⟩

theorem PayloadFits.attnEnable (dest : Dest) (body : Body Byte) : PayloadFits.Statement (.attnEnable dest body) := by
  intro h d p hp; cases hp; exact ⟨byte_fits h, rfl⟩

theorem PayloadFits.panelStage (dest : Dest) (body : Body PanelStageArgs) : PayloadFits.Statement (.panelStage dest body) := by
  intro h d p hp
  cases body with
  | fields a => cases hp; exact ⟨by simp, rfl⟩
  | badLength _ => cases hp; exact ⟨badLength_fits PanelStageArgs h, rfl⟩

theorem PayloadFits.panelSet (dest : Dest) (body : Body Byte) : PayloadFits.Statement (.panelSet dest body) := by
  intro h d p hp; cases hp; exact ⟨byte_fits h, rfl⟩

theorem PayloadFits.storeSave (dest : Dest) (body : Body Unit) : PayloadFits.Statement (.storeSave dest body) := by
  intro h d p hp; cases hp; exact ⟨none_fits h, rfl⟩

theorem PayloadFits.storeQuery (dest : Dest) (body : Body Unit) : PayloadFits.Statement (.storeQuery dest body) := by
  intro h d p hp; cases hp; exact ⟨none_fits h, rfl⟩

theorem PayloadFits.eraseComplete : PayloadFits.Statement (.eraseComplete) := by
  intro _ d p hp; cases hp

theorem PayloadFits.writeComplete : PayloadFits.Statement (.writeComplete) := by
  intro _ d p hp; cases hp

theorem PayloadFits.windowStart (booking : Nat) : PayloadFits.Statement (.windowStart booking) := by
  intro _ d p hp; cases hp

theorem PayloadFits.lateLimit (booking : Nat) : PayloadFits.Statement (.lateLimit booking) := by
  intro _ d p hp; cases hp

theorem PayloadFits.takeDeadline (booking : Nat) : PayloadFits.Statement (.takeDeadline booking) := by
  intro _ d p hp; cases hp

theorem PayloadFits.confirmTimer (booking : Nat) : PayloadFits.Statement (.confirmTimer booking) := by
  intro _ d p hp; cases hp

theorem PayloadFits.provisionalEnd (booking : Nat) : PayloadFits.Statement (.provisionalEnd booking) := by
  intro _ d p hp; cases hp

theorem PayloadFits.wakeExpiry : PayloadFits.Statement (.wakeExpiry) := by
  intro _ d p hp; cases hp

theorem PayloadFits.wakeTimeout : PayloadFits.Statement (.wakeTimeout) := by
  intro _ d p hp; cases hp

theorem PayloadFits.warningExpiry (tuner : TunerId) : PayloadFits.Statement (.warningExpiry tuner) := by
  intro _ d p hp; cases hp

theorem PayloadFits.badCheckMessage (dest : Dest) (kind : Byte) (payload : List Byte) (check : Byte) : PayloadFits.Statement (.badCheckMessage dest kind payload check) := by
  intro h d p hp
  cases hp
  simp only [Instr.wellFormed, Bool.and_eq_true, decide_eq_true_eq] at h
  exact ⟨h.1, rfl⟩

theorem PayloadFits.deselection (lead : List LineChar) (address : Byte) : PayloadFits.Statement (.deselection lead address) := by
  intro _ d p hp; cases hp

theorem PayloadFits.impossibleLength (dest : Dest) (len : Byte) : PayloadFits.Statement (.impossibleLength dest len) := by
  intro _ d p hp; cases hp

theorem PayloadFits.powerLoss : PayloadFits.Statement (.powerLoss) := by
  intro _ d p hp; cases hp

end Sys2Proof.Laws
end

