-- ==== Sys2Proof/Tests/Slice0.lean ====
section
/-! SUPPORT. The model's own tests: ill-formed terms, words of the line, single commands with the results the spec gives
(chapters 10 and 12), and for each obligation with hypotheses a state and operands that meet them. -/

namespace Sys2Proof.Tests

open Sys2Proof Sys2Proof.Machine

set_option Elab.async false

/-! ### WellFormed: an ill-formed term for each check -/

/-- A payload longer than a message carries (R170). -/
def long : List Byte := List.replicate 65 0

theorem test_ill_assemblyTimeout :
    (Instr.assemblyTimeout [dataChar 1, dataChar 2, dataChar 3]).wellFormed = false := by decide
theorem test_ill_deselection_lead :
    (Instr.deselection [addressChar 5, dataChar 1, dataChar 2, dataChar 3] 4).wellFormed = false := by decide
theorem test_ill_deselection_broadcast : (Instr.deselection [] 15).wellFormed = false := by decide
theorem test_ill_unknown_kind : (Instr.unknownKindMessage .own 0x50 []).wellFormed = false := by decide
theorem test_ill_unknown_long : (Instr.unknownKindMessage .own 0x08 long).wellFormed = false := by decide
theorem test_ill_check_good : (Instr.badCheckMessage .own 0x50 [] 0xA2).wellFormed = false := by decide +kernel
theorem test_ill_check_long : (Instr.badCheckMessage .own 0x50 long 1).wellFormed = false := by decide
theorem test_ill_impossible_length : ∀ n ∈ [1, 65], (Instr.impossibleLength .own n).wellFormed = false := by decide
theorem test_ill_no_payload : ∀ b ∈ [Body.badLength [], .badLength long],
    (Instr.greet .own b).wellFormed = false ∧ (Instr.rest .own b).wellFormed = false
    ∧ (Instr.query .own b).wellFormed = false ∧ (Instr.take .own b).wellFormed = false
    ∧ (Instr.storeSave .own b).wellFormed = false ∧ (Instr.storeQuery .own b).wellFormed = false := by decide
theorem test_ill_one_byte : ∀ b ∈ [Body.badLength [0], .badLength long],
    (Instr.paramGet .own b).wellFormed = false ∧ (Instr.reset .own b).wellFormed = false
    ∧ (Instr.viewOff .own b).wellFormed = false ∧ (Instr.reqDrop .own b).wellFormed = false
    ∧ (Instr.reqPause .own b).wellFormed = false ∧ (Instr.reqResume .own b).wellFormed = false
    ∧ (Instr.hold .own b).wellFormed = false ∧ (Instr.alertAck .own b).wellFormed = false
    ∧ (Instr.attnEnable .own b).wellFormed = false ∧ (Instr.panelSet .own b).wellFormed = false := by decide
theorem test_ill_two_bytes : ∀ b ∈ [Body.badLength [0, 0], .badLength long],
    (Instr.svcDrop .own b).wellFormed = false ∧ (Instr.svcRead .own b).wellFormed = false
    ∧ (Instr.bookRead .own b).wellFormed = false ∧ (Instr.bookCancel .own b).wellFormed = false
    ∧ (Instr.bookStop .own b).wellFormed = false := by decide
theorem test_ill_four_bytes : ∀ b ∈ [Body.badLength [0, 0, 0, 0], .badLength long],
    (Instr.clock .own b).wellFormed = false ∧ (Instr.space .own b).wellFormed = false := by decide
theorem test_ill_structured :
    (Instr.svcPut .own (.badLength (List.replicate 6 0))).wellFormed = false
    ∧ (Instr.tunerCfg .own (.badLength [0, 0, 0])).wellFormed = false
    ∧ (Instr.viewOn .own (.badLength [0, 0, 0])).wellFormed = false
    ∧ (Instr.guideOpen .own (.badLength (List.replicate 13 0))).wellFormed = false
    ∧ (Instr.guidePut .own (.badLength (List.replicate 40 0))).wellFormed = false
    ∧ (Instr.guideFlush .own (.badLength [])).wellFormed = false
    ∧ (Instr.running .own (.badLength (List.replicate 5 0))).wellFormed = false
    ∧ (Instr.reqRead .own (.badLength [0, 0])).wellFormed = false
    ∧ (Instr.confirm .own (.badLength [0, 0, 0])).wellFormed = false
    ∧ (Instr.alertMask .own (.badLength [0, 0])).wellFormed = false
    ∧ (Instr.panelStage .own (.badLength [0, 0, 0])).wellFormed = false := by decide
theorem test_ill_paramSet :
    (Instr.paramSet .own (.fields ⟨6, [1]⟩)).wellFormed = false
    ∧ (Instr.paramSet .own (.fields ⟨0, List.replicate 64 0⟩)).wellFormed = false
    ∧ (Instr.paramSet .own (.badLength [6, 1, 2])).wellFormed = false
    ∧ (Instr.paramSet .own (.badLength [20, 1])).wellFormed = false := by decide
theorem test_ill_reqAdd :
    (Instr.reqAdd .own (.fields (.other 2 []))).wellFormed = false
    ∧ (Instr.reqAdd .own (.fields (.other 9 (List.replicate 64 0)))).wellFormed = false
    ∧ (Instr.reqAdd .own (.badLength (2 :: List.replicate 10 0))).wellFormed = false
    ∧ (Instr.reqAdd .own (.badLength (9 :: [0]))).wellFormed = false := by decide
theorem test_ill_reqEdit :
    (Instr.reqEdit .own (.fields ⟨1, .other 3 []⟩)).wellFormed = false
    ∧ (Instr.reqEdit .own (.fields ⟨1, .other 9 (List.replicate 63 0)⟩)).wellFormed = false
    ∧ (Instr.reqEdit .own (.badLength (1 :: 1 :: List.replicate 13 0))).wellFormed = false
    ∧ (Instr.reqEdit .own (.badLength [1, 9])).wellFormed = false := by decide
theorem test_ill_booking_number :
    (Instr.windowStart 0).wellFormed = false ∧ (Instr.lateLimit 65536).wellFormed = false
    ∧ (Instr.takeDeadline 0).wellFormed = false ∧ (Instr.confirmTimer 65536).wellFormed = false
    ∧ (Instr.provisionalEnd 0).wellFormed = false := by decide

/-! ### Words of the line (section 10.8; the check of R171) -/

/-- Section 10.8: QUERY's check is 0x09, TAKE's 0xA2. -/
theorem test_check_bytes : checkOf 0x04 [] = 0x09 ∧ checkOf 0x50 [] = 0xA2 := by decide +kernel

/-- Section 10.8: the EMPTY reply to TAKE is 04 D0 00 00 00 and its check 42, after address 0. -/
theorem test_reply_chars : replyChars (.accepted (.take .empty 0 0))
    = [addressChar 0, dataChar 4, dataChar 0xD0, dataChar 0, dataChar 0, dataChar 0, dataChar 0x42] := by decide +kernel

/-- Section 10.8: a TAKE with check 0xA3 is answered 7F with 50 01 00. -/
theorem test_check_refusal : replyContent (.refused 0x50 .check []) = (0x7F, [0x50, 0x01, 0x00]) := by decide

/-- R168: a start bit, 0x53 least significant bit first, the marker, a high stop bit; ten bits spell no character. -/
theorem test_char_bits :
    charBits (addressChar 0x53) = [false, true, true, false, false, true, false, true, false, true, true]
    ∧ charOfBits (charBits (dataChar 0xA2)) = some (dataChar 0xA2)
    ∧ charOfBits (List.replicate 10 false) = none := by decide +kernel

/-- QUERY, TAKE, PARAM_SET of WAKE_LEAD 300, CLOCK of 820,000,000, VIEW_ON of B to channel 310, and a TIMED REQ_ADD,
byte by byte as R179 lays them out. -/
theorem test_decode_words :
    decodeFrame .own [1, 0x04, 0x09] = some (.query .own (.fields ()))
    ∧ decodeFrame .broadcast [1, 0x50, 0xA2] = some (.take .broadcast (.fields ()))
    ∧ decodeFrame .own [1, 0x50, 0xA3] = some (.badCheckMessage .own 0x50 [] 0xA3)
    ∧ decodeFrame .own [4, 0x05, 6, 0x01, 0x2C, checkOf 0x05 [6, 0x01, 0x2C]]
        = some (.paramSet .own (.fields ⟨6, [0x01, 0x2C]⟩))
    ∧ decodeFrame .own [5, 0x03, 0x30, 0xE0, 0x4D, 0x00, checkOf 0x03 [0x30, 0xE0, 0x4D, 0x00]]
        = some (.clock .own (.fields 820006144))
    ∧ decodeFrame .own [4, 0x14, 1, 0x01, 0x36, checkOf 0x14 [1, 0x01, 0x36]]
        = some (.viewOn .own (.fields ⟨1, 310⟩))
    ∧ decodeFrame .own (17 :: 0x30 :: [1, 8, 0xFF, 0xFF, 0, 60, 0, 0, 205, 0x07, 0x08, 0b0000011, 0, 0, 0x0E, 0x10]
          ++ [checkOf 0x30 [1, 8, 0xFF, 0xFF, 0, 60, 0, 0, 205, 0x07, 0x08, 0b0000011, 0, 0, 0x0E, 0x10]])
        = some (.reqAdd .own (.fields (.timed ⟨8, 65535, 60, 0⟩ 205 1800 3 3600))) := by decide +kernel

/-- Each character of a message moves the Line Interface from IDLE through ASSEMBLING to WORKING (R169). -/
theorem test_line_states :
    let l := (State.reset.line.char (addressChar 14))
    l.state = .assembling .own []
    ∧ (l.chars [dataChar 1, dataChar 0x50]).state = .assembling .own [1, 0x50]
    ∧ (l.chars [dataChar 1, dataChar 0x50, dataChar 0xA2]).state = .working .own 0x50 [] 0xA2 := by decide

/-- The table gives no row bits. -/
theorem test_no_table_words : decodeTableWord 8 0x50 = none
    ∧ State.reset.withFetchWord 8 0x50 = State.reset := ⟨rfl, rfl⟩

/-! ### States for the tests -/

/-- What a command leaves. -/
def after (c : Instr) (s : State) : State :=
  match exec c s with
  | .next t => t
  | _ => s

/-- The reply of a command. -/
def answer (c : Instr) (s : State) : Option Reply := (after c s).line.reply

/-- The part hears a message. -/
abbrev heard (s : State) : Prop := s.running = true ∧ s.line.state.takes = true

/-- The clock set, the host AWAKE, nothing in the queues. -/
def clocked : State := { State.reset with
  present := 820000000
  clockSet := true
  host := { HostRecord.powerOn with state := .awake }
  outbox := ⟨[], [], 0, true⟩ }

/-- A save in one of its phases. -/
def during (st : ImageState) (s : State) : State := { s with image := { s.image with state := st } }

/-- The services of section 12.1, with rate class 1. -/
def evening : State := { clocked with
  services := [⟨101, 0, 12, 1⟩, ⟨102, 0, 12, 1⟩, ⟨205, 0, 30, 1⟩, ⟨310, 0, 50, 1⟩, ⟨401, 1, 70, 1⟩]
  tunerA := ⟨true, 0x1, none⟩
  tunerB := ⟨true, 0x3, some ⟨310, 50, 0, none, none, false, none⟩⟩
  requests := [⟨3, .active, 8, none, none, 0, .series ⟨4400, 101, false, true, []⟩⟩,
    ⟨6, .active, 8, none, none, 1, .series ⟨5500, 0, true, false, []⟩⟩,
    ⟨8, .active, 12, none, none, 0, .timed ⟨205, 1800, 0, 820007800, [], none⟩⟩] }

/-- An entry as GUIDE_PUT leaves it. -/
def entry (slot ch ev start du series episode : Nat) : GuideEntry :=
  ⟨slot, ch, ev, start, du, some series, some episode, .unknown, false, some 820000000, 0, false, [], true⟩

/-- A PLANNED booking of a single TIMED request. -/
def booking (n request : Nat) (t : TunerId) (ch start duration winStart winEnd : Nat) : Booking where
  number := n
  request := request
  key := .localDay (localDay Settings.defaults start)
  channel := ch
  progStart := start
  progDuration := duration
  winStart := winStart
  winEnd := winEnd
  provEnd := winEnd
  tier := 3
  state := some .planned
  place := some ⟨t, 0⟩
  alternate := false
  spaceShort := false
  accurate := false
  partners := []
  episode := none
  begun := none
  cut := none
  dueAt := none
  windowExpiry := some winStart
  lateExpiry := none
  takeExpiry := none
  confirmExpiry := none
  provExpiry := none

/-- The evening with its stream OPEN and the entries of section 12.1.2 in the store. -/
def streaming : State := { evening with
  guide := ⟨[entry 0 101 1 820003600 3600 4400 41, entry 1 102 2 820004200 1800 5500 7,
      entry 2 205 3 820005000 1800 5500 8, entry 3 401 4 820005400 1800 5500 9,
      entry 4 401 5 820060000 1800 5500 9],
    some ⟨1, 9999, 819990000, 820100000, false⟩, true, false, false, none, false⟩
  plan := { Planner.empty with
    counter := 20
    bookings := [booking 19 8 .a 205 820007800 1800 820007740 820009780] } }

/-- The night of section 12.2: two PLANNED bookings, the image CURRENT. -/
def night : State := { clocked with
  present := 820080000
  settings := { Settings.defaults with
    localOffset := 4, wakeLead := 120, wakeTimeout := 240, lateLimit := 1200, confirmTimeout := 20 }
  services := [⟨101, 0, 12, 1⟩]
  requests := [⟨1, .active, 8, none, none, 0, .timed ⟨101, 3540, 0, 820090060, [], none⟩⟩,
    ⟨2, .active, 8, none, none, 1, .timed ⟨101, 3540, 0, 820091060, [], none⟩⟩]
  plan := { Planner.empty with
    counter := 52
    bookings := [booking 50 1 .a 101 820090060 3540 820090000 820093780,
      booking 51 2 .b 101 820091060 3540 820091000 820094780] }
  alerts := { clocked.alerts with image := .current, inService := LevelFlags.clear }
  image := { clocked.image with state := .current } }

/-- The night at another time with the host in another state. -/
def nightAt (t : Nat) (h : HostRecord) : State := { night with present := t, host := h }

def awake : HostRecord := { HostRecord.powerOn with state := .awake }
def sleeping : HostRecord := ⟨.sleeping, some 820089880, .booking 50, none, none, none, .none, false⟩
def waking : HostRecord := ⟨.waking, none, .booking 50, some 820090120, some 820089880, none, .booking 50, true⟩

/-- The night with booking 50 in another state. -/
def with50 (t : Nat) (f : Booking → Booking) : State := (nightAt t awake).mapBooking 50 f

def clashed50 (b : Booking) : Booking :=
  { b with state := some .clashed, place := none, windowExpiry := none, lateExpiry := some 820091200 }
def late50 (b : Booking) : Booking :=
  { b with state := some .late, windowExpiry := none, lateExpiry := some 820091200 }
def due50 (b : Booking) : Booking :=
  { b with state := some .due, windowExpiry := none, dueAt := some 820090900, takeExpiry := some 820091200 }
def starting50 (b : Booking) : Booking :=
  { b with
    state := some .starting, windowExpiry := none
    confirmExpiry := some 820090922, provExpiry := some 820093780 }
def recording50 (b : Booking) : Booking :=
  { b with
    state := some .recording, windowExpiry := none, begun := some 820090904, provExpiry := some 820093780 }

/-- Booking 50 DUE with its BEGIN waiting. -/
def waiting : State :=
  let s := with50 820090902 due50
  { s with outbox := { s.outbox with
    directives := [.beginRec ⟨50, ⟨.a, 0⟩, 101, 0, 12, 820090060, 3540, 820093780, false⟩]
    notices := [.wakeFailed 820089880] } }

/-- Booking 50 RECORDING. -/
def recordingAt (t : Nat) : State :=
  let s := with50 t recording50
  { s with run := ⟨false, 1⟩, panel := { s.panel with lines := 1 } }

/-! ### One command each: power, time and the line -/

/-- R167: address 0 gives 14, rate strap high gives 115,200; R166: STORE_STALE waits with ABSENT. -/
theorem test_power_on_samples_straps :
    let t := after (.powerOn ⟨0, true⟩) (after .powerLoss clocked)
    t.line = ⟨14, .baud115200, .idle, none⟩ ∧ t.outbox.notices = [.storeStale .absent] ∧ t.clockSet = false := by
  decide +kernel

/-- R167, R184: RESET_N low stops the part and loses the volatile state; its release starts it again. -/
theorem test_reset_pin_stops_and_starts :
    let t := after (.resetPin .low) night
    t.running = false ∧ t.requests = [] ∧ (after (.resetPin (.release ⟨7, false⟩)) t).running = true
    ∧ (after (.resetPin (.release ⟨7, false⟩)) t).line.dropAddress = 7 := by decide +kernel

theorem test_power_loss_stops : (after .powerLoss waiting).running = false
    ∧ waiting.attention = true ∧ (after .powerLoss waiting).attention = false := by decide +kernel

/-- R1: the present stops at 4,294,967,295. -/
theorem test_present_stops : (after .presentAdvance { clocked with present := 4294967295 }).present = 4294967295
    ∧ (after .presentAdvance { clocked with present := 4294967294 }).present = 4294967295 := by decide +kernel

/-- R169, R170: the line events move the Line Interface. -/
theorem test_line_events :
    (after (.assemblyTimeout [addressChar 14, dataChar 9]) clocked).line.state = .idle
    ∧ (after (.deselection [addressChar 14] 3) clocked).line.state = .idle
    ∧ (after (.impossibleLength .own 66) clocked).line.state = .skipping
    ∧ (after .replyComplete (after (.query .own (.fields ())) clocked)).line.state = .idle := by decide +kernel

/-- R171: the refusals before an owner. -/
theorem test_refused_messages :
    answer (.unknownKindMessage .own 0x08 [1]) clocked = some (.refused 0x08 .kind [])
    ∧ answer (.badCheckMessage .own 0x50 [] 0xA3) clocked = some (.refused 0x50 .check [])
    ∧ answer (.greet .own (.badLength [0])) clocked = some (.refused 0x01 .length [])
    ∧ answer (.greet .broadcast (.badLength [0])) clocked = none := by decide +kernel

/-- R2, R3: the boundaries of the span and the step classes. -/
theorem test_clock_span_and_class :
    answer (.clock .own (.fields 315359999)) State.reset = some (.refused 0x03 .range [])
    ∧ answer (.clock .own (.fields 4000000001)) State.reset = some (.refused 0x03 .range [])
    ∧ answer (.clock .own (.fields 315360000)) State.reset = some (.accepted (.clock .first 0))
    ∧ answer (.clock .own (.fields 820000001)) clocked = some (.accepted (.clock .forward 820000000))
    ∧ answer (.clock .own (.fields 819999999)) clocked = some (.accepted (.clock .backward 820000000)) := by
  decide +kernel

/-! ### Section 12.1: the evening -/

/-- Section 12.1.2: the guide arrives. The close of the stream derives bookings 20 to 23, the pass places them, books the
alternate 24 in place of 23, and gives the hold its yield time. -/
theorem test_evening_pass :
    let t := after (.query .own (.fields ())) streaming
    t.plan.bookings.map (fun b => (b.number, b.state, b.place, b.winStart, b.winEnd))
      = [(20, some .planned, some ⟨.a, 1⟩, 820003540, 820007380), (21, some .planned, some ⟨.a, 0⟩, 820004140, 820006180),
         (22, some .planned, some ⟨.b, 0⟩, 820004940, 820006980), (19, some .planned, some ⟨.a, 0⟩, 820007740, 820009780),
         (24, some .planned, some ⟨.b, 0⟩, 820059940, 820061980)]
    ∧ t.plan.counter = 25 ∧ t.guide.stream = none
    ∧ t.outbox.notices = [.bookingEnd ⟨23, 6, .replaced, .replaced, 0, none, 820000000, some 24⟩]
    ∧ t.tunerB.hold = some ⟨310, 50, 0, some 820004940, some 22, false, some 820004850⟩ := by decide +kernel

/-- Section 12.1.3: the warning of the hold on B. -/
theorem test_evening_warning :
    (after (.warningExpiry .b) { evening with
      present := 820004850
      tunerB := ⟨true, 0x3, some ⟨310, 50, 0, some 820004940, some 22, false, some 820004850⟩⟩ }).outbox.notices
      = [.viewWarn .b 22 820004940] := by decide +kernel

/-- R20, R96: VIEW_ON for tuner A, whose mask lacks network 1, is refused with STATE; on network 0 the hold is made. -/
theorem test_view_on :
    answer (.viewOn .own (.fields ⟨0, 401⟩)) evening = some (.refused 0x14 .state [])
    ∧ answer (.viewOn .own (.fields ⟨0, 310⟩)) evening = some (.accepted (.viewOn ⟨.a, 0⟩ none none)) := by
  decide +kernel

theorem test_view_off : answer (.viewOff .own (.fields 1)) evening = some (.accepted (.viewOff true))
    ∧ answer (.viewOff .own (.fields 0)) evening = some (.accepted (.viewOff false))
    ∧ answer (.viewOff .own (.fields 2)) evening = some (.refused 0x15 .range []) := by decide +kernel

theorem test_guide_open : answer (.guideOpen .own (.fields ⟨1, 9999, 10, 10, false⟩)) evening
      = some (.refused 0x20 .range [])
    ∧ answer (.guideOpen .own (.fields ⟨1, 9999, 10, 11, false⟩)) streaming = some (.accepted (.guideOpen true))
    ∧ answer (.guideOpen .own (.fields ⟨1, 9999, 10, 11, false⟩)) evening = some (.accepted (.guideOpen false)) := by
  decide +kernel

/-- R34, R35: one entry stored, one outside the span. -/
theorem test_guide_put : answer (.guidePut .own (.fields (.two ⟨102, 9, 820001000, 60, none, none⟩
      ⟨102, 10, 820100000, 60, none, none⟩))) streaming = some (.accepted (.guidePut ⟨1, 1, 0, 0, 0⟩))
    ∧ answer (.guidePut .own (.fields (.one ⟨102, 9, 820001000, 60, none, none⟩))) evening
      = some (.refused 0x21 .state []) := by decide +kernel

theorem test_guide_flush : answer (.guideFlush .own (.fields (.range 401 401)))
      { streaming with guide := { streaming.guide with stream := none } }
    = some (.accepted (.guideFlush 2 0)) := by decide +kernel

theorem test_running : answer (.running .own (.fields ⟨101, 1, 3⟩))
      { streaming with guide := { streaming.guide with stream := none } } = some (.accepted (.running true))
    ∧ answer (.running .own (.fields ⟨101, 7, 3⟩)) evening = some (.refused 0x23 .unknown []) := by decide +kernel

/-- R48: an entry that ended more than an hour ago leaves; one that ended an hour ago stays. -/
theorem test_aging_scan : ((after .agingScan { evening with guide := { GuideStore.empty with
      entries := [entry 0 101 1 819990000 6399 1 1, entry 1 101 2 819990000 6400 1 2]
      nextScan := some 820000000 } }).guide.entries.map GuideEntry.slot) = [1] := by decide +kernel

theorem test_services : answer (.svcPut .own (.fields ⟨500, 0, 9, 2⟩)) evening = some (.accepted (.svcPut .inserted))
    ∧ answer (.svcPut .own (.fields ⟨310, 0, 51, 1⟩)) evening = some (.refused 0x10 .state [])
    ∧ answer (.svcDrop .own (.fields 102)) evening = some (.accepted .svcDrop)
    ∧ answer (.svcDrop .own (.fields 101)) evening = some (.refused 0x11 .state [])
    ∧ answer (.svcRead .own (.fields 311)) evening = some (.accepted (.svcRead [⟨401, 1, 70, 1⟩] 0)) := by
  decide +kernel

/-- R18: disabling tuner B breaks the hold's claim. -/
theorem test_tuner_cfg : answer (.tunerCfg .own (.fields ⟨1, 0, 3⟩)) evening = some (.refused 0x13 .state [])
    ∧ answer (.tunerCfg .own (.fields ⟨0, 1, 3⟩)) evening = some (.accepted (.tunerCfg true)) := by decide +kernel

/-- R51, R54, R56: the lowest empty slot, the tier of importance 8 and a clamped importance. -/
theorem test_req_add :
    answer (.reqAdd .own (.fields (.timed ⟨8, 65535, 65535, 0⟩ 205 1800 0 820020000))) evening
      = some (.accepted (.reqAdd 1 false 2))
    ∧ answer (.reqAdd .own (.fields (.event ⟨99, 65535, 65535, 1⟩ 101 7))) evening
      = some (.accepted (.reqAdd 1 true 3))
    ∧ answer (.reqAdd .own (.fields (.series ⟨8, 0, 0, 0⟩ 5500 0))) evening = some (.refused 0x30 .state []) := by
  decide +kernel

theorem test_req_edit :
    answer (.reqEdit .own (.fields ⟨8, .timed ⟨8, 65535, 65535, 0⟩ 60 0 820007800⟩)) evening
      = some (.accepted (.reqEdit true false 2))
    ∧ answer (.reqEdit .own (.fields ⟨8, .timed ⟨8, 65535, 65535, 0⟩ 60 1 3600⟩)) evening
      = some (.refused 0x31 .state []) := by decide +kernel

/-- R59: test 8 is not reached while the times stay, though the occurrence has ended; other times that have ended are refused. -/
theorem test_req_edit_ended :
    answer (.reqEdit .own (.fields ⟨8, .timed ⟨8, 65535, 65535, 0⟩ 1800 0 820007800⟩)) { evening with present := 820010000 }
      = some (.accepted (.reqEdit true false 2))
    ∧ answer (.reqEdit .own (.fields ⟨8, .timed ⟨8, 65535, 65535, 0⟩ 1700 0 820007800⟩)) { evening with present := 820010000 }
      = some (.refused 0x31 .range []) := by decide +kernel

theorem test_req_drop_and_pause :
    answer (.reqDrop .own (.fields 1)) night = some (.accepted (.reqDrop .removed))
    ∧ answer (.reqDrop .own (.fields 1)) (recordingAt 820091000) = some (.accepted (.reqDrop (.dropping 1)))
    ∧ answer (.reqPause .own (.fields 1)) night = some (.accepted (.reqPause (some 1)))
    ∧ answer (.reqResume .own (.fields 1)) night = some (.accepted (.reqResume false)) := by decide +kernel

theorem test_req_read : answer (.reqRead .own (.fields ⟨0, 0⟩)) night
      = some (.accepted (.reqReadMain 2 ⟨1, .active, 8, none, none, 0, .timed ⟨101, 3540, 0, 820090060, [], none⟩⟩ 2 1))
    ∧ answer (.reqRead .own (.fields ⟨3, 0⟩)) night = some (.accepted .reqReadNone) := by decide +kernel

/-! ### Section 12.2: the night -/

/-- Section 12.2.2: REST computes the wake expiry and puts the REST pattern on the lines. -/
theorem test_night_rest :
    let t := after (.rest .own (.fields ())) night
    t.line.reply = some (.accepted (.rest .sleeping (some 820089880))) ∧ t.panel.lines = 4
    ∧ t.host.expiryCause = .booking 50 := by decide +kernel

theorem test_night_wake :
    let t := after .wakeExpiry (nightAt 820089880 sleeping)
    t.host.state = .waking ∧ t.host.wakeTimer = some 820090120 ∧ t.panel.lines = 2 ∧ t.host.wakeLine = true := by
  decide +kernel

theorem test_night_window_while_waking :
    let t := after (.windowStart 50) (nightAt 820090000 waking)
    (t.booking? 50).map (fun b => (b.state, b.lateExpiry)) = some (some .late, some 820091200) := by decide +kernel

/-- R142: a pass in SLEEPING places booking 50 past its window start; its wake is taken, and then the window start, with the host
WAKING. -/
theorem test_pass_wakes_before_window :
    let t := after (.svcPut .own (.fields ⟨500, 0, 9, 2⟩)) ((nightAt 820090100 sleeping).mapBooking 50 clashed50)
    t.host.state = .waking ∧ t.host.attempt = some 820090100 ∧ t.host.cause = .booking 50
    ∧ (t.booking? 50).map Booking.state = some (some .late) := by decide +kernel

theorem test_night_wake_fails :
    let t := after .wakeTimeout ((nightAt 820090120 waking).mapBooking 50 late50)
    t.host = ⟨.wakeFailed, some 820090880, .booking 51, none, some 820089880, some 820090120, .booking 50, false⟩
    ∧ t.outbox.notices = [.wakeFailed 820089880] := by decide +kernel

/-- The GREET at 820,090,900: booking 50 becomes DUE with its take deadline at 820,091,200. -/
theorem test_night_greet :
    let t := after (.greet .own (.fields ())) ((nightAt 820090900 { waking with cause := .booking 51 }).mapBooking 50 late50)
    t.line.reply = some (.accepted (.greet .waking (.booking 51)))
    ∧ (t.booking? 50).map (fun b => (b.state, b.takeExpiry)) = some (some .due, some 820091200) := by decide +kernel

/-- TAKE returns the BEGIN ahead of the older notice. -/
theorem test_night_take :
    let t := after (.take .own (.fields ())) waiting
    t.outbox.directives = [] ∧ t.outbox.notices = [.wakeFailed 820089880]
    ∧ (t.booking? 50).map (fun b => (b.state, b.confirmExpiry)) = some (some .starting, some 820090922) := by
  decide +kernel

theorem test_night_confirm :
    let t := after (.confirm .own (.fields ⟨50, 0⟩)) (with50 820090904 starting50)
    t.run.recordings = 1 ∧ t.panel.lines = 1
    ∧ (t.booking? 50).map (fun b => (b.state, b.begun)) = some (some .recording, some 820090904) := by decide +kernel

/-- WAKE_LEAD 300: CURRENT becomes STALE and its notice waits. -/
theorem test_night_param_set :
    let t := after (.paramSet .own (.fields ⟨6, [0x01, 0x2C]⟩)) (recordingAt 820090950)
    t.line.reply = some (.accepted (.paramSet 6 [300] false true)) ∧ t.image.state = .stale
    ∧ t.outbox.notices = [.storeStale .stale] := by decide +kernel

theorem test_param_get : answer (.paramGet .own (.fields 6)) night = some (.accepted (.paramGet 6 [120]))
    ∧ answer (.paramGet .own (.fields 20)) night = some (.refused 0x06 .range []) := by decide +kernel

theorem test_night_save :
    (after (.storeSave .own (.fields ())) night).image.state = .savingErase
    ∧ (after .eraseComplete (during .savingErase (nightAt 820090999 awake))).image.capture.map Image.savedAt
        = some (some 820090999)
    ∧ (after .writeComplete { night with image :=
        ⟨.savingWrite, false, .none, none, none, some ⟨night.storedContent, some 820090999⟩⟩ }).image.lastSaved
        = some 820090999 := by decide +kernel

/-- R177, R181: DEFAULTS makes a CURRENT image STALE, whether or not the content was already the defaults. -/
theorem test_reset_defaults_stale :
    (after (.reset .own (.fields 2)) (during .current clocked)).image.state = .stale := by decide +kernel

/-- The window start of booking 51 cuts the save short. -/
theorem test_night_save_abandoned :
    let t := after (.windowStart 51) (during .savingWrite (recordingAt 820091000))
    t.image.state = .failed ∧ t.image.abandonCause = .deadline
    ∧ (t.booking? 51).map Booking.state = some (some .due) := by decide +kernel

theorem test_store_query : answer (.storeQuery .own (.fields ())) night
    = some (.accepted (.storeQuery .current true false .none none)) := by decide +kernel

/-- Begun after the programme's start, booking 50 ends PARTIAL, NATURAL (R127). -/
theorem test_provisional_end :
    let t := after (.provisionalEnd 50) (recordingAt 820093780)
    t.outbox.directives = [.endRec 50 ⟨.a, 0⟩ .natural] ∧ t.panel.lines = 0
    ∧ t.outbox.notices.getLast?
      = some (.bookingEnd ⟨50, 1, .partly, .natural, 0, some 820090904, 820093780, none⟩) := by decide +kernel

/-- R116, R123: the four other expiries of a booking. -/
theorem test_deadlines :
    (after (.lateLimit 50) (with50 820091200 clashed50)).outbox.notices.getLast?
      = some (.bookingEnd ⟨50, 1, .missed, .clash, 0, none, 820091200, none⟩)
    ∧ (after (.takeDeadline 50) (with50 820091200 due50)).outbox.notices.getLast?
      = some (.bookingEnd ⟨50, 1, .missed, .notTaken, 0, none, 820091200, none⟩)
    ∧ (after (.confirmTimer 50) (with50 820090922 starting50)).outbox.directives
      = [.endRec 50 ⟨.a, 0⟩ .abandon] := by decide +kernel

theorem test_bookings : answer (.bookCancel .own (.fields 50)) night = some (.accepted .bookCancel)
    ∧ answer (.bookCancel .own (.fields 9)) night = some (.refused 0x41 .unknown [])
    ∧ answer (.bookStop .own (.fields 50)) (recordingAt 820091000) = some (.accepted .bookStop)
    ∧ answer (.bookStop .own (.fields 50)) night = some (.refused 0x42 .state [])
    ∧ answer (.bookRead .own (.fields 52)) night = some (.accepted (.bookRead [] 0)) := by decide +kernel

/-- R108: 3,780 s at class 1, 700 kB/s, take 2,646 MB each; 4,646 MB less the reserve of 2,000 hold one. -/
theorem test_space : answer (.space .own (.fields 4646)) night
    = some (.accepted (.space 2646 5292 1)) := by decide +kernel

theorem test_hold : answer (.hold .own (.fields 1)) waiting = some (.accepted (.hold true 1))
    ∧ answer (.hold .own (.fields 2)) waiting = some (.refused 0x44 .range []) := by decide +kernel

theorem test_query_counts : (answer (.query .own (.fields ())) waiting).isSome = true
    ∧ (queryReport waiting).due = 1 ∧ (queryReport waiting).planned = 1 ∧ (queryReport waiting).directives = 1 := by
  decide +kernel

/-- R176: SOFT empties the Booking List and keeps the requests, from which the derivation books afresh from 1. -/
theorem test_reset_soft :
    let t := after (.reset .own (.fields 1)) (recordingAt 820091000)
    t.plan.bookings.map Booking.number = [1, 2] ∧ t.run.recordings = 0 ∧ t.panel.lines = 1
    ∧ t.requests = night.requests ∧ t.present = 820091000 := by decide +kernel

theorem test_alerts :
    answer (.alertAck .own (.fields 7)) night = some (.accepted (.alertAck false))
    ∧ answer (.alertAck .own (.fields 7)) State.reset = some (.refused 0x52 .state [])
    ∧ answer (.alertMask .own (.fields ⟨1, 1⟩)) night = some (.accepted (.alertMask true))
    ∧ answer (.alertMask .own (.fields ⟨9, 1⟩)) night = some (.refused 0x53 .range []) := by decide +kernel

theorem test_attention : (after (.attnEnable .own (.fields 0)) waiting).attention = false
    ∧ answer (.attnEnable .own (.fields 0)) waiting = some (.accepted (.attnEnable false 1 2)) := by decide +kernel

theorem test_panel : (after (.panelSet .own (.fields 15)) night).panel.lines = 15
    ∧ answer (.panelSet .own (.fields 16)) night = some (.refused 0x61 .range [])
    ∧ (after (.panelStage .own (.fields ⟨4, 9, 0⟩)) night).panel.staged.rest = ⟨9, false⟩
    ∧ (after (.panelStage .own (.fields ⟨4, 9, 0⟩)) night).panel.lines = 0 := by decide +kernel

/-! ### Witnesses: a state and operands that meet the hypotheses of each obligation, clause by clause -/

theorem witness_StepRunsFrontCommand :
    { clocked with pending := [.presentAdvance, .replyComplete] }.pending = .presentAdvance :: [.replyComplete]
    ∧ clocked.pending = [] := ⟨rfl, rfl⟩

theorem witness_ExecAnswersAndKeepsQueue :
    ((after .powerLoss clocked).running = false ∧ (∀ p, Instr.presentAdvance ≠ .powerOn p)
      ∧ (∀ e, Instr.presentAdvance ≠ .resetPin e) ∧ Instr.presentAdvance ≠ .powerLoss)
    ∧ (after (.query .own (.fields ())) clocked).line.state.takes = false
    ∧ (payloadOf (.take .own (.fields ()))).isSome = true :=
  ⟨⟨by decide +kernel, nofun, nofun, nofun⟩, by decide +kernel, rfl⟩

theorem witness_LineEventsTouchTheLineAlone :
    (heard clocked ∧ 1 ≤ clocked.line.dropAddress ∧ clocked.line.dropAddress ≤ 14)
    ∧ ((0 : Byte).toNat ≠ clocked.line.dropAddress ∧ (0 : Byte) ≠ 15)
    ∧ ((0 : Byte) = 0 ∨ 65 < (0 : Byte).toNat) ∧ ((66 : Byte) = 0 ∨ 65 < (66 : Byte).toNat)
    ∧ { clocked with line := { clocked.line with state := .assembling .own [] } }.line.state = .assembling .own []
    ∧ (after (.query .own (.fields ())) clocked).line.state = .replying := by decide +kernel

theorem witness_MessagesArriveOrAreRefused : evening.guide.stream = none ∧ heard evening
    ∧ hasBadLength (.greet .own (.badLength [0])) = true
    ∧ payloadOf (.greet .own (.badLength [0])) = some (.own, [0])
    ∧ kindOf (.greet .own (.badLength [0])) = some 0x01 := by decide +kernel

/-- With a stream OPEN: messages that spare it, and messages that close it. -/
theorem witness_MessagesArriveOrAreRefused_stream :
    let spares := fun c : Instr => (∃ x b, c = .guidePut x b) ∨ (∃ x b, c = .guideOpen x b)
      ∨ (∃ x scope, (scope = 1 ∨ scope = 2) ∧ c = .reset x (.fields scope))
      ∨ ∃ x kind p check, c = .badCheckMessage x kind p check
    streaming.guide.stream.isSome = true
    ∧ spares (.guidePut .own (.badLength [])) ∧ spares (.guideOpen .own (.badLength []))
    ∧ spares (.reset .own (.fields 1)) ∧ spares (.reset .own (.fields 2)) ∧ spares (.badCheckMessage .own 0x50 [] 1)
    ∧ ¬ spares (.reset .own (.fields 0)) ∧ ¬ spares (.reset .own (.fields 3)) ∧ ¬ spares (.reset .own (.badLength []))
    ∧ ¬ spares (.query .own (.fields ())) := by
  simp only []
  exact ⟨rfl, .inl ⟨_, _, rfl⟩, .inr (.inl ⟨_, _, rfl⟩), .inr (.inr (.inl ⟨_, _, .inl rfl, rfl⟩)),
    .inr (.inr (.inl ⟨_, _, .inr rfl, rfl⟩)), .inr (.inr (.inr ⟨_, _, _, _, rfl⟩)), by simp, by simp, by simp, by simp⟩

theorem witness_DecodeOfEncode :
    (Instr.panelSet .own (.fields 255)).wellFormed = true
    ∧ encodeFrame (.panelSet .own (.fields 255)) = some (.own, [2, 0x61, 255, checkOf 0x61 [255]])
    ∧ (Instr.greet .broadcast (.badLength (List.replicate 64 0))).wellFormed = true
    ∧ encodeFrame (.greet .broadcast (.badLength (List.replicate 64 0)))
      = some (.broadcast, 65 :: 1 :: List.replicate 64 0 ++ [checkOf 1 (List.replicate 64 0)]) := by decide +kernel

theorem witness_FrameReachesWorking :
    (Instr.panelSet .own (.fields 255)).wellFormed = true
    ∧ encodeFrame (.panelSet .own (.fields 255)) = some (.own, [2, 0x61, 255, checkOf 0x61 [255]])
    ∧ clocked.line.state.takes = true ∧ 1 ≤ clocked.line.dropAddress ∧ clocked.line.dropAddress ≤ 14 := by
  decide +kernel

theorem witness_StartLoadsTheImage :
    (1 ≤ (1 : BitVec 4).toNat ∧ (1 : BitVec 4).toNat ≤ 14) ∧ (1 ≤ (14 : BitVec 4).toNat ∧ (14 : BitVec 4).toNat ≤ 14)
    ∧ (0 : BitVec 4).toNat = 0 ∧ (15 : BitVec 4).toNat = 15
    ∧ (clocked.image.flash = none ∧ clocked.resetLow = false)
    ∧ ((after (.resetPin .low) clocked).image.flash = none ∧ (after (.resetPin .low) clocked).resetLow = true
      ∧ (after (.resetPin .low) clocked).powered = true)
    ∧ { night with image := { night.image with flash := some ⟨night.storedContent, none⟩ } }.image.flash
      = some ⟨night.storedContent, none⟩ := by decide +kernel

theorem witness_StartLoadsTheImage_pin :
    clocked.resetLow = false ∧ (after (.resetPin .low) (after .powerLoss clocked)).resetLow = true
    ∧ (after (.resetPin .low) (after .powerLoss clocked)).powered = false := by decide +kernel

theorem witness_PowerAndPinStopThePart : Instr.powerLoss ∈ [Instr.powerLoss, .resetPin .low]
    ∧ Instr.resetPin .low ∈ [Instr.powerLoss, .resetPin .low] := by decide +kernel

theorem witness_PresentAdvancesByOne : clocked.running = true ∧ { clocked with present := 4294967294 }.present < 4294967295
    ∧ { clocked with present := 4294967295 }.present = 4294967295 := by decide +kernel

theorem witness_LocalDayTimeAndWeekday :
    (-48 ≤ { Settings.defaults with localOffset := -48 }.localOffset
      ∧ { Settings.defaults with localOffset := -48 }.localOffset ≤ 56)
    ∧ { Settings.defaults with localOffset := 56 }.localOffset ≤ 56 ∧ 4294967295 ≤ 4294967295
    ∧ 315360000 ≤ 315360000 := by decide +kernel

theorem witness_NextStartOfADailyWindow : (86399 < 86400 ∧ 86399 = 86399) ∧ 86399 ≠ 0 := by decide

theorem witness_ClockIsAcceptedInItsSpan : heard clocked ∧ heard State.reset
    ∧ (315359999 : Word32).toNat < 315360000 ∧ 4000000000 < (4000000001 : Word32).toNat
    ∧ (315360000 ≤ (315360000 : Word32).toNat ∧ (4000000000 : Word32).toNat ≤ 4000000000)
    ∧ State.reset.clockSet = false ∧ clocked.clockSet = true ∧ (820000000 : Word32).toNat = clocked.present
    ∧ clocked.present < (820000001 : Word32).toNat ∧ (819999999 : Word32).toNat < clocked.present
    ∧ (clocked.present + 300 < (820000301 : Word32).toNat ∧ ¬ clocked.present + 300 < (820000300 : Word32).toNat)
    ∧ ((819999699 : Word32).toNat + 300 < clocked.present ∧ ¬ (819999700 : Word32).toNat + 300 < clocked.present) := by
  decide +kernel

/-- R4, R146: a FORWARD step over both takes the wake expiry at 820,089,880 and window start 50 at 820,090,000, and no more. -/
theorem test_crossed_expiries :
    crossedDues 820080000 820090000 (nightAt 820090000 sleeping) = [.wake, .windowStart 50]
    ∧ crossedDues 820080000 820089879 (nightAt 820089879 sleeping) = [] := by decide +kernel

theorem witness_SmallClockStepsReplanNothing : Free clocked ∧ Free State.reset
    ∧ (clocked.clockSet = true ∧ (820000000 : Word32).toNat = clocked.present)
    ∧ (clocked.present < (820000300 : Word32).toNat ∧ (820000300 : Word32).toNat ≤ clocked.present + 300
      ∧ crossedDues clocked.present (820000300 : Word32).toNat (arrive (.clock .own (.fields 820000300)) .own clocked) = [])
    ∧ ((819999700 : Word32).toNat < clocked.present ∧ clocked.present ≤ (819999700 : Word32).toNat + 300)
    ∧ (315360000 ≤ (819999700 : Word32).toNat ∧ (820000300 : Word32).toNat ≤ 4000000000)
    ∧ State.reset.clockSet = false :=
  ⟨⟨rfl, rfl, rfl⟩, ⟨rfl, rfl, rfl⟩, by decide +kernel⟩

/-- Id 20 names no setting; VIEWER_TIER 5 is out of range and 4 in it; WAKE_LEAD is clamped. -/
theorem witness_ParamSetReplacesOneSetting : heard night
    ∧ (arrive (.paramSet .own (.fields ⟨6, [1, 44]⟩)) .own (during .savingErase night)).saving = true
    ∧ (arrive (.paramSet .own (.fields ⟨6, [1, 44]⟩)) .own night).saving = false
    ∧ settingRow (20 : Byte).toNat = none ∧ settingRow (14 : Byte).toNat = some ⟨1, 1, false, 0, 4, true⟩
    ∧ (⟨1, 1, false, 0, 4, true⟩ : SettingRow).admits ((⟨1, 1, false, 0, 4, true⟩ : SettingRow).decode [5]) = false
    ∧ (⟨1, 1, false, 0, 4, true⟩ : SettingRow).admits ((⟨1, 1, false, 0, 4, true⟩ : SettingRow).decode [4]) = true
    ∧ settingRow (6 : Byte).toNat = some ⟨1, 2, false, 30, 900, false⟩ := by decide +kernel

/-- Effects of a change: each id with a value that differs, WAKE_LEAD 120 as it is. -/
theorem witness_ParamSetReplacesOneSetting_effects : Free night ∧ Free (recordingAt 820093000) ∧ Free (with50 820091000 late50)
    ∧ (∀ id ∈ List.range 20, 1 ≤ id → (settingRow id).isSome = true)
    ∧ (settingRow 6).map (fun r => r.clamp (r.decode [0, 120])) = some (night.settings.get 6)
    ∧ (∀ x ∈ ([(1, [2]), (11, [0]), (14, [4]), (17, [9, 9]), (6, [1, 44]), (7, [1, 44]), (9, [0, 1]), (5, [0, 0]), (4, [0, 0])]
        : List (Nat × List Byte)),
      (settingRow x.1).any (fun r => (if r.enumeration then r.decode x.2 else r.clamp (r.decode x.2)) != night.settings.get x.1))
    ∧ night.image.state = .current :=
  ⟨⟨rfl, rfl, rfl⟩, ⟨rfl, rfl, rfl⟩, ⟨rfl, rfl, rfl⟩, by decide +kernel⟩

/-- LATE_LIMIT 0 reaches booking 50 LATE since its window start and none that is PLANNED; a lower OVERRUN_LIMIT pulls down
a booking past its new cap, and none that is not. -/
theorem witness_ParamSetReplacesOneSetting_limits :
    (let b := booking 50 1 .a 101 820090060 3540 820090000 820093780
    lateLimitOf { night.settings with lateLimit := 0 } b = 820090000 ∧ 820090000 ≤ (with50 820091000 late50).present
    ∧ (late50 b).state = some .late ∧ night.plan.bookings.filter (limitReached night) = [])
    ∧ (let past := { recording50 (booking 50 1 .a 101 820090060 3540 820090000 820093780) with provEnd := 820093900 }
    0 < night.settings.overrunLimit ∧ past.state = some .recording ∧ past.winEnd + 0 < past.provEnd
    ∧ ¬ past.winEnd + 0 ≤ 820093000 ∧ past.winEnd + 0 ≤ 820093800) := by decide +kernel

theorem witness_ParamGetReports : heard night ∧ (0 : Byte).toNat = 0 ∧ 19 < (20 : Byte).toNat
    ∧ (1 ≤ (1 : Byte).toNat ∧ (19 : Byte).toNat ≤ 19) ∧ night.settings.inRange = true
    ∧ (settingRow 17 = some ⟨4, 2, false, 100, 5000, false⟩
      ∧ ([100, 5000, 100, 5000] : List Int).length = (⟨4, 2, false, 100, 5000, false⟩ : SettingRow).entries
      ∧ (⟨4, 2, false, 100, 5000, false⟩ : SettingRow).admits [100, 5000, 100, 5000] = true ∧ 18 ≠ 17) := by
  decide +kernel

theorem witness_QueryReportsAndClearsLost : heard waiting := by decide +kernel

theorem witness_ResetEmptiesTheSchedule : heard (recordingAt 820091000) ∧ heard (during .savingWrite night)
    ∧ (during .savingWrite night).saving = true ∧ ((1 : Byte) = 1 ∨ (1 : Byte) = 2) ∧ ((2 : Byte) = 1 ∨ (2 : Byte) = 2) := by
  decide +kernel

/-- R151, R166: waiting notices go; a CURRENT image gives no notice, nor does a masked source; an ABSENT one gives its own. -/
theorem witness_ResetEmptiesTheSchedule_queues : ReportsOk waiting ∧ ReportsOk State.reset
    ∧ waiting.outbox.notices ≠ [] ∧ (after (.reset .own (.fields 1)) waiting).outbox.notices = []
    ∧ (after (.reset .own (.fields 1)) clocked).outbox.notices = [.storeStale .absent]
    ∧ (after (.reset .own (.fields 1)) { clocked with alerts := { clocked.alerts with
        masks := clocked.alerts.masks.put (.level .storeStale) true } }).outbox.notices = [] :=
  ⟨⟨rfl, rfl, rfl⟩, ⟨rfl, rfl, rfl⟩, by decide +kernel, by decide +kernel, by decide +kernel, by decide +kernel⟩

theorem witness_ResetEmptiesTheSchedule_range : ((0 : Byte) ≠ 1 ∧ (0 : Byte) ≠ 2) ∧ ((3 : Byte) ≠ 1 ∧ (3 : Byte) ≠ 2) := by
  decide

/-- Two hundred services. -/
def fullTable : State := { clocked with services := (List.range 200).map (fun n => ⟨n + 1, 0, 0, 0⟩) }

theorem witness_ServiceTableChanges : heard evening ∧ heard fullTable
    ∧ (1 ≤ (1 : Word16).toNat ∧ (9999 : Word16).toNat ≤ 9999)
    ∧ (arrive (.svcPut .own (.fields ⟨500, 0, 9, 2⟩)) .own evening).saving = false
    ∧ (fullTable.service? 201 = none ∧ 200 ≤ fullTable.services.length)
    ∧ (evening.service? 500 = none ∧ evening.services.length < 200)
    ∧ evening.service? 310 = some ⟨310, 0, 50, 1⟩
    ∧ (50 ≠ 51 ∧ (arrive (.svcPut .own (.fields ⟨310, 0, 51, 1⟩)) .own evening).channelInUse 310 = true)
    ∧ (arrive (.svcPut .own (.fields ⟨102, 0, 13, 1⟩)) .own evening).channelInUse 102 = false
    ∧ evening.hasService 500 = false ∧ evening.hasService 101 = true
    ∧ (arrive (.svcDrop .own (.fields 101)) .own evening).requestNames 101 = true
    ∧ (evening.hasService 102 = true ∧ (arrive (.svcDrop .own (.fields 102)) .own evening).channelInUse 102 = false
      ∧ (arrive (.svcDrop .own (.fields 102)) .own evening).requestNames 102 = false) := by decide +kernel

theorem witness_ServiceTableChanges_refusals :
    (arrive (.svcPut .own (.fields ⟨500, 0, 9, 2⟩)) .own (during .savingErase evening)).saving = true
    ∧ (arrive (.svcDrop .own (.fields 102)) .own (during .savingErase evening)).saving = true
    ∧ (0 : Word16).toNat = 0 ∧ 9999 < (10000 : Word16).toNat ∧ 3 < (4 : Byte).toNat := by decide +kernel

theorem witness_SvcReadWalksTheTable : heard evening ∧ 9999 < (10000 : Word16).toNat ∧ (9999 : Word16).toNat ≤ 9999
    ∧ evening.services.filter (fun v => 402 ≤ v.channel) = [] := by decide +kernel

theorem witness_SvcReadWalksTheTable_ordered : servicesOk evening.services := by
  unfold servicesOk rising; decide +kernel

theorem witness_TunerCfgSetsBothFields : heard evening
    ∧ (arrive (.tunerCfg .own (.fields ⟨1, 0, 3⟩)) .own evening).saving = false
    ∧ (1 < (2 : Byte).toNat ∧ 15 < (16 : Byte).toNat)
    ∧ (tunerOfIndex (1 : Byte).toNat = some .b ∧ (1 : Byte).toNat ≤ 1 ∧ (15 : Byte).toNat ≤ 15)
    ∧ breaksClaim (arrive (.tunerCfg .own (.fields ⟨1, 0, 3⟩)) .own evening) .b false 3 = true
    ∧ (breaksClaim (arrive (.tunerCfg .own (.fields ⟨1, 1, 3⟩)) .own evening) .b true 3 = false
      ∧ (evening.tuner .b).enabled = true ∧ (evening.tuner .b).mask = 3)
    ∧ (breaksClaim (arrive (.tunerCfg .own (.fields ⟨1, 1, 15⟩)) .own evening) .b true 15 = false
      ∧ (evening.tuner .b).mask ≠ 15) := by decide +kernel

theorem witness_TunerCfgSetsBothFields_busy :
    (arrive (.tunerCfg .own (.fields ⟨1, 0, 3⟩)) .own (during .savingErase evening)).saving = true := by decide +kernel

/-- Booking 50 RECORDING on tuner A, channel 101 of multiplex 12, with another service of multiplex 13 in the table. -/
def blocked : State := { recordingAt 820091000 with services := [⟨101, 0, 12, 1⟩, ⟨102, 0, 13, 1⟩] }

/-- The night with its two bookings and a third LATE on the three places of tuner A. -/
def crowded : State := { night with plan := { night.plan with bookings :=
  [late50 (booking 50 1 .a 101 820090060 3540 820090000 820093780),
   { late50 (booking 51 2 .a 101 820090060 3540 820090000 820093780) with place := some ⟨.a, 1⟩ },
   { late50 (booking 52 2 .a 101 820090060 3540 820090000 820093780) with place := some ⟨.a, 2⟩ }] } }

theorem witness_ViewerHoldsComeAndGo : heard evening ∧ heard blocked ∧ evening.clockSet = true ∧ blocked.clockSet = true
    ∧ tunerOfIndex (0 : Byte).toNat = some .a ∧ (1 ≤ (401 : Word16).toNat ∧ (401 : Word16).toNat ≤ 9999)
    ∧ (evening.service? 401 = some ⟨401, 1, 70, 1⟩
      ∧ ((arrive (.viewOn .own (.fields ⟨0, 401⟩)) .own evening).tuner .a).mask.getLsbD 1 = false)
    ∧ (blocked.service? 102 = some ⟨102, 0, 13, 1⟩
      ∧ ((arrive (.viewOn .own (.fields ⟨0, 102⟩)) .own blocked).tuner .a).enabled = true
      ∧ ((arrive (.viewOn .own (.fields ⟨0, 102⟩)) .own blocked).tuner .a).mask.getLsbD 0 = true
      ∧ viewBlocked (arrive (.viewOn .own (.fields ⟨0, 102⟩)) .own blocked) .a 13 = true
      ∧ viewBlocked (arrive (.viewOn .own (.fields ⟨0, 101⟩)) .own blocked) .a 12 = false)
    ∧ 1 < (2 : Byte).toNat
    ∧ ((arrive (.viewOff .own (.fields 0)) .own evening).tuner .a).hold = none
    ∧ ((arrive (.viewOff .own (.fields 1)) .own evening).tuner .b).hold.isSome = true := by decide +kernel

theorem witness_ViewerHoldsComeAndGo_slots :
    let runs := fun (s : State) (k : Nat) => ∃ b ∈ s.plan.bookings, b.isRunning = true ∧ b.place = some ⟨.a, k⟩
    let late := fun (s : State) (k : Nat) => ∃ b ∈ s.plan.bookings, b.state = some .late ∧ b.place = some ⟨.a, k⟩
    (runs blocked 0 ∧ ¬ runs blocked 1 ∧ ¬ late blocked 1)
    ∧ (∀ k ∈ [0, 1, 2], (runs crowded k ∨ late crowded k) ∧ ¬ runs crowded k) := by decide +kernel

theorem witness_ViewerHoldsComeAndGo_refusals : heard State.reset ∧ State.reset.clockSet = false
    ∧ (1 < (2 : Byte).toNat ∧ (0 : Word16).toNat = 0 ∧ 9999 < (10000 : Word16).toNat)
    ∧ (evening.clockSet = true ∧ (1 : Byte).toNat ≤ 1 ∧ 1 ≤ (9999 : Word16).toNat ∧ (9999 : Word16).toNat ≤ 9999
      ∧ evening.service? (9999 : Word16).toNat = none) := by decide +kernel

theorem witness_ViewerHoldsComeAndGo_warning :
    let h : ViewerHold := ⟨310, 50, 0, some 820004940, some 22, false, some 820004850⟩
    let s : State := { evening with present := 820004850, tunerB := ⟨true, 0x3, some h⟩ }
    s.running = true ∧ s.agenda = [] ∧ (s.tuner .b).hold = some h ∧ h.warnExpiry = some 820004850 ∧ 820004850 ≤ s.present
    ∧ h.yieldTime = some 820004940 ∧ h.yieldBooking = some 22 ∧ s.alerts.masks.edge.viewWarn = false
    ∧ s.outbox.notices.length < 24
    ∧ { s with alerts := { s.alerts with masks := s.alerts.masks.put (.edge .viewWarn) true } }.alerts.masks.edge.viewWarn
      = true := by decide +kernel

theorem witness_GuideOpenFlushAndRunning : heard streaming ∧ evening.guide.stream = none
    ∧ streaming.guide.stream = some ⟨1, 9999, 819990000, 820100000, false⟩
    ∧ ¬ (1 ≤ (0 : Word16).toNat ∧ (0 : Word16).toNat ≤ (9 : Word16).toNat ∧ (9 : Word16).toNat ≤ 9999
      ∧ (0 : Word32).toNat < (1 : Word32).toNat)
    ∧ (1 ≤ (1 : Word16).toNat ∧ (1 : Word16).toNat ≤ (9999 : Word16).toNat ∧ (9999 : Word16).toNat ≤ 9999
      ∧ (0 : Word32).toNat < (1 : Word32).toNat) := by decide +kernel

/-- R41, R42: a replacing stream over the evening leaves the pinned entry it did not write, withdrawn, and the written ones. -/
theorem test_close_sweeps :
    let e := entry 0 101 1 820003600 3600 4400 41
    let s := { streaming with
      plan := Planner.empty, requests := []
      guide := { streaming.guide with
        entries := [e, { entry 1 102 2 820004200 1800 5500 7 with written := false },
          { entry 2 205 3 820005000 1800 5500 8 with written := false, pins := 1 }]
        stream := some ⟨1, 9999, 819990000, 820100000, true⟩ } }
    (closeStream s).guide.entries.map (fun x => (x.slot, x.withdrawn, x.written)) = [(0, false, false), (2, true, false)]
    ∧ (closeStream s).guide.stream = none := by decide +kernel

theorem witness_GuidePutStoresAnEntry : heard evening ∧ heard streaming ∧ evening.guide.stream = none
    ∧ streaming.guide.stream = some ⟨1, 9999, 819990000, 820100000, false⟩
    ∧ 86400 < (86401 : Word24).toNat
    ∧ ¬ ((820100000 : Word32).toNat < 820100000) ∧ (820099999 : Word32).toNat < 820100000
    ∧ streaming.hasService 500 = false ∧ streaming.hasService 101 = true
    ∧ streaming.entry? 101 1 = some (entry 0 101 1 820003600 3600 4400 41)
    ∧ streaming.entry? 101 9 = none ∧ streaming.guide.entries.length < 1200 := by decide +kernel

/-- A full Guide Store: entry 1199 starts last, at 820001199. -/
def fullStore : State := { streaming with guide := { streaming.guide with
  entries := (List.range 1200).map (fun n => entry n 102 (n + 1) (820000000 + n) 60 5500 7) } }

theorem witness_GuidePutStoresAnEntry_full : heard fullStore ∧ fullStore.guide.stream.isSome = true
    ∧ (fullStore.entry? 101 9 = none ∧ 1200 ≤ fullStore.guide.entries.length)
    ∧ (∀ x ∈ fullStore.guide.entries, x.pins = 0 → x.start ≤ (820001199 : Word32).toNat)
    ∧ (∃ x ∈ fullStore.guide.entries, x.pins = 0 ∧ (820001198 : Word32).toNat < x.start) := by
  refine ⟨by decide +kernel, by decide +kernel, by decide +kernel, by decide +kernel, ?_⟩
  exact ⟨entry 1199 102 1200 820001199 60 5500 7, by decide +kernel, rfl, by decide⟩

/-- R38: of the entries with the latest start the highest channel gives way, and of those the highest event id. -/
theorem test_full_store_tie :
    evictable { streaming with guide := { streaming.guide with entries := [entry 0 205 9 820000000 60 5500 7,
      entry 1 101 8 820000500 60 5500 7, entry 2 102 3 820000500 60 5500 7, entry 3 102 2 820000500 60 5500 7] } }
      = some (entry 2 102 3 820000500 60 5500 7) := by decide +kernel

theorem witness_GuidePutStoresAnEntry_ordered : entriesOk streaming.guide.entries := by
  unfold entriesOk rising; decide +kernel

theorem witness_GuideOpenFlushAndRunning_flush : heard streaming
    ∧ ¬ (1 ≤ (2 : Word16).toNat ∧ (2 : Word16).toNat ≤ (1 : Word16).toNat ∧ (1 : Word16).toNat ≤ 9999)
    ∧ (1 ≤ (1 : Word16).toNat ∧ (1 : Word16).toNat ≤ (9999 : Word16).toNat ∧ (9999 : Word16).toNat ≤ 9999)
    ∧ (∀ first last, GuideFlushArgs.whole = .range first last →
      1 ≤ first.toNat ∧ first.toNat ≤ last.toNat ∧ last.toNat ≤ 9999)
    ∧ (arrive (.guideFlush .own (.fields .whole)) .own streaming).guide.entries.filter (fun e => true && e.pins == 0) ≠ []
    ∧ (arrive (.guideFlush .own (.fields .whole)) .own evening).guide.entries.filter (fun e => true && e.pins == 0) = [] :=
  ⟨by decide +kernel, by decide, by decide, nofun, by decide +kernel, by decide +kernel⟩

/-- The entries of section 12.1.2 with the stream CLOSED. -/
def stored : State := { streaming with guide := { streaming.guide with stream := none } }

/-- A series booking of the evening's entry in slot 1, RECORDING. -/
def ofEntry : Booking := { recording50 (booking 21 6 .a 102 820004200 1800 820004140 820006180) with
  key := .guideSlot 1, episode := some 7, begun := some 820004145, provExpiry := some 820006180 }

/-- Booking 21 of a SERIES request that is ACCURATE, alone in the list at its provisional end, its entry on air and pinned. -/
def onAir (b : Booking) : State := { stored with
  present := 820006180
  requests := [⟨6, .active, 8, none, none, 1, .series ⟨5500, 0, true, true, []⟩⟩]
  guide := { stored.guide with entries :=
    [{ entry 1 102 2 820004200 1800 5500 7 with status := .running, hasRun := true, pins := 1 }] }
  plan := { stored.plan with bookings := [b] }
  run := ⟨false, 1⟩ }

theorem witness_GuideOpenFlushAndRunning_running : heard stored
    ∧ (0 : Word16).toNat = 0 ∧ 9999 < (10000 : Word16).toNat ∧ 4 < (5 : Byte).toNat
    ∧ (1 ≤ (101 : Word16).toNat ∧ (9999 : Word16).toNat ≤ 9999 ∧ (1 : Word16) ≠ 0
      ∧ statusOf 4 = some .paused ∧ statusOf 0 = some .unknown)
    ∧ (arrive (.running .own (.fields ⟨101, 9, 3⟩)) .own stored).entry? 101 9 = none
    ∧ (arrive (.running .own (.fields ⟨101, 1, 3⟩)) .own stored).entry? 101 1
      = some (entry 0 101 1 820003600 3600 4400 41)
    ∧ ((entry 0 101 1 820003600 3600 4400 41).status = .unknown ∧ (entry 0 101 1 820003600 3600 4400 41).pins = 0)
    ∧ (∀ b ∈ (arrive (.running .own (.fields ⟨101, 1, 3⟩)) .own stored).plan.bookings,
      b.key = .guideSlot 0 → b.state ≠ some .recording)
    ∧ ((arrive (.running .own (.fields ⟨101, 1, 3⟩)) .own stored).plan.bookings.map Booking.number).Nodup := by
  decide +kernel

/-- Two RECORDING bookings of one entry, of requests with a post pad of 0, and a wanted booking that no service carries and that
has no state yet. -/
def onAirTwice : State := { onAir { ofEntry with accurate := true } with
  present := 820005000
  requests := [⟨6, .active, 8, none, some 0, 1, .series ⟨5500, 0, true, true, []⟩⟩,
    ⟨7, .active, 8, none, some 0, 0, .series ⟨5500, 102, true, true, []⟩⟩,
    ⟨8, .active, 12, none, none, 0, .timed ⟨205, 1800, 0, 820007800, [], none⟩⟩]
  guide := { stored.guide with entries :=
    [{ entry 1 102 2 820004200 1800 5500 7 with status := .running, hasRun := true, pins := 2 }] }
  plan := { stored.plan with bookings := [{ ofEntry with accurate := true },
    { ofEntry with number := 22, request := 7, place := some ⟨.a, 1⟩, accurate := true },
    { booking 30 8 .a 999 820007800 1800 820007740 820009780 with state := none, place := none }] }
  run := ⟨false, 2⟩ }

/-- R133: NOT_RUNNING finishes both bookings by their early ends, in list order, and one step 8 follows the last: the pass that
makes booking 30 CLASHED comes after both. -/
theorem test_running_finishes_together :
    let t := after (.running .own (.fields ⟨102, 2, 1⟩)) onAirTwice
    t.outbox.directives = [.endRec 21 ⟨.a, 0⟩ .early, .endRec 22 ⟨.a, 1⟩ .early]
    ∧ t.outbox.notices.map Notice.source = [.edge .bookingEnd, .edge .bookingEnd, .edge .clashNew, .level .clashPresent]
    ∧ t.run.recordings = 0 := by decide +kernel

/-- A RECORDING booking whose pinned entry goes off air, with the two sides of R128's early end: its tail ahead, and a YIELD
cut before it. -/
theorem witness_GuideOpenFlushAndRunning_recording :
    let s := onAir { ofEntry with accurate := true }
    let cut := { ofEntry with accurate := true, cut := some .yield, provEnd := 820006190 }
    heard s ∧ statusOf 1 = some .notRunning
    ∧ ((arrive (.running .own (.fields ⟨102, 2, 1⟩)) .own s).entry? 102 2).map (fun e => (e.pins, e.status))
      = some (1, .running)
    ∧ (s.booking? 21 = some { ofEntry with accurate := true } ∧ ofEntry.cut ≠ some .yield
      ∧ ¬ ofEntry.provEnd < ofEntry.winEnd)
    ∧ ((onAir cut).booking? 21 = some cut ∧ cut.cut = some .yield ∧ cut.provEnd ≤ 820006180 + 180) := by decide +kernel

theorem witness_AgingScanRemovesTheOld :
    let s : State := { streaming with guide := { streaming.guide with nextScan := some 820000000 } }
    let t : State := { stored with guide := { stored.guide with nextScan := some 820000000 } }
    s.running = true ∧ s.agenda = [] ∧ s.guide.nextScan = some 820000000 ∧ 820000000 ≤ s.present
    ∧ s.guide.stream.isSome = true ∧ t.guide.stream = none ∧ t.saving = false ∧ (during .savingWrite t).saving = true := by
  decide +kernel

theorem witness_ReqAddTakesItsValues :
    (1 ≤ (1 : Word16).toNat ∧ (9999 : Word16).toNat ≤ 9999 ∧ 60 ≤ (60 : Word16).toNat ∧ (127 : Byte).toNat < 128
      ∧ (4294967235 : Word32).toNat + min (60 : Word16).toNat 43200 ≤ 4294967295 ∧ (86399 : Word32).toNat < 86400)
    ∧ (65535 : Word16) ≠ 0 ∧ (1 : Word32) ≠ 0 ∧ 9999 < (10000 : Word16).toNat ∧ (59 : Word16).toNat < 60
    ∧ 128 ≤ (128 : Byte).toNat := by decide

/-- Forty-eight requests. -/
def fullRequests : State := { evening with
  requests := (List.range 48).map (fun n => ⟨n + 1, .paused, 8, none, none, 0, .event ⟨102, n + 1, false⟩⟩) }

theorem witness_ReqAddFillsTheLowestSlot : heard evening ∧ heard fullRequests
    ∧ (arrive (.reqAdd .own (.fields (.event ⟨8, 0, 0, 0⟩ 101 7))) .own (during .savingErase evening)).saving = true
    ∧ (arrive (.reqAdd .own (.fields (.event ⟨8, 0, 0, 0⟩ 101 7))) .own evening).saving = false
    ∧ asked (.event ⟨8, 0, 0, 0⟩ 0 7) = none
    ∧ asked (.event ⟨8, 0, 0, 0⟩ 101 7) = some ⟨8, some 0, some 0, .event ⟨101, 7, false⟩, false⟩
    ∧ asked (.timed ⟨8, 0, 0, 0⟩ 101 60 0 819999940) = some ⟨8, some 0, some 0, .timed ⟨101, 60, 0, 819999940, [], none⟩, false⟩
    ∧ singleEnded evening (.timed ⟨101, 60, 0, 819999940, [], none⟩) = true
    ∧ singleEnded evening (.event ⟨101, 7, false⟩) = false
    ∧ (evening.hasService 500 = false ∧ evening.hasService 101 = true)
    ∧ (∃ r ∈ (arrive (.reqAdd .own (.fields (.series ⟨8, 0, 0, 0⟩ 5500 0))) .own evening).requests,
      duplicates (.series ⟨5500, 0, false, false, []⟩) r.kind = true)
    ∧ (∀ r ∈ (arrive (.reqAdd .own (.fields (.event ⟨8, 0, 0, 0⟩ 101 7))) .own evening).requests,
      duplicates (.event ⟨101, 7, false⟩) r.kind = false) := by decide +kernel

theorem witness_ReqAddFillsTheLowestSlot_slots :
    (∀ n < 49, 1 ≤ n → n ∈ (arrive (.reqAdd .own (.fields (.event ⟨8, 0, 0, 0⟩ 101 7))) .own fullRequests).requests.map
      Request.number)
    ∧ (1 ≤ 1 ∧ 1 ≤ 48 ∧ 1 ∉ (arrive (.reqAdd .own (.fields (.event ⟨8, 0, 0, 0⟩ 101 7))) .own evening).requests.map
      Request.number) := by decide +kernel

theorem witness_ReqEditReplacesTheFields :
    let c := Instr.reqEdit .own (.fields ⟨8, .timed ⟨12, 65535, 65535, 0⟩ 1800 0 820007800⟩)
    let r : Request := ⟨8, .active, 12, none, none, 0, .timed ⟨205, 1800, 0, 820007800, [], none⟩⟩
    heard evening ∧ (arrive c .own evening).saving = false ∧ 1 ≤ (8 : Byte).toNat ∧ (48 : Byte).toNat ≤ 48
    ∧ editRangeOk (.timed ⟨12, 65535, 65535, 0⟩ 1800 0 820007800) = true
    ∧ (arrive c .own evening).request? 8 = some r ∧ r.state ≠ .dropping
    -- the carried values equal the request's, or differ in the importance
    ∧ { r with
        importance := min (12 : Byte).toNat 15
        kind := .timed ⟨205, min (1800 : Word16).toNat 43200, BitVec.ofNat 7 (0 : Byte).toNat, (820007800 : Word32).toNat,
          [], none⟩ } = r
    ∧ { r with importance := min (16 : Byte).toNat 15 } ≠ r
    -- other times: the last that have ended, and the first that have not
    ∧ (evening.clockSet = true ∧ 819999940 + min (60 : Word16).toNat 43200 ≤ evening.present
      ∧ ¬ 819999941 + min (60 : Word16).toNat 43200 ≤ evening.present ∧ (819999940 : Word32).toNat ≠ 820007800)
    ∧ ∃ b ∈ (recordingAt 820091000).plan.bookings, b.isRunning = true := by
  decide +kernel

theorem witness_ReqEditReplacesTheFields_refusals :
    let c := fun n : Byte => Instr.reqEdit .own (.fields ⟨n, .timed ⟨12, 65535, 65535, 0⟩ 1800 0 820007800⟩)
    (arrive (c 8) .own (during .savingErase evening)).saving = true
    ∧ (¬ 1 ≤ (0 : Byte).toNat ∧ ¬ (49 : Byte).toNat ≤ 48)
    ∧ ((arrive (c 48) .own evening).saving = false ∧ (arrive (c 48) .own evening).request? (48 : Byte).toNat = none) := by
  decide +kernel

/-- The night with request 1 in another state. -/
def request1 (st : RequestState) : State := night.setRequestState 1 st

theorem witness_RequestsPauseResumeAndDrop : heard night ∧ 1 ≤ (1 : Byte).toNat ∧ (48 : Byte).toNat ≤ 48
    ∧ ∀ st ∈ [RequestState.active, .paused, .dropping],
      ∀ c ∈ [Instr.reqPause .own (.fields 1), .reqResume .own (.fields 1), .reqDrop .own (.fields 1)],
        heard (request1 st) ∧ (arrive c .own (request1 st)).saving = false
        ∧ ((arrive c .own (request1 st)).request? 1).map Request.state = some st := by decide +kernel

theorem witness_RequestsPauseResumeAndDrop_refusals : ((0 : Byte).toNat = 0 ∧ 48 < (49 : Byte).toNat)
    ∧ ∀ c ∈ [fun n : Byte => Instr.reqPause .own (.fields n), fun n => .reqResume .own (.fields n),
        fun n => .reqDrop .own (.fields n)],
      (arrive (c 1) .own (during .savingErase night)).saving = true
      ∧ (arrive (c 48) .own night).saving = false ∧ (arrive (c 48) .own night).request? (48 : Byte).toNat = none := by
  decide +kernel

theorem witness_ReqReadReports : heard night ∧ 48 < (49 : Byte).toNat ∧ 1 < (2 : Byte).toNat ∧ (48 : Byte).toNat ≤ 48
    ∧ (∀ r ∈ (arrive (.reqRead .own (.fields ⟨3, 0⟩)) .own night).requests, r.number < (3 : Byte).toNat)
    ∧ (∀ q ∈ (arrive (.reqRead .own (.fields ⟨2, 1⟩)) .own night).requests, (2 : Byte).toNat ≤ q.number → 2 ≤ q.number) := by
  decide +kernel

theorem witness_ReqReadReports_ordered : requestsOk (arrive (.reqRead .own (.fields ⟨2, 1⟩)) .own night).requests := by
  unfold requestsOk rising; decide +kernel

theorem witness_BookReadWalksByNumber : heard night := by decide +kernel

theorem witness_DerivationBringsTheListInLine : KeysOk streaming ∧ InBounds streaming ∧ NumbersOk streaming := by
  refine ⟨by unfold KeysOk; decide +kernel, ⟨by decide +kernel, by decide +kernel, ?_, ?_, ?_, trivial, trivial,
    by decide +kernel⟩, ⟨by decide +kernel, by decide +kernel, by decide +kernel, by decide +kernel⟩⟩
  · unfold servicesOk rising; decide +kernel
  · unfold requestsOk rising; decide +kernel
  · unfold entriesOk rising; decide +kernel

/-- Requests of each kind, and what they want. -/
theorem witness_DerivationBringsTheListInLine_wanted :
    let r : RequestKind → Request := fun k => ⟨9, .active, 8, none, none, 0, k⟩
    (r (.timed ⟨205, 1800, 127, 3600, [], none⟩)).state = .active ∧ (127 : BitVec 7) ≠ 0
    ∧ (wantedOf streaming (r (.timed ⟨205, 1800, 0, 820007800, [], none⟩))).length = 1
    ∧ (wantedOf streaming (r (.timed ⟨205, 1800, 127, 3600, [], none⟩))).length = 8
    ∧ (wantedOf streaming (r (.event ⟨401, 5, false⟩))).map Occurrence.start = [820060000]
    ∧ (wantedOf streaming (r (.series ⟨5500, 0, true, false, []⟩))).map Occurrence.start = [820004200, 820005000, 820005400]
    ∧ wantedOf streaming { r (.event ⟨401, 5, false⟩) with state := .paused } = [] := by decide +kernel

/-- An open booking whose occurrence is wanted, and a held one. -/
theorem witness_DerivationBringsTheListInLine_serves :
    (∃ b ∈ streaming.plan.bookings, b.isOpen = true
      ∧ ∃ o ∈ ((pruneSkips streaming).requests.map (wantedOf (pruneSkips streaming))).flatten,
        b.request = o.request ∧ b.key = o.key)
    ∧ (∃ b ∈ (recordingAt 820091000).plan.bookings, b.isHeld = true) := by decide +kernel

/-- The night with 239 LATE bookings of another request, so that only one of its two occurrences finds room. -/
def packed : State := { night with plan := { night.plan with
  counter := 300
  bookings := (List.range 239).map (fun n => late50 (booking (n + 1) 9 .a 101 820090060 3540 820090000 820093780)) } }

/-- R86: the earlier occurrence is created, the later one is left, and the list-short flag is set. -/
theorem witness_DerivationBringsTheListInLine_short :
    let wanted := ((pruneSkips packed).requests.map (wantedOf (pruneSkips packed))).flatten
    wanted.map Occurrence.start = [820090060, 820091060]
    ∧ ((derive packed).plan.bookings.filter (fun b => b.request != 9)).map Booking.progStart = [820090060]
    ∧ (derive packed).plan.listShort = true ∧ (derive packed).plan.bookings.length = 240 := by decide +kernel

theorem witness_DerivationBringsTheListInLine_packed : InBounds packed ∧ NumbersOk packed :=
  ⟨⟨by decide +kernel, by decide +kernel, by unfold servicesOk rising; decide +kernel,
    by unfold requestsOk rising; decide +kernel, by unfold entriesOk rising; decide +kernel, trivial, trivial,
    by decide +kernel⟩, ⟨by decide +kernel, by
      rw [show packed.plan.bookings.map Booking.number = (List.range 239).map Nat.succ by decide +kernel]
      exact List.Nodup.map (fun _ _ h => Nat.succ.inj h) List.nodup_range,
    by decide +kernel, by decide +kernel⟩⟩

/-- R72: at the counter's top the number 65,535 is taken, then 1 is passed over while it is held, and 2 follows. -/
theorem test_numbers_come_round :
    let s : State := { packed with plan := { packed.plan with counter := 65535, bookings := packed.plan.bookings.take 1 } }
    s.newNumber = 65535
    ∧ { s with plan := { s.plan with counter := nextNumber s.newNumber } }.newNumber = 2 := by decide +kernel

/-- A list with room, and one without. -/
theorem witness_DerivationBringsTheListInLine_numbers :
    (packed.request? 1).isSome = true ∧ packed.plan.bookings.length < 240 ∧ 240 ≤ (derive packed).plan.bookings.length
    ∧ ((derive packed).request? 1).isSome = true := by decide +kernel

/-- A pass over an evening with an unplaced booking, a clashed one that stays one, a held one and a viewer hold. -/
def passing : State := { onAir ofEntry with
  requests := evening.requests
  tunerB := ⟨false, 0x3, some ⟨310, 50, 0, none, none, false, none⟩⟩
  plan := { stored.plan with
    counter := 30
    bookings := [{ ofEntry with provExpiry := some 820009000, provEnd := 820009000, tier := 2 },
      { booking 22 8 .a 205 820007800 1800 820007740 820009780 with state := none, place := none },
      { clashed50 (booking 23 8 .a 101 820008800 1800 820008740 820010780) with partners := [22] }] } }

theorem witness_PassPlacesOrClashes : NumbersOk passing ∧ NumbersOk (onAir ofEntry) :=
  ⟨⟨by decide +kernel, by decide +kernel, by decide +kernel, by decide +kernel⟩,
    ⟨by decide +kernel, by decide +kernel, by decide +kernel, by decide +kernel⟩⟩

/-- R89 to R102: 21's overrun is cut at 22's window start, 22 takes its place's tuner, 23 stays CLASHED with 22. -/
theorem test_pass_places_and_cuts :
    (planPass passing).plan.bookings.map (fun b => (b.number, b.state, b.place, b.provEnd, b.partners))
      = [(21, some .recording, some ⟨.a, 0⟩, 820007740, []), (22, some .planned, some ⟨.a, 0⟩, 820009780, []),
         (23, some .clashed, none, 820010780, [22])] := by decide +kernel

/-- A SERIES booking that a RECORDING one keeps off tuner A, with a later airing of its episode that meets it too. -/
def airings : State := { onAir ofEntry with
  present := 820004000
  requests := [⟨6, .active, 8, none, none, 1, .series ⟨5500, 0, true, true, []⟩⟩,
    ⟨8, .active, 12, none, none, 0, .timed ⟨101, 6000, 0, 820003000, [], none⟩⟩]
  tunerB := ⟨false, 0x3, none⟩
  guide := { stored.guide with entries :=
    [{ entry 1 205 2 820005000 1800 5500 7 with pins := 1 }, entry 2 205 3 820005400 1800 5500 7] }
  plan := { stored.plan with
    counter := 30
    bookings := [recording50 (booking 21 8 .a 101 820003000 6000 820002940 820009180),
      { booking 22 6 .a 205 820005000 1800 820004940 820006980 with
        key := .guideSlot 1, episode := some 7, state := none, place := none }] } }

theorem witness_PassPlacesOrClashes_airings : PinsOk airings ∧ NumbersOk airings
    ∧ (planPass airings).plan.bookings.map (fun b => (b.number, b.state, b.partners))
      = [(21, some .recording, []), (22, some .clashed, [21])]
    ∧ (planPass airings).guide.entries = airings.guide.entries
    ∧ (planPass airings).outbox.notices = [.clashNew 22 [21], .clashPresent 1] := by
  refine ⟨⟨by decide +kernel, ?_⟩,
    ⟨by decide +kernel, by decide +kernel, by decide +kernel, by decide +kernel⟩, by decide +kernel⟩
  intro b hb n h
  have hk : b.key.slot? = none ∨ b.key.slot? = some 1 :=
    (by decide +kernel : ∀ b ∈ airings.plan.bookings, b.key.slot? = none ∨ b.key.slot? = some 1) b hb
  rw [h] at hk
  rcases hk with hk | hk <;> cases hk
  decide +kernel

theorem witness_CancelAndStopFinishABooking : heard night ∧ heard (recordingAt 820091000) ∧ (50 : Word16) ≠ 0
    ∧ (arrive (.bookCancel .own (.fields 9)) .own night).booking? 9 = none
    ∧ ((arrive (.bookCancel .own (.fields 50)) .own night).booking? 50).map Booking.state = some (some .planned)
    ∧ ((arrive (.bookCancel .own (.fields 50)) .own (recordingAt 820091000)).booking? 50).map Booking.state
      = some (some .recording)
    ∧ (arrive (.bookStop .own (.fields 9)) .own night).booking? 9 = none
    ∧ ((arrive (.bookStop .own (.fields 50)) .own night).booking? 50).map Booking.state = some (some .planned)
    ∧ ((arrive (.bookStop .own (.fields 50)) .own (recordingAt 820091000)).booking? 50).map Booking.state
      = some (some .recording) := by decide +kernel

theorem witness_FinishDoesItsSteps :
    ofEntry.key = .guideSlot 1
    ∧ (∃ x ∈ (finishBooking .cancel none ofEntry stored).guide.entries, x.slot = 1)
    ∧ (∀ r code, Ending.cancel ≠ .outcome .withdrawn r code ∧ Ending.cancel ≠ .outcome .replaced r code)
    ∧ ofEntry.request ∈ (finishBooking .cancel none ofEntry stored).requests.map Request.number
    ∧ stored.alerts.masks.edge.bookingEnd = false ∧ stored.outbox.notices.length < 23
    ∧ stored.request? 7 = none ∧ (stored.request? 6).map Request.state = some .active
    ∧ ((request1 .dropping).request? 1).map Request.state = some .dropping
    ∧ (night.request? 1).map Request.kind = some (.timed ⟨101, 3540, 0, 820090060, [], none⟩)
    ∧ (1 : Nat) ∉ (finishBooking .cancel none (booking 50 1 .a 101 820090060 3540 820090000 820093780) night).requests.map
      Request.number := by
  refine ⟨by decide +kernel, by decide +kernel, fun r code => ⟨nofun, nofun⟩, by decide +kernel⟩

theorem witness_FinishReportOnARequest :
    let f : SeriesFields := ⟨5500, 0, true, false, [1, 2, 3, 4, 5, 6, 7, 8, 9, 10, 11, 12]⟩
    ofEntry.episode = some 7 ∧ ofEntry.begun = some 820004145
    ∧ ofEntry.progDuration ≤ 2 * (820005045 - 820004145) ∧ 2 * (820005044 - 820004145) < ofEntry.progDuration
    ∧ f.history.length ≤ 12 ∧ f.history.Nodup
    ∧ (1 : BitVec 7) ≠ 0 ∧ ([1, 2, 3, 4] : List Int).length ≤ 4
    ∧ (booking 50 1 .a 101 820090060 3540 820090000 820093780).key = .localDay 9491 := by decide +kernel

theorem witness_SpaceFlagsInListOrder : heard night ∧ night.service? 101 = some ⟨101, 0, 12, 1⟩ := by decide +kernel

/-- Booking 50 at its window start while booking 51 is ending on its place. -/
def inTheWay : State := (nightAt 820090000 awake).mapBooking 51 (fun b =>
  { b with state := some .recording, place := some ⟨.a, 0⟩, windowExpiry := none, begun := some 820080000, provEnd := 820090000
           provExpiry := some 820090000 })

theorem witness_HoldMovesDueAndLate : Free waiting ∧ 1 < (2 : Byte).toNat ∧ waiting.run.hold = false
    ∧ ((arrive (.hold .own (.fields 1)) .own waiting).plan.bookings.map Booking.number).Nodup
    ∧ (∀ x ∈ (arrive (.hold .own (.fields 1)) .own waiting).plan.bookings, x.state = some .due →
      waiting.present < lateLimitOf waiting.settings x)
    ∧ Free { waiting with run := ⟨true, 0⟩, host := sleeping } ∧ { waiting with run := ⟨true, 0⟩ }.run.hold = true
    ∧ (arrive (.hold .own (.fields 0)) .own { waiting with run := ⟨true, 0⟩, host := sleeping }).host.state ≠ .awake :=
  ⟨⟨rfl, rfl, rfl⟩, by decide, rfl, by decide +kernel, by decide +kernel, ⟨rfl, rfl, rfl⟩, rfl, by decide +kernel⟩

theorem witness_HoldMovesDueAndLate_lates :
    let b := late50 (booking 50 1 .a 101 820090060 3540 820090000 820093780)
    let s := with50 820090500 late50
    let strict := { s with settings := { s.settings with strictSpace := true } }
    (s.host.state = .awake ∧ s.run.hold = false ∧ sleeping.state ≠ .awake)
    ∧ (clearWay 6 50 s).booking? 50 = some b ∧ b.state = some .late ∧ s.settings.strictSpace = false
    ∧ ((clearWay 6 50 (strict.mapBooking 50 (fun b => { b with spaceShort := true }))).booking? 50
        = some { b with spaceShort := true } ∧ strict.settings.strictSpace = true)
    ∧ ((clearWay 6 50 (with50 820090900 due50)).booking? 50).map Booking.state = some (some .due)
    ∧ (s.booking? 50 = some b ∧ endingBefore s b = none)
    ∧ ((endingBefore inTheWay (booking 50 1 .a 101 820090060 3540 820090000 820093780)).isSome = true
      ∧ inTheWay.booking? 50 = some (booking 50 1 .a 101 820090060 3540 820090000 820093780))
    ∧ heard night ∧ heard (recordingAt 820091000) := by decide +kernel

theorem witness_ConfirmStartsTheRecording : Free (with50 820090904 starting50) ∧ (50 : Word16) ≠ 0
    ∧ (arrive (.confirm .own (.fields ⟨51, 0⟩)) .own (with50 820090904 starting50)).booking? 51
      = some (booking 51 2 .b 101 820091060 3540 820091000 820094780)
    ∧ (arrive (.confirm .own (.fields ⟨50, 0⟩)) .own (with50 820090904 starting50)).booking? 50
      = some (starting50 (booking 50 1 .a 101 820090060 3540 820090000 820093780))
    ∧ (7 : Byte) ≠ 0 ∧ (with50 820090904 starting50).present < 820093780
    ∧ earlyEndApplies (with50 820090904 recording50)
      (recording50 (booking 50 1 .a 101 820090060 3540 820090000 820093780)) = false :=
  ⟨⟨rfl, rfl, rfl⟩, by decide, by decide +kernel⟩

/-- A RECORDING booking whose entry has run and is off air. -/
theorem witness_ConfirmStartsTheRecording_early :
    earlyEndApplies { stored with guide := { stored.guide with entries :=
        [{ entry 1 102 2 820004200 1800 5500 7 with status := .notRunning, hasRun := true }] } }
      { ofEntry with accurate := true } = true := by decide +kernel

theorem witness_WindowStartTakesItsCase :
    let b := booking 50 1 .a 101 820090060 3540 820090000 820093780
    let s := nightAt 820090000 awake
    (s.running = true ∧ s.agenda = [] ∧ s.image.state ≠ .savingErase ∧ s.saving = false ∧ s.booking? 50 = some b
      ∧ b.state = some .planned ∧ b.place = some ⟨.a, 0⟩ ∧ b.windowExpiry = some 820090000 ∧ 820090000 ≤ s.present
      ∧ endingBefore s b = none)
    ∧ (lateLimitOf s.settings b < (nightAt 820091201 sleeping).present ∧ (nightAt 820091201 sleeping).host.state ≠ .awake)
    ∧ (s.present ≤ lateLimitOf s.settings b ∧ s.host.state = .awake ∧ s.run.hold = false
      ∧ s.settings.strictSpace = false ∧ s.present < takeDeadlineOf s.settings b s.present)
    ∧ (s.tuner .a).hold = none
    ∧ ((820091199 : Nat) < lateLimitOf s.settings b ∧ (nightAt 820091199 sleeping).host.state ≠ .awake) := by decide +kernel

theorem witness_WindowStartTakesItsCase_ending :
    let b := booking 50 1 .a 101 820090060 3540 820090000 820093780
    inTheWay.running = true ∧ inTheWay.agenda = [] ∧ inTheWay.saving = false ∧ inTheWay.booking? 50 = some b
    ∧ (endingBefore inTheWay b).map Booking.number = some 51
    ∧ (nightAt 820091200 awake).present = lateLimitOf night.settings b
    ∧ ¬ ((nightAt 820091200 sleeping).host.state = .awake ∧ (nightAt 820091200 sleeping).run.hold = false) := by
  decide +kernel

/-- The other sides of R113's tests: HOLD on, STRICT_SPACE with the flag, and a hold in conflict or out of the way. -/
theorem witness_WindowStartTakesItsCase_tests :
    let b := { booking 50 1 .a 101 820090060 3540 820090000 820093780 with spaceShort := true }
    let s := { nightAt 820090000 awake with
      run := ⟨true, 0⟩
      settings := { night.settings with strictSpace := true }
      tunerA := ⟨true, 0xF, some ⟨102, 13, 1, none, none, false, none⟩⟩
      tunerB := ⟨true, 0xF, some ⟨101, 12, 1, none, none, false, none⟩⟩ }
    s.run.hold = true ∧ (s.settings.strictSpace = true ∧ b.spaceShort = true)
    ∧ (∃ h ∈ (s.tuner .a).hold, h.multiplex ≠ s.multiplexOf b.channel)
    ∧ (∀ h ∈ (s.tuner .b).hold, h.multiplex = s.multiplexOf b.channel ∧ h.slot ≠ 0) := by decide +kernel

theorem witness_DeadlinesFinishABooking :
    let b := booking 50 1 .a 101 820090060 3540 820090000 820093780
    ((with50 820091200 clashed50).running = true ∧ (with50 820091200 clashed50).saving = false
      ∧ (with50 820091200 clashed50).booking? 50 = some (clashed50 b)
      ∧ 820091200 ≤ (with50 820091200 clashed50).present ∧ (clashed50 b).lateExpiry = some 820091200)
    ∧ ((late50 b).state = some .late ∧ (late50 b).lateExpiry = some 820091200
      ∧ (with50 820091200 late50).booking? 50 = some (late50 b) ∧ (with50 820091200 late50).host.state = .awake
      ∧ ((nightAt 820091200 sleeping).mapBooking 50 late50).host.state ≠ .awake)
    ∧ ((due50 b).takeExpiry = some 820091200 ∧ (with50 820091200 due50).booking? 50 = some (due50 b))
    ∧ ((starting50 b).confirmExpiry = some 820090922 ∧ (with50 820090922 starting50).booking? 50 = some (starting50 b)
      ∧ 820090922 ≤ (with50 820090922 starting50).present ∧ (starting50 b).provExpiry = some 820093780
      ∧ 820093780 ≤ (with50 820093780 starting50).present) := by decide +kernel

theorem witness_ProvisionalEndExtendsOrFinishes :
    let s := onAir ofEntry
    (s.running = true ∧ s.saving = false ∧ s.booking? 21 = some ofEntry ∧ ofEntry.state = some .recording
      ∧ ofEntry.provExpiry = some 820006180 ∧ 820006180 ≤ s.present
      ∧ s.request? ofEntry.request = some ⟨6, .active, 8, none, none, 1, .series ⟨5500, 0, true, true, []⟩⟩)
    ∧ (ofEntry.cut ≠ some .yield ∧ ofEntry.winEnd ≤ ofEntry.provEnd ∧ (∃ g ∈ s.entryOf ofEntry,
      g.withdrawn = false ∧ g.status = .running))
    ∧ ofEntry.provEnd < capOf s.settings ofEntry
    ∧ capOf { s.settings with overrunLimit := 0 } ofEntry ≤ ofEntry.provEnd
    ∧ ({ ofEntry with cut := some .yield }.cut = some .yield ∧ { ofEntry with cut := some .limit }.cut = some .limit)
    ∧ (∀ g ∈ (recordingAt 820093780).entryOf (recording50 (booking 50 1 .a 101 820090060 3540 820090000 820093780)), False)
    ∧ ofEntry.begun = some 820004145 ∧ 820004145 ≤ ofEntry.progStart := by decide +kernel

theorem witness_TakeReturnsTheHead :
    let u := arrive (.take .own (.fields ())) .own waiting
    let f : BeginFields := ⟨50, ⟨.a, 0⟩, 101, 0, 12, 820090060, 3540, 820093780, false⟩
    Free waiting ∧ Free clocked
    ∧ ((arrive (.take .own (.fields ())) .own clocked).outbox.directives = []
      ∧ (arrive (.take .own (.fields ())) .own clocked).outbox.notices = []
      ∧ (arrive (.take .own (.fields ())) .own State.reset).outbox.notices = .storeStale .absent :: [])
    ∧ u.outbox.directives = .beginRec f :: []
    ∧ u.booking? 50 = some (due50 (booking 50 1 .a 101 820090060 3540 820090000 820093780))
    ∧ waiting.present < 820093780 ∧ (∀ g, Directive.endRec 50 ⟨.a, 0⟩ .natural ≠ .beginRec g) :=
  ⟨⟨rfl, rfl, rfl⟩, ⟨rfl, rfl, rfl⟩, by decide +kernel, by decide +kernel, by decide +kernel, by decide, nofun⟩

theorem witness_QueuesMakeRoom : TunerId.a ≠ .b ∧ clocked.outbox.notices.length < 24
    ∧ (let q := Notice.storeStale .absent :: List.replicate 23 (Notice.wakeFailed 0)
      q = [.storeStale .absent] ++ .wakeFailed 0 :: List.replicate 22 (.wakeFailed 0) ∧ 24 ≤ q.length
      ∧ (Notice.wakeFailed 0).isEdge = true ∧ ∀ y ∈ [Notice.storeStale .absent], y.isEdge = false) := by decide +kernel

theorem witness_AlertAckSamplesTheSource : heard State.reset ∧ heard clocked ∧ (0 : Byte).toNat = 0 ∧ 8 < (9 : Byte).toNat
    ∧ sourceOfNumber (8 : Byte).toNat = some (.edge .wakeFailed)
    ∧ sourceOfNumber (7 : Byte).toNat = some (.level .storeStale)
    ∧ (∃ n ∈ (arrive (.alertAck .own (.fields 7)) .own State.reset).outbox.notices, n.source = .level .storeStale)
    ∧ (∀ n ∈ (arrive (.alertAck .own (.fields 7)) .own clocked).outbox.notices, n.source ≠ .level .storeStale)
    ∧ (arrive (.alertAck .own (.fields 7)) .own clocked).alerts.condition .storeStale = true
    ∧ (arrive (.alertAck .own (.fields 7)) .own clocked).alerts.masks.level.get .storeStale = false
    ∧ (arrive (.alertAck .own (.fields 7)) .own night).alerts.condition .storeStale = false := by decide +kernel

theorem witness_AlertMaskChangesOneMask :
    let u := arrive (.alertMask .own (.fields ⟨7, 1⟩)) .own night
    heard night ∧ heard (during .savingErase night) ∧ (0 : Byte).toNat = 0 ∧ 8 < (9 : Byte).toNat ∧ 1 < (2 : Byte).toNat
    ∧ sourceOfNumber (7 : Byte).toNat = some (.level .storeStale) ∧ sourceOfNumber (1 : Byte).toNat = some (.edge .clashNew)
    ∧ (arrive (.alertMask .own (.fields ⟨7, 1⟩)) .own (during .savingErase night)).saving = true ∧ u.saving = false
    ∧ u.alerts.masks.get (.level .storeStale) = false ∧ u.alerts.masks.get (.level .storeStale) ≠ true
    ∧ { night with alerts := { night.alerts with masks := night.alerts.masks.put (.level .storeStale) true } }.alerts.masks.get
      (.level .storeStale) ≠ false := by decide +kernel

theorem witness_AttnEnableDrivesTheLine : heard waiting ∧ 1 < (2 : Byte).toNat ∧ (1 : Byte).toNat ≤ 1
    ∧ (arrive (.attnEnable .own (.fields 1)) .own (during .savingErase waiting)).saving = true
    ∧ (arrive (.attnEnable .own (.fields 1)) .own waiting).saving = false
    ∧ (arrive (.attnEnable .own (.fields 1)) .own waiting).outbox.attnEnable = true
    ∧ (arrive (.attnEnable .own (.fields 0)) .own (during .stale waiting)).image.state ≠ .current := by decide +kernel

theorem witness_PanelStageReplacesAPattern :
    let u := arrive (.panelStage .own (.fields ⟨4, 15, 1⟩)) .own night
    heard night ∧ u.saving = false
    ∧ (arrive (.panelStage .own (.fields ⟨4, 15, 1⟩)) .own (during .savingWrite night)).saving = true
    ∧ 4 < (5 : Byte).toNat ∧ 15 < (16 : Byte).toNat ∧ 1 < (2 : Byte).toNat
    ∧ triggerOf 4 = some .rest ∧ (15 : Byte).toNat ≤ 15
    ∧ u.panel.staged.get .rest = ⟨4, true⟩ ∧ u.panel.staged.get .rest ≠ ⟨15, true⟩ := by decide +kernel

theorem witness_PanelSetMovesTheLines : heard night ∧ 15 < (16 : Byte).toNat ∧ (15 : Byte).toNat ≤ 15 := by decide +kernel

theorem witness_StoredContentChangeMarksTheImage :
    ({ night with present := 1 }).storedContent = night.storedContent
    ∧ ({ night with requests := [] }).storedContent ≠ night.storedContent
    ∧ ({ night with requests := [] }).image.state = .current
    ∧ (during .savingErase night).image.state = .savingErase ∧ (during .failed night).image.state = .failed := by
  decide +kernel

/-- A save in its write phase, its content captured. -/
def writing : State := { night with image :=
  ⟨.savingWrite, true, .none, none, none, some ⟨night.storedContent, some 820079999⟩⟩ }

theorem witness_SaveRunsThroughItsPhases : heard night ∧ heard writing
    ∧ (arrive (.storeSave .own (.fields ())) .own writing).saving = true
    ∧ (arrive (.storeSave .own (.fields ())) .own night).saving = false
    ∧ ((during .savingErase night).running = true ∧ (during .savingErase night).image.state = .savingErase)
    ∧ Free writing ∧ writing.image.state = .savingWrite
    ∧ writing.image.capture = some ⟨night.storedContent, some 820079999⟩ ∧ writing.guide.scanWaits = false
    ∧ night.image.state ≠ .savingErase ∧ night.image.state ≠ .savingWrite :=
  ⟨by decide +kernel, by decide +kernel, by decide +kernel, by decide +kernel, by decide +kernel, ⟨rfl, rfl, rfl⟩, rfl, rfl,
    rfl, by decide +kernel, by decide +kernel⟩

theorem witness_SaveRunsThroughItsPhases_scan : { writing with guide := { writing.guide with scanWaits := true } }.running = true
    ∧ { writing with guide := { writing.guide with scanWaits := true } }.image.state = .savingWrite := by decide +kernel

theorem witness_SaveRunsThroughItsPhases_deadlines :
    let save := during .savingErase
    (save (nightAt 820090000 awake)).running = true ∧ (save (nightAt 820090000 awake)).saving = true
    ∧ isDue (.windowStart 50) (save (nightAt 820090000 awake)) = true
    ∧ isDue (.lateLimit 50) (save (with50 820091200 clashed50)) = true
    ∧ isDue (.takeDeadline 50) (save (with50 820091200 due50)) = true
    ∧ isDue (.confirmTimer 50) (save (with50 820090922 starting50)) = true
    ∧ isDue (.provisionalEnd 50) (save (recordingAt 820093780)) = true
    ∧ isDue .wake (save (nightAt 820089880 sleeping)) = true := by decide +kernel

theorem witness_StoreQueryReports : heard night := by decide +kernel

theorem witness_GreetAndRestMoveTheHost : heard night ∧ heard State.reset ∧ State.reset.clockSet = false
    ∧ night.clockSet = true
    ∧ (∀ b ∈ (arrive (.rest .own (.fields ())) .own night).plan.bookings, b.isHeld = false)
    ∧ (∃ b ∈ (arrive (.rest .own (.fields ())) .own (recordingAt 820091000)).plan.bookings, b.isHeld = true)
    ∧ (arrive (.rest .own (.fields ())) .own night).panel.staged.rest.enable = true
    ∧ ((arrive (.rest .own (.fields ())) .own night).tunerA.hold = none
      ∧ (arrive (.rest .own (.fields ())) .own night).tunerB.hold = none)
    ∧ ((arrive (.rest .own (.fields ())) .own evening).tunerB.hold.isSome = true ∧ heard evening ∧ evening.clockSet = true)
    ∧ (∀ b ∈ (arrive (.rest .own (.fields ())) .own evening).plan.bookings, b.isHeld = false) := by decide +kernel

theorem witness_WakesBeginAndFail :
    let s := nightAt 820089880 sleeping
    let t := nightAt 820090120 waking
    (s.running = true ∧ s.agenda = [] ∧ s.saving = false ∧ s.host.state = .sleeping
      ∧ s.host.wakeExpiry = some 820089880 ∧ 820089880 ≤ s.present)
    ∧ (t.running = true ∧ t.host.state = .waking ∧ t.host.wakeTimer = some 820090120 ∧ 820090120 ≤ t.present
      ∧ t.host.attempt = some 820089880) := by decide +kernel

/-- Booking 50 asks first; with no booking the maintenance window asks; with neither nobody does. -/
theorem witness_WakesBeginAndFail_asked :
    let s := nightAt 820080000 sleeping
    let b := booking 50 1 .a 101 820090060 3540 820090000 820093780
    let maint := { s.settings with maintFrom := 0, maintTo := 0 }
    s.plan.bookings = [] ++ b :: [booking 51 2 .b 101 820091060 3540 820091000 820094780]
    ∧ b.state = some .planned ∧ 820089880 = b.winStart - s.settings.wakeLead
    ∧ nextMaintenance s = some 820116000
    ∧ nextMaintenance { s with settings := maint } = none ∧ s.host.state ≠ .wakeFailed
    ∧ awake.state ≠ .sleeping := by decide +kernel

/-- The night with a command waiting. -/
def before : State := { nightAt 820090000 waking with pending := [.windowStart 50] }

theorem witness_StepKeeps_step : ∃ t, step before = .next t := ⟨_, rfl⟩

theorem witness_StepKeepsTablesAndNumbers : InBounds before ∧ NumbersOk before :=
  ⟨⟨by decide +kernel, by decide +kernel, by unfold servicesOk rising; decide +kernel,
    by unfold requestsOk rising; decide +kernel, by unfold entriesOk rising; decide +kernel, trivial, trivial,
    by decide +kernel⟩, ⟨by decide +kernel, by decide +kernel, by decide +kernel, by decide +kernel⟩⟩

theorem witness_StepKeepsOrderPinsAndCounts : ListOk before ∧ KeysOk before ∧ PinsOk before ∧ RunsOk before := by
  refine ⟨by unfold ListOk; decide +kernel, by unfold KeysOk; decide +kernel, ⟨by decide +kernel, ?_⟩, by decide +kernel, ?_⟩
  · intro b hb n h
    have hk : b.key.slot? = none := (by decide +kernel : ∀ b ∈ before.plan.bookings, b.key.slot? = none) b hb
    rw [h] at hk; cases hk
  · intro n
    have hk := (by decide +kernel : ∀ b ∈ before.plan.bookings, b.state ≠ some .due)
    have : before.plan.bookings.any (fun b => b.number == n && b.state == some .due) = false :=
      List.any_eq_false.mpr (fun b hb => by simp [hk b hb])
    rw [this]; rfl

/-- A list of one RECORDING booking that pins its entry. -/
theorem witness_StepKeepsOrderPinsAndCounts_pinned : PinsOk (onAir ofEntry) := by
  refine ⟨by decide +kernel, ?_⟩
  intro b hb n h
  cases List.mem_singleton.mp hb; cases h; decide +kernel

theorem witness_StepKeepsTheWakeOutputs : WakeOk before := ⟨by decide +kernel, by decide +kernel, by decide +kernel⟩

theorem witness_StepKeepsTheQueues : QueuesOk before :=
  ⟨by decide +kernel, by decide +kernel, by intro l; cases l <;> decide +kernel, by intro t; cases t <;> decide +kernel⟩

theorem witness_StepKeepsTheAlertTable : ReportsOk before ∧ LevelsOk before :=
  ⟨⟨rfl, rfl, rfl⟩, by intro _ l; cases l <;> decide +kernel⟩

theorem witness_StepKeepsUnsetEmptyAndSettled : UnsetOk State.reset ∧ State.reset.clockSet = false ∧ before.agenda = [] :=
  ⟨fun _ => ⟨rfl, rfl, rfl⟩, rfl, rfl⟩

end Sys2Proof.Tests
end

/-! PROOFS. Station time, local time and daily windows (R1, R7 to R10). -/

namespace Sys2Proof.Machine

/-! ### Station time (R1) -/

theorem exec_presentAdvance (s : State) : exec .presentAdvance s = .next (advance s) := rfl

theorem advance_of_running {s : State} (h : s.running = true) :
    advance s = { s with present := min (s.present + 1) Config.maxTime } := if_pos h

/-- Settles O9: below the last station time the bound does not act, at it the count does not. -/
theorem presentAdvancesByOne : Obligations.PresentAdvancesByOne := by
  intro s hr
  rw [exec_presentAdvance, advance_of_running hr]
  refine ⟨fun hlt => ?_, fun hlast => ?_⟩
  · rw [Nat.min_eq_left (show s.present + 1 ≤ Config.maxTime from hlt)]
  · have hmin : min (s.present + 1) Config.maxTime = s.present := by
      rw [hlast, Config.maxTime]; rfl
    rw [hmin]

/-! ### Local time (R7) -/

theorem localSum_eq (set : Settings) (s : Int) : localSum set s = s + set.localOffset * 900 := rfl

/-- A station time's local sum is its local day in seconds and its time of day. -/
theorem localSum_split (set : Settings) (s : Int) :
    localSum set s = localDay set s * 86400 + timeOfDay set s ∧ timeOfDay set s < 86400 := by
  have hmod : (timeOfDay set s : Int) = localSum set s % 86400 :=
    Int.toNat_of_nonneg (Int.emod_nonneg _ (by decide))
  have hday : localDay set s = localSum set s / 86400 := rfl
  omega

theorem weekday_eq (day : Int) : (weekday day : Int) = (day + 5) % 7 :=
  Int.toNat_of_nonneg (Int.emod_nonneg _ (by decide))

/-- Settles O10, from the split of the local sum into its day and its time of day. -/
theorem localDayTimeAndWeekday : Obligations.LocalDayTimeAndWeekday := by
  intro set s hlo hhi hs sum d
  obtain ⟨hsplit, htime⟩ := localSum_split set s
  have hweek := weekday_eq d
  have hsum : localSum set s = sum := localSum_eq set s
  have hd : localDay set s = d := rfl
  have hdef : sum = (s : Int) + set.localOffset * 900 := rfl
  rw [hsum, hd] at hsplit
  refine ⟨?_, ?_, hsum, ?_, ?_, ?_, ?_, ?_, ?_, ?_, hweek, ?_, rfl, rfl⟩ <;> omega

/-! ### Daily windows (R8, R10) -/

theorem nextWindowStart_disabled (set : Settings) (t : Nat) (s : Int) : nextWindowStart set t t s = none := if_pos rfl

/-- The local day on which the next instant after `s` with a time of day falls (R10). -/
def nextDay (set : Settings) (t : Nat) (s : Int) : Int :=
  if timeOfDay set s < t then localDay set s else localDay set s + 1

/-- That instant, before it is brought into station time (R8). -/
def nextInstant (set : Settings) (t : Nat) (s : Int) : Int :=
  nextDay set t s * 86400 - set.localOffset * 900 + t

theorem nextWindowStart_eq {set : Settings} {fromT toT : Nat} {s : Int} (h : fromT ≠ toT) :
    nextWindowStart set fromT toT s = some (clampTime (nextInstant set fromT s)) := if_neg h

/-- It is later than `s`, by at most a day. -/
theorem nextInstant_range (set : Settings) {t : Nat} (ht : t < 86400) (s : Int) :
    s < nextInstant set t s ∧ nextInstant set t s ≤ s + 86400 := by
  obtain ⟨hsplit, htime⟩ := localSum_split set s
  rw [localSum_eq] at hsplit
  unfold nextInstant nextDay
  split <;> omega

theorem nextInstant_timeOfDay (set : Settings) {t : Nat} (ht : t < 86400) (s : Int) :
    (nextInstant set t s + set.localOffset * 900) % 86400 = t := by
  have h : nextInstant set t s + set.localOffset * 900 = nextDay set t s * 86400 + t := by
    unfold nextInstant; omega
  omega

/-- Settles O11: two instants of one time of day lie a whole day apart, so none lies between `s` and the one found. -/
theorem nextStartOfADailyWindow : Obligations.NextStartOfADailyWindow := by
  refine ⟨fun set fromT toT s hfrom => ⟨fun he => ?_, fun hne => ?_⟩, fun _ => rfl⟩
  · rw [he]; exact nextWindowStart_disabled set toT s
  · obtain ⟨hafter, hwithin⟩ := nextInstant_range set hfrom s
    have htime := nextInstant_timeOfDay set hfrom s
    refine ⟨nextInstant set fromT s, hafter, htime, fun m hm hbefore hsame => ?_, nextWindowStart_eq hne⟩
    omega

end Sys2Proof.Machine

/-! PROOFS. CLOCK (R2 to R5): its span, its step class, and the work of each class. -/

namespace Sys2Proof.Machine

/-! ### CLOCK: its span and step class (R2, R3) -/

theorem exec_clock (d : Dest) (b : Body Word32) (s : State) :
    exec (.clock d b) s = .next (message (.clock d b) d b clockWork s) := rfl

theorem clockAccepts_iff (v : Nat) : clockAccepts v = true ↔ 315360000 ≤ v ∧ v ≤ 4000000000 := by
  rw [clockAccepts, Bool.and_eq_true, decide_eq_true_iff, decide_eq_true_iff]; rfl

/-- A CLOCK that arrives is answered by its owner (R171). -/
theorem exec_clock_fields (d : Dest) (w : Word32) {s : State} (h : s.running = true)
    (k : s.line.state.takes = true) :
    exec (.clock d (.fields w)) s
      = .next ((clockWork w (arrive (.clock d (.fields w)) d s)).1.answering d
          (replyOf 0x03 (clockWork w (arrive (.clock d (.fields w)) d s)).2)) := by
  rw [exec_clock, message_fields h k]; rfl

theorem clockWork_refused {w : Word32} (h : w.toNat < 315360000 ∨ 4000000000 < w.toNat) (u : State) :
    clockWork w u = (u, .refuse .range []) := by
  have : clockAccepts w.toNat = false := by
    rw [Bool.eq_false_iff, Ne, clockAccepts_iff]; omega
  simp [clockWork, this, refuse]

theorem clockWork_accepted {w : Word32} (h1 : 315360000 ≤ w.toNat) (h2 : w.toNat ≤ 4000000000) (u : State) :
    clockWork w u
      = (clockStep w.toNat u, .accept (.clock (stepClass u.clockSet u.present w.toNat) u.present)) :=
  if_pos ((clockAccepts_iff _).mpr ⟨h1, h2⟩)

theorem stepClass_unset (old v : Nat) : stepClass false old v = .first := rfl

theorem stepClass_same (v : Nat) : stepClass true v v = .none := by simp [stepClass]

theorem stepClass_forward {old v : Nat} (h : old < v) : stepClass true old v = .forward := by
  simp [stepClass, h, h.ne']

theorem stepClass_backward {old v : Nat} (h : v < old) : stepClass true old v = .backward := by
  simp [stepClass, h.ne, Nat.not_lt.mpr h.le]

/-- The class decides which way the present moves. -/
theorem stepClass_spec (old v : Nat) (c : Bool) :
    (stepClass c old v = .none → c = true ∧ v = old) ∧ (stepClass c old v = .forward → old < v)
      ∧ (stepClass c old v = .backward → v < old) := by
  cases c with
  | false => simp [stepClass_unset]
  | true =>
    rcases Nat.lt_trichotomy old v with h | rfl | h
    · simp [stepClass_forward h, h]
    · simp [stepClass_same]
    · simp [stepClass_backward h, h]

theorem isLarge_forward {old v : Nat} (h : old < v) : isLarge old v = true ↔ old + 300 < v := by
  rw [isLarge, decide_eq_true_iff, stepSize, Config.largeStep]; omega

theorem isLarge_backward {old v : Nat} (h : v < old) : isLarge old v = true ↔ v + 300 < old := by
  rw [isLarge, decide_eq_true_iff, stepSize, Config.largeStep]; omega

/-! ### What an arrival leaves alone -/

/-- An arrival touches the stream and the Line Interface alone of the parts no inner work touches (R171). -/
theorem arrive_present_clock_settings (i : Instr) (d : Dest) (s : State) :
    (arrive i d s).present = s.present ∧ (arrive i d s).clockSet = s.clockSet ∧ (arrive i d s).settings = s.settings := by
  have h := arrive_works i d s
  refine ⟨h.present.trans ?_, h.clockSet.trans ?_, h.settings.trans ?_⟩ <;> (unfold arrived; split <;> rfl)

/-! ### The work of each class (R4, R5, R136, R146) -/

/-- A large step derives and plans afresh (R5). -/
def replanIf (large : Prop) [Decidable large] (s : State) : State := if large then settle (deriveAndPass s) else s

theorem replanIf_works (large : Prop) [Decidable large] (s : State) : Works s (replanIf large s) := by
  unfold replanIf; split
  · exact (deriveAndPass_works s).trans (settle_works _)
  · exact .refl s

/-- The state a FIRST step derives and plans from: the pending entries refreshed, the scans begun (R39, R47). -/
def firstSet (v : Nat) (s : State) : State :=
  { s.setClock v with guide := { s.guide with
      entries := s.guide.entries.map (fun e => { e with refreshedAt := some (e.refreshedAt.getD v) })
      nextScan := some (v + 900) } }

theorem firstStep_eq (v : Nat) (s : State) : firstStep v s = settle (deriveAndPass (firstSet v s)) := by
  have h : (fun e : GuideEntry => if e.refreshedAt = none then { e with refreshedAt := some v } else e)
      = fun e => { e with refreshedAt := some (e.refreshedAt.getD v) } := by
    funext e
    cases e with
    | mk slot channel eventId start duration series episode status hasRun refreshedAt =>
      cases refreshedAt <;> rfl
  simp only [firstStep, firstSet, State.setClock_guide, h, Config.scanInterval]

/-- The crossed expiries taken, the present moved (R4, R135). -/
def crossing (v : Nat) (s : State) : State :=
  settle { s.setClock v with agenda := crossedDues s.present v (s.setClock v) }

theorem forwardStep_eq {v : Nat} {s : State} (h : s.present < v) :
    forwardStep v s = replanIf (s.present + 300 < v) (crossing v s) := by
  simp only [forwardStep, crossing, replanIf, isLarge_forward h]

/-- The timers a BACKWARD step moves, the present moved (R136, R146). -/
def steppedBack (v : Nat) (s : State) : State :=
  { s.setClock v with
    plan := { s.plan with bookings := s.plan.bookings.map (fun b => { b with
      confirmExpiry := b.confirmExpiry.map (fun x => min x (v + s.settings.confirmTimeout)) }) }
    host := { s.host with wakeTimer := s.host.wakeTimer.map (fun x => min x (v + s.settings.wakeTimeout)) } }

theorem backwardStep_eq {v : Nat} {s : State} (h : v < s.present) :
    backwardStep v s = replanIf (v + 300 < s.present) (steppedBack v s) := by
  simp only [backwardStep, replanIf, isLarge_backward h]; rfl

section
variable {v : Nat} {s : State}

theorem clockStep_none (h : stepClass s.clockSet s.present v = .none) : clockStep v s = s := by
  simp only [clockStep, h]

theorem clockStep_first (h : stepClass s.clockSet s.present v = .first) :
    clockStep v s = settle (deriveAndPass (firstSet v s)) := by
  simp only [clockStep, h, firstStep_eq]

theorem clockStep_forward (h : stepClass s.clockSet s.present v = .forward) :
    clockStep v s = replanIf (s.present + 300 < v) (crossing v s) := by
  simp only [clockStep, h, forwardStep_eq ((stepClass_spec _ _ _).2.1 h)]

theorem clockStep_backward (h : stepClass s.clockSet s.present v = .backward) :
    clockStep v s = replanIf (v + 300 < s.present) (steppedBack v s) := by
  simp only [clockStep, h, backwardStep_eq ((stepClass_spec _ _ _).2.2 h)]

end

/-- Of the parts no inner work touches, an accepted CLOCK writes the present and the clock-set flag (R2). -/
theorem clockStep_standing (v : Nat) (s : State) :
    (clockStep v s).standing = { s.standing with present := v, clockSet := true } := by
  cases h : stepClass s.clockSet s.present v with
  | none =>
    obtain ⟨hset, rfl⟩ := (stepClass_spec _ _ _).1 h
    rw [clockStep_none h, ← hset]; rfl
  | first =>
    rw [clockStep_first h]
    exact ((deriveAndPass_works _).trans (settle_works _)).standing
  | forward =>
    rw [clockStep_forward h]
    exact ((settle_works _).trans (replanIf_works _ _)).standing
  | backward =>
    rw [clockStep_backward h]
    exact (replanIf_works _ _).standing

/-! ### The expiries a FORWARD step crosses (R4, R135) -/

section Crossed

variable (old v : Nat)

/-- An instant held after the old present and at or before the new one. -/
def Crosses (t : Option Nat) : Prop := ∃ n, t = some n ∧ old < n ∧ n ≤ v

theorem mem_crossed {t : Option Nat} {d : Due} {p : Nat × Due} :
    p ∈ crossed old v t d ↔ p.2 = d ∧ t = some p.1 ∧ old < p.1 ∧ p.1 ≤ v := by
  obtain ⟨n, e⟩ := p
  cases t with
  | none => simp [crossed]
  | some x =>
    by_cases h : old < x ∧ x ≤ v
    · simp only [crossed, if_pos h, List.mem_singleton, Prod.mk.injEq, Option.some.injEq]
      constructor
      · rintro ⟨rfl, rfl⟩; exact ⟨rfl, rfl, h⟩
      · rintro ⟨rfl, rfl, _⟩; exact ⟨rfl, rfl⟩
    · simp only [crossed, if_neg h, List.not_mem_nil, Option.some.injEq, false_iff]
      rintro ⟨_, rfl, h'⟩; exact h h'

theorem mem_crossed_snd {t : Option Nat} {d e : Due} :
    e ∈ (crossed old v t d).map Prod.snd ↔ e = d ∧ Crosses old v t := by
  simp only [List.mem_map, mem_crossed, Crosses]
  constructor
  · rintro ⟨⟨n, _⟩, ⟨rfl, h⟩, rfl⟩; exact ⟨rfl, n, h⟩
  · rintro ⟨rfl, n, h⟩; exact ⟨⟨n, e⟩, ⟨rfl, h⟩, rfl⟩

theorem mem_crossedOf {b : Booking} {e : Due} :
    e ∈ crossedOf old v b ↔
      (e = .windowStart b.number ∧ Crosses old v b.windowExpiry) ∨ (e = .lateLimit b.number ∧ Crosses old v b.lateExpiry)
      ∨ (e = .takeDeadline b.number ∧ Crosses old v b.takeExpiry)
      ∨ (e = .confirmTimer b.number ∧ Crosses old v b.confirmExpiry)
      ∨ (e = .provisionalEnd b.number ∧ Crosses old v b.provExpiry) := by
  rw [crossedOf, ((sortBy_perm _ _).map Prod.snd).mem_iff]
  simp only [List.map_append, List.mem_append, mem_crossed_snd, or_assoc]

theorem mem_crossedWarning {s : State} {t : TunerId} {e : Due} :
    e ∈ (crossedWarning old v s t).map Prod.snd ↔
      e = .warning t ∧ ∃ h, (s.tuner t).hold = some h ∧ Crosses old v h.warnExpiry := by
  unfold crossedWarning
  cases (s.tuner t).hold with
  | none => simp
  | some h => simp [mem_crossed_snd]

/-- Exactly the expiries crossed are among those the step takes. -/
theorem mem_crossedDues {s : State} {e : Due} :
    e ∈ crossedDues old v s ↔
      (∃ t, e = .warning t ∧ ∃ h, (s.tuner t).hold = some h ∧ Crosses old v h.warnExpiry)
      ∨ (e = .wake ∧ Crosses old v s.host.wakeExpiry) ∨ (e = .wakeTimer ∧ Crosses old v s.host.wakeTimer)
      ∨ (∃ b ∈ s.plan.bookings, e ∈ crossedOf old v b) ∨ (e = .scan ∧ Crosses old v s.guide.nextScan) := by
  have htuner : ∀ p : TunerId → Prop, (∃ t, p t) ↔ p .a ∨ p .b := fun p =>
    ⟨fun ⟨t, h⟩ => by cases t <;> simp [h], fun h => h.elim (⟨_, ·⟩) (⟨_, ·⟩)⟩
  have hbookings : e ∈ (s.plan.bookings.map (crossedOf old v)).flatten
      ↔ ∃ b ∈ s.plan.bookings, e ∈ crossedOf old v b := by
    simp only [List.mem_flatten, List.mem_map, exists_exists_and_eq_and]
  simp only [crossedDues, List.map_append, List.mem_append, mem_crossed_snd, mem_crossedWarning, htuner, hbookings,
    or_assoc]

theorem mem_crossedDues_windowStart {s : State} {n : Nat} : .windowStart n ∈ crossedDues old v s ↔
    ∃ b ∈ s.plan.bookings, b.number = n ∧ Crosses old v b.windowExpiry := by
  simp [mem_crossedDues, mem_crossedOf, eq_comm]

theorem mem_crossedDues_lateLimit {s : State} {n : Nat} : .lateLimit n ∈ crossedDues old v s ↔
    ∃ b ∈ s.plan.bookings, b.number = n ∧ Crosses old v b.lateExpiry := by
  simp [mem_crossedDues, mem_crossedOf, eq_comm]

theorem mem_crossedDues_takeDeadline {s : State} {n : Nat} : .takeDeadline n ∈ crossedDues old v s ↔
    ∃ b ∈ s.plan.bookings, b.number = n ∧ Crosses old v b.takeExpiry := by
  simp [mem_crossedDues, mem_crossedOf, eq_comm]

theorem mem_crossedDues_confirmTimer {s : State} {n : Nat} : .confirmTimer n ∈ crossedDues old v s ↔
    ∃ b ∈ s.plan.bookings, b.number = n ∧ Crosses old v b.confirmExpiry := by
  simp [mem_crossedDues, mem_crossedOf, eq_comm]

theorem mem_crossedDues_provisionalEnd {s : State} {n : Nat} : .provisionalEnd n ∈ crossedDues old v s ↔
    ∃ b ∈ s.plan.bookings, b.number = n ∧ Crosses old v b.provExpiry := by
  simp [mem_crossedDues, mem_crossedOf, eq_comm]

theorem mem_crossedDues_wake {s : State} : .wake ∈ crossedDues old v s ↔ Crosses old v s.host.wakeExpiry := by
  simp [mem_crossedDues, mem_crossedOf]

theorem mem_crossedDues_wakeTimer {s : State} : .wakeTimer ∈ crossedDues old v s ↔ Crosses old v s.host.wakeTimer := by
  simp [mem_crossedDues, mem_crossedOf]

theorem mem_crossedDues_warning {s : State} {t : TunerId} : .warning t ∈ crossedDues old v s ↔
    ∃ h, (s.tuner t).hold = some h ∧ Crosses old v h.warnExpiry := by
  simp [mem_crossedDues, mem_crossedOf]

theorem mem_crossedDues_scan {s : State} : .scan ∈ crossedDues old v s ↔ Crosses old v s.guide.nextScan := by
  simp [mem_crossedDues, mem_crossedOf]

end Crossed

/-! ### An accepted CLOCK -/

/-- An accepted CLOCK answers its step class and the old present, after the work of its class. -/
theorem exec_clock_accepted (d : Dest) {w : Word32} {s : State} (hr : s.running = true)
    (hk : s.line.state.takes = true) (h1 : 315360000 ≤ w.toNat) (h2 : w.toNat ≤ 4000000000) :
    exec (.clock d (.fields w)) s
      = .next ((clockStep w.toNat (arrive (.clock d (.fields w)) d s)).answering d
          (.accepted (.clock (stepClass s.clockSet s.present w.toNat) s.present))) := by
  obtain ⟨hp, hc, -⟩ := arrive_present_clock_settings (.clock d (.fields w)) d s
  rw [exec_clock_fields d w hr hk, clockWork_accepted h1 h2, hp, hc]
  rfl

/-- Settles O12: the refusal, the work of each class, and what a FORWARD step crosses. -/
theorem clockIsAcceptedInItsSpan : Obligations.ClockIsAcceptedInItsSpan := by
  refine ⟨fun d w s hr hk => ⟨fun hout => ?_, fun h1 h2 => ?_⟩, fun old v s => ?_⟩
  · rw [exec_clock_fields d w hr hk, clockWork_refused hout]; rfl
  · obtain ⟨hp, hc, hs⟩ := arrive_present_clock_settings (.clock d (.fields w)) d s
    refine ⟨_, stepClass s.clockSet s.present w.toNat, exec_clock_accepted d hr hk h1 h2, clockStep_standing _ _,
      fun h => ?_, fun h e => ?_, fun h e => ?_, fun h e => ?_, ?_⟩
    · rw [h]; rfl
    · rw [h, e]; exact stepClass_same _
    · rw [h]; exact stepClass_forward e
    · rw [h]; exact stepClass_backward e
    · rw [← hp, ← hc, ← hs]
      exact ⟨clockStep_none, clockStep_first, fun h => ⟨_, rfl, clockStep_forward h⟩,
        fun h => ⟨_, rfl, clockStep_backward h⟩⟩
  · exact ⟨fun n => mem_crossedDues_windowStart old v, fun n => mem_crossedDues_lateLimit old v,
      fun n => mem_crossedDues_takeDeadline old v, fun n => mem_crossedDues_confirmTimer old v,
      fun n => mem_crossedDues_provisionalEnd old v, mem_crossedDues_wake old v, mem_crossedDues_wakeTimer old v,
      fun x => mem_crossedDues_warning old v, mem_crossedDues_scan old v⟩

theorem setClock_of_set {v : Nat} {u : State} (h : u.clockSet = true) : u.setClock v = { u with present := v } := by
  unfold State.setClock; rw [h]

/-- What a step of at most 300 s that crosses no expiry leaves of a state with nothing due at once. -/
theorem clockStep_forward_small {v : Nat} {u : State} (hset : u.clockSet = true) (ha : u.agenda = [])
    (hlt : u.present < v) (hsmall : v ≤ u.present + 300) (hnone : crossedDues u.present v u = []) :
    clockStep v u = { u with present := v } := by
  have hmoved : crossing v u = { u with present := v } := by
    have hdues : crossedDues u.present v (u.setClock v) = [] := hnone
    have hidle : { u with present := v, agenda := [] } = { u with present := v } := by rw [ha]
    unfold crossing
    rw [hdues, setClock_of_set hset, hidle, settle_of_agenda (s := { u with present := v }) ha]
  rw [clockStep_forward (hset ▸ stepClass_forward hlt), replanIf, if_neg (Nat.not_lt.mpr hsmall), hmoved]

theorem clockStep_backward_small {v : Nat} {u : State} (hset : u.clockSet = true) (hlt : v < u.present)
    (hsmall : u.present ≤ v + 300) : clockStep v u = steppedBack v u := by
  rw [clockStep_backward (hset ▸ stepClass_backward hlt), replanIf, if_neg (Nat.not_lt.mpr hsmall)]

/-- A FIRST step's scan instant survives the derivation and the pass: a scan they carry out sets the same one (R47). -/
theorem clockStep_first_nextScan {v : Nat} {u : State} (h : u.clockSet = false) :
    (clockStep v u).guide.nextScan = some (v + 900) := by
  rw [clockStep_first (by rw [h]; rfl)]
  have hworks := (deriveAndPass_works (firstSet v u)).trans (settle_works _)
  exact (hworks.scan (v + 900) rfl (show v < v + 900 by omega)).elim id id

/-- Settles O13, by the step class. -/
theorem smallClockStepsReplanNothing : Obligations.SmallClockStepsReplanNothing := by
  intro d w s hfree h1 h2 c u t
  obtain ⟨hp, hc, hs⟩ := arrive_present_clock_settings c d s
  have ha : u.agenda = [] := arrive_agenda c d hfree.agenda
  have hexec := exec_clock_accepted d hfree.running hfree.takes h1 h2
  refine ⟨fun hset he => ?_, fun hset hlt hsmall hnone => ?_, fun hset hlt hsmall => ?_, fun hset => ?_⟩
  · have hclass : stepClass s.clockSet s.present w.toNat = .none := by rw [hset, he]; exact stepClass_same _
    rw [hexec, hclass, clockStep_none (by rw [hp, hc, hclass])]
  · have hclass : stepClass s.clockSet s.present w.toNat = .forward := by rw [hset]; exact stepClass_forward hlt
    rw [← hp] at hlt hsmall hnone
    rw [hexec, hclass, clockStep_forward_small (hc.trans hset) ha hlt hsmall hnone]
  · have hclass : stepClass s.clockSet s.present w.toNat = .backward := by rw [hset]; exact stepClass_backward hlt
    rw [← hp] at hlt hsmall
    rw [hexec, hclass, clockStep_backward_small (hc.trans hset) hlt hsmall, steppedBack, setClock_of_set (hc.trans hset), hs]
  · have hclass : stepClass s.clockSet s.present w.toNat = .first := by rw [hset]; rfl
    exact ⟨_, hclass ▸ hexec, clockStep_first_nextScan (hc.trans hset)⟩

end Sys2Proof.Machine

/-! PROOFS. The bounds of the tables, settings and images (`InBounds`) and of the booking numbers (`NumbersOk`): the lists in
order, the settings by id, and the relation `Keeps` that every step satisfies. -/

namespace Sys2Proof.Machine

/-! ### Numbers in order -/

theorem rising_sublist {ns ms : List Nat} (h : rising ms) (k : ns.Sublist ms) : rising ns := h.sublist k

/-- A new number put in its place keeps the order. -/
theorem rising_insertBy {α : Type} (f : α → Nat) (x : α) {ys : List α} (h : rising (ys.map f)) (hx : f x ∉ ys.map f) :
    rising ((insertBy (fun a b => decide (f a < f b)) x ys).map f) := by
  induction ys with
  | nil => exact List.pairwise_singleton _ _
  | cons y ys ih =>
    obtain ⟨hy, hys⟩ := List.pairwise_cons.mp h
    obtain ⟨hne, hx'⟩ := not_or.mp (List.mem_cons.not.mp hx)
    by_cases hlt : f x < f y
    · rw [insertBy, if_pos (decide_eq_true hlt)]
      refine List.pairwise_cons.mpr ⟨fun n hn => ?_, h⟩
      rcases List.mem_cons.mp hn with rfl | hn
      · exact hlt
      · exact hlt.trans (hy n hn)
    · rw [insertBy, if_neg (by simpa using hlt)]
      refine List.pairwise_cons.mpr ⟨fun n hn => ?_, ih hys hx'⟩
      rcases List.mem_cons.mp (((insertBy_perm _ x ys).map f).mem_iff.mp hn) with rfl | hn
      · exact lt_of_le_of_ne (Nat.not_lt.mp hlt) (Ne.symm hne)
      · exact hy n hn

theorem mem_map_insertBy {α : Type} (f : α → Nat) (before : α → α → Bool) (x : α) (ys : List α) (n : Nat) :
    n ∈ (insertBy before x ys).map f ↔ n = f x ∨ n ∈ ys.map f :=
  (((insertBy_perm before x ys).map f).mem_iff).trans List.mem_cons

/-- The number found free is within the search and is not taken. -/
theorem lowestFree_spec {taken : List Nat} {fuel n k : Nat} (h : lowestFree taken fuel n = some k) :
    n ≤ k ∧ k < n + fuel ∧ k ∉ taken := by
  induction fuel generalizing n with
  | zero => cases h
  | succ fuel ih =>
    by_cases hn : taken.contains n = true
    · rw [lowestFree, if_pos hn] at h
      obtain ⟨hlo, hhi, hfree⟩ := ih h
      exact ⟨by omega, by omega, hfree⟩
    · rw [lowestFree, if_neg hn] at h
      cases h
      exact ⟨Nat.le_refl _, by omega, by simpa using hn⟩

/-- Elements replaced by others of the same number leave the numbers as they were. -/
theorem map_map_key {α : Type} (f : α → Nat) (g : α → α) (h : ∀ x, f (g x) = f x) (xs : List α) :
    (xs.map g).map f = xs.map f := by
  rw [List.map_map]; exact List.map_congr_left (fun x _ => h x)

/-! ### Settings (section 10.6) -/

theorem inRange_iff (set : Settings) : set.inRange = true ↔ ∀ i < 19, settingOk set (i + 1) = true := by
  simp [Settings.inRange]

/-- A change of one setting leaves the others. -/
theorem get_put_other (set : Settings) {id j : Nat} (v : List Int) (h : j ≠ id) :
    (set.put id v).get j = set.get j := by
  unfold Settings.put
  split
  case h_20 => rfl
  all_goals
    unfold Settings.get
    split
    all_goals first | rfl | exact absurd rfl h

/-- Every range is not empty, and no setting but the local offset takes a negative entry. -/
theorem settingRow_range {id : Nat} {r : SettingRow} (h : settingRow id = some r) :
    r.lo ≤ r.hi ∧ (id ≠ 11 → 0 ≤ r.lo) := by
  unfold settingRow at h
  split at h <;> cases h <;> exact ⟨by decide, by decide⟩

theorem admits_iff (r : SettingRow) (v : List Int) : r.admits v = true ↔ ∀ x ∈ v, r.lo ≤ x ∧ x ≤ r.hi := by
  simp [SettingRow.admits]

/-- A value accepted has the setting's entries, each in its range (R173). -/
theorem acceptedValue_spec {r : SettingRow} {v w : List Int} (hr : r.lo ≤ r.hi) (hv : v.length = r.entries)
    (h : acceptedValue r v = some w) : w.length = r.entries ∧ r.admits w = true := by
  unfold acceptedValue at h
  split at h
  · split at h
    · cases h; exact ⟨hv, ‹_›⟩
    · cases h
  · cases h
    refine ⟨by rw [SettingRow.clamp, List.length_map, hv], (admits_iff _ _).mpr fun x hx => ?_⟩
    obtain ⟨y, -, rfl⟩ := List.mem_map.mp hx
    exact ⟨le_max_left _ _, max_le hr (min_le_right _ _)⟩

theorem decode_length (r : SettingRow) (value : List Byte) : (r.decode value).length = r.entries := by
  simp [SettingRow.decode]

theorem singleton_firstEntry {v : List Int} (h : v.length = 1) : [firstEntry v] = v := by
  obtain ⟨x, rfl⟩ := List.length_eq_one_iff.mp h; rfl

theorem singleton_toNat {v : List Int} (h : v.length = 1) (k : ∀ x ∈ v, 0 ≤ x) : [((firstEntry v).toNat : Int)] = v := by
  obtain ⟨x, rfl⟩ := List.length_eq_one_iff.mp h
  exact congrArg (fun y => [y]) (Int.toNat_of_nonneg (k x List.mem_cons_self))

theorem map_ofNat_toNat {v : List Int} (k : ∀ x ∈ v, 0 ≤ x) : (v.map Int.toNat).map Int.ofNat = v := by
  rw [List.map_map]
  exact (List.map_congr_left fun x hx => Int.toNat_of_nonneg (k x hx)).trans (List.map_id' v)

theorem singleton_flag {v : List Int} (h : v.length = 1) (k : ∀ x ∈ v, 0 ≤ x ∧ x ≤ 1) :
    [if (firstEntry v == 1) = true then (1 : Int) else 0] = v := by
  obtain ⟨x, rfl⟩ := List.length_eq_one_iff.mp h
  obtain ⟨h0, h1⟩ := k x List.mem_cons_self
  have hx : x = 0 ∨ x = 1 := by omega
  rcases hx with rfl | rfl <;> rfl

/-- A value in range is read back as it was written (section 10.6). -/
theorem get_put_same (set : Settings) {id : Nat} {r : SettingRow} {v : List Int} (hr : settingRow id = some r)
    (hl : v.length = r.entries) (hv : r.admits v = true) : (set.put id v).get id = v := by
  rw [admits_iff] at hv
  have hpos : id ≠ 11 → ∀ x ∈ v, 0 ≤ x := fun h x hx => ((settingRow_range hr).2 h).trans (hv x hx).1
  unfold settingRow at hr
  split at hr
  case h_11 => cases hr; exact singleton_firstEntry hl
  case h_15 => exact map_ofNat_toNat (hpos (by decide))
  case h_16 => exact map_ofNat_toNat (hpos (by decide))
  case h_17 => exact map_ofNat_toNat (hpos (by decide))
  case h_19 => cases hr; exact singleton_flag hl hv
  case h_20 => cases hr
  all_goals cases hr; exact singleton_toNat hl (hpos (by decide))

theorem put_inRange {set : Settings} {id : Nat} {r : SettingRow} {v : List Int} (h : set.inRange = true)
    (hr : settingRow id = some r) (hl : v.length = r.entries) (hv : r.admits v = true) :
    (set.put id v).inRange = true := by
  rw [inRange_iff] at h ⊢
  intro i hi
  by_cases he : i + 1 = id
  · simp [settingOk, he, hr, get_put_same set hr hl hv, hl, hv]
  · have := h i hi
    unfold settingOk at this ⊢
    rwa [get_put_other set v he]

/-! ### What every step keeps -/

/-- `t` is in bounds, and its booking numbers in order, where `s` is. -/
structure Keeps (s t : State) : Prop where
  bounds : InBounds s → InBounds t
  numbers : NumbersOk s → NumbersOk t

theorem Keeps.refl (s : State) : Keeps s s := ⟨id, id⟩

theorem Keeps.trans {s t u : State} (h : Keeps s t) (k : Keeps t u) : Keeps s u :=
  ⟨k.bounds ∘ h.bounds, k.numbers ∘ h.numbers⟩

/-- Two states that agree on all that `InBounds` and `NumbersOk` speak of. -/
structure SameTables (s t : State) : Prop where
  present : t.present = s.present := by rfl
  settings : t.settings = s.settings := by rfl
  services : t.services = s.services := by rfl
  requests : t.requests = s.requests := by rfl
  entries : t.guide.entries = s.guide.entries := by rfl
  flash : t.image.flash = s.image.flash := by rfl
  capture : t.image.capture = s.image.capture := by rfl
  dropAddress : t.line.dropAddress = s.line.dropAddress := by rfl
  bookings : t.plan.bookings = s.plan.bookings := by rfl
  counter : t.plan.counter = s.plan.counter := by rfl

theorem SameTables.keeps {s t : State} (h : SameTables s t) : Keeps s t where
  bounds k := ⟨h.present ▸ k.present, h.settings ▸ k.settings, h.services ▸ k.services, h.requests ▸ k.requests,
    h.entries ▸ k.entries, h.flash ▸ k.flash, h.capture ▸ k.capture, h.dropAddress ▸ k.dropAddress⟩
  numbers k := ⟨h.bookings ▸ k.room, h.bookings ▸ k.distinct, h.bookings ▸ k.numbers, h.counter ▸ k.counter⟩

/-- The part's own work keeps the bounds and the numbers. -/
theorem Works.keeps {s t : State} (h : Works s t) : Keeps s t where
  bounds k := {
    present := h.present ▸ k.present
    settings := h.settings ▸ k.settings
    services := h.services ▸ k.services
    requests := ⟨rising_sublist k.requests.1 h.requests, fun n hn => k.requests.2 n (h.requests.subset hn)⟩
    entries := ⟨rising_sublist k.entries.1 h.slots, fun n hn => k.entries.2 n (h.slots.subset hn)⟩
    flash := h.flash ▸ k.flash
    capture := by
      rcases h.capture with hc | hc <;> rw [hc]
      · exact k.capture
      · trivial
    dropAddress := h.line ▸ k.dropAddress }
  numbers := h.numbers

theorem Keeps.works {s t u : State} (h : Keeps s t) (k : Works t u) : Keeps s u := h.trans k.keeps

theorem changing_keeps {s : State} {f : State → State} (h : Keeps s (f s)) : Keeps s (s.changing f) :=
  h.works (noteChange_works _ _)

theorem settle_deriveAndPass_works (s : State) : Works s (settle (deriveAndPass s)) :=
  (deriveAndPass_works s).trans (settle_works _)

theorem settle_passIfSet_works (s : State) : Works s (settle (passIfSet s)) :=
  (passIfSet_works s).trans (settle_works _)

/-! ### One table changed -/

theorem settings_keeps (s : State) (set : Settings) (h : s.settings.inRange = true → set.inRange = true) :
    Keeps s { s with settings := set } :=
  ⟨fun k => { k with settings := h k.settings }, fun k => ⟨k.1, k.2, k.3, k.4⟩⟩

theorem services_keeps (s : State) (vs : List Service) (h : servicesOk s.services → servicesOk vs) :
    Keeps s { s with services := vs } :=
  ⟨fun k => { k with services := h k.services }, fun k => ⟨k.1, k.2, k.3, k.4⟩⟩

theorem requests_keeps (s : State) (rs : List Request) (h : requestsOk s.requests → requestsOk rs) :
    Keeps s { s with requests := rs } :=
  ⟨fun k => { k with requests := h k.requests }, fun k => ⟨k.1, k.2, k.3, k.4⟩⟩

theorem withEntries_keeps (s : State) (es : List GuideEntry) (h : entriesOk s.guide.entries → entriesOk es) :
    Keeps s (s.withEntries es) :=
  ⟨fun k => { k with entries := h k.entries }, fun k => ⟨k.1, k.2, k.3, k.4⟩⟩

theorem present_keeps (s : State) (v : Nat) (c : Bool) (h : v ≤ Config.maxTime) :
    Keeps s { s with present := v, clockSet := c } :=
  ⟨fun k => { k with present := h }, fun k => ⟨k.1, k.2, k.3, k.4⟩⟩

theorem insertService_keeps {s : State} {v : Service} (hnew : s.service? v.channel = none)
    (hroom : s.services.length < Config.maxServices) : Keeps s (s.insertService v) := by
  have hfresh : v.channel ∉ s.services.map Service.channel := by
    simpa [State.service?] using hnew
  refine services_keeps s _ fun k => ⟨rising_insertBy Service.channel v k.1 hfresh, ?_⟩
  rw [(insertBy_perm _ _ _).length_eq]
  exact hroom

theorem updateService_keeps (s : State) (v : Service) : Keeps s (s.updateService v) := by
  refine services_keeps s _ fun k => ⟨?_, by rw [List.length_map]; exact k.2⟩
  rw [map_map_key Service.channel]
  · exact k.1
  · intro w
    split
    · rename_i h; exact (beq_iff_eq.mp h).symm
    · rfl

theorem removeService_keeps (s : State) (c : Nat) : Keeps s (s.removeService c) :=
  services_keeps s _ fun k =>
    ⟨rising_sublist k.1 (List.filter_sublist.map _), (List.length_filter_le _ _).trans k.2⟩

theorem insertRequest_keeps {s : State} {r : Request} (h : freeRequest s = some r.number) :
    Keeps s (s.insertRequest r) := by
  obtain ⟨hlo, hhi, hfresh⟩ := lowestFree_spec h
  refine requests_keeps s _ fun k => ⟨rising_insertBy Request.number r k.1 hfresh, fun n hn => ?_⟩
  rcases (mem_map_insertBy _ _ _ _ _).mp hn with rfl | hn
  · exact ⟨hlo, by omega⟩
  · exact k.2 n hn

/-- A request replaced by one of its own number. -/
theorem replaceRequest_keeps (s : State) (r : Request) : Keeps s (s.mapRequest r.number (fun _ => r)) :=
  requests_keeps s _ fun k => by
    unfold requestsOk
    rw [map_map_key Request.number]
    · exact k
    · intro q
      split
      · rename_i h; exact (beq_iff_eq.mp h).symm
      · rfl

theorem insertEntry_keeps (e : GuidePutEntry) (s : State) : Keeps s (insertEntry e s) := by
  unfold insertEntry
  split
  · rename_i n hn
    obtain ⟨-, hhi, hfresh⟩ := lowestFree_spec hn
    refine (withEntries_keeps s _ fun k => ⟨rising_insertBy GuideEntry.slot _ k.1 hfresh, fun m hm => ?_⟩).trans
      (SameTables.keeps {})
    rcases (mem_map_insertBy _ _ _ _ _).mp hm with hm | hm
    · rw [hm]; exact (by omega : n < Config.maxEntries)
    · exact k.2 m hm
  · exact .refl s

end Sys2Proof.Machine

/-! PROOFS. Every owner's work keeps the bounds and the booking numbers, family by family in the order of the model's files. -/

namespace Sys2Proof.Machine

/-! ### Tests that refuse -/

section
variable {s : State} {c : Prop} [Decidable c] {r : RefuseReason} {w : State × Answer}

/-- A test that refuses, before work that keeps. -/
theorem Keeps.orRefuse (h : Keeps s w.1) : Keeps s (if c then refuse s r else w).1 := by
  split
  · exact .refl s
  · exact h

/-- A test that refuses, before work of the part's own. -/
theorem Works.orRefuse (h : Works s w.1) : Works s (if c then refuse s r else w).1 := by
  split
  · exact .refl s
  · exact h

end

/-! ### Starting and stopping (R167, R178, R186) -/

theorem dropOf_range (p : Straps) : 1 ≤ dropOf p ∧ dropOf p ≤ 14 := by
  have h := p.address.isLt
  unfold dropOf
  split <;> omega

theorem defaults_contentOk : contentOk StoredContent.defaults :=
  ⟨by decide, ⟨List.Pairwise.nil, Nat.zero_le _⟩, ⟨List.Pairwise.nil, fun _ h => absurd h List.not_mem_nil⟩⟩

theorem empty_numbersOk {s : State} (hb : s.plan.bookings = []) (hc : s.plan.counter = 1) : NumbersOk s where
  room := by rw [hb]; exact Nat.zero_le _
  distinct := by rw [hb]; exact List.nodup_nil
  numbers := by rw [hb]; exact fun _ h => absurd h List.not_mem_nil
  counter := by rw [hc]; exact ⟨Nat.le_refl _, by decide⟩

/-- A part that does not run is in bounds but for what flash holds, which stays. -/
theorem blank_keeps (s : State) (powered resetLow : Bool) : Keeps s (s.blank powered resetLow) where
  bounds k := {
    present := Nat.zero_le _
    settings := defaults_contentOk.1
    services := defaults_contentOk.2.1
    requests := defaults_contentOk.2.2
    entries := ⟨List.Pairwise.nil, fun _ h => absurd h List.not_mem_nil⟩
    flash := k.flash
    capture := trivial
    dropAddress := (by decide : 1 ≤ 14 ∧ 14 ≤ 14) }
  numbers _ := empty_numbersOk rfl rfl

theorem withContent_keeps (s : State) {c : StoredContent} (h : InBounds s → contentOk c) : Keeps s (s.withContent c) where
  bounds k := ⟨k.present, (h k).1, (h k).2.1, (h k).2.2, k.entries, k.flash, k.capture, k.dropAddress⟩
  numbers k := ⟨k.1, k.2, k.3, k.4⟩

theorem loadImage_keeps (s : State) : Keeps s s.loadImage := by
  unfold State.loadImage
  split
  · rename_i i hi
    refine (withContent_keeps s fun k => ?_).trans (SameTables.keeps {})
    have hflash := k.flash
    rw [hi] at hflash
    exact hflash
  · exact withContent_keeps s fun _ => defaults_contentOk

theorem sampleAll_works (s : State) : Works s s.sampleAll :=
  (((sample_works s _).trans (sample_works _ _)).trans (sample_works _ _)).trans (sample_works _ _)

theorem sampleStraps_keeps (s : State) (p : Straps) :
    Keeps s { s with line := ⟨dropOf p, rateOf p, .idle, none⟩ } :=
  ⟨fun k => { k with dropAddress := dropOf_range p }, fun k => ⟨k.1, k.2, k.3, k.4⟩⟩

theorem start_keeps (s : State) (p : Straps) : Keeps s (s.start p) :=
  (((blank_keeps s true false).trans (sampleStraps_keeps _ p)).trans (loadImage_keeps _)).works (sampleAll_works _)

theorem powerUp_keeps (p : Straps) (s : State) : Keeps s (powerUp p s) := by
  unfold powerUp
  split
  · exact blank_keeps s _ _
  · exact start_keeps s p

theorem resetPinWork_keeps (e : ResetPinEvent) (s : State) : Keeps s (resetPinWork e s) := by
  cases e with
  | low => exact blank_keeps s _ _
  | release p =>
    simp only [resetPinWork]
    split
    · split
      · exact start_keeps s p
      · exact blank_keeps s _ _
    · exact .refl s

theorem advance_keeps (s : State) : Keeps s (advance s) := by
  unfold advance
  split
  · exact present_keeps s _ s.clockSet (Nat.min_le_right _ _)
  · exact .refl s

/-! ### The line (R169 to R172) -/

theorem char_dropAddress (l : LineInterface) (c : LineChar) : (l.char c).dropAddress = l.dropAddress := by
  unfold LineInterface.char
  split
  · rfl
  · split
    · split <;> rfl
    · split <;> rfl

theorem chars_dropAddress (l : LineInterface) (cs : List LineChar) : (l.chars cs).dropAddress = l.dropAddress := by
  induction cs generalizing l with
  | nil => rfl
  | cons c cs ih => exact (ih (l.char c)).trans (char_dropAddress l c)

theorem lead_dropAddress (l : LineInterface) (cs : List LineChar) : (l.lead cs).dropAddress = l.dropAddress := by
  induction cs generalizing l with
  | nil => rfl
  | cons c cs ih =>
    refine (ih _).trans ?_
    simp only []
    split
    · rfl
    · exact char_dropAddress l c

theorem gap_dropAddress (l : LineInterface) : l.gap.dropAddress = l.dropAddress := by
  unfold LineInterface.gap; split <;> rfl

theorem sent_dropAddress (l : LineInterface) : l.sent.dropAddress = l.dropAddress := by
  unfold LineInterface.sent; split <;> rfl

theorem line_keeps (s : State) (l : LineInterface) (h : l.dropAddress = s.line.dropAddress) :
    Keeps s { s with line := l } := SameTables.keeps { dropAddress := h }

theorem onLine_keeps (s : State) {f : LineInterface → LineInterface} (h : (f s.line).dropAddress = s.line.dropAddress) :
    Keeps s (s.onLine f) := by
  unfold State.onLine
  split
  · exact line_keeps s _ h
  · exact .refl s

theorem arrived_sameTables (i : Instr) (d : Dest) (s : State) : SameTables s (arrived i d s) := by
  unfold arrived
  split <;> exact {}

theorem arrive_keeps (i : Instr) (d : Dest) (s : State) : Keeps s (arrive i d s) :=
  (arrived_sameTables i d s).keeps.works (arrive_works i d s)

theorem respond_keeps (kind : Byte) (d : Dest) (w : State × Answer) : Keeps w.1 (respond kind d w) := by
  cases d <;> exact SameTables.keeps {}

/-- A message keeps what its owner's work keeps. -/
theorem message_keeps {α : Type} {owner : α → State → State × Answer} (h : ∀ a u, Keeps u (owner a u).1)
    (i : Instr) (d : Dest) (b : Body α) (s : State) : Keeps s (message i d b owner s) := by
  unfold message
  split
  · cases b with
    | fields a => exact ((arrive_keeps i d s).trans (h a _)).trans (respond_keeps _ _ _)
    | badLength p => exact (arrive_keeps i d s).trans (respond_keeps _ _ (arrive i d s, .refuse .length []))
  · exact .refl s

/-! ### Settings, QUERY and RESET -/

theorem setSetting_keeps {id : Nat} {r : SettingRow} {v : List Int} (hr : settingRow id = some r)
    (hl : v.length = r.entries) (hv : r.admits v = true) (s : State) : Keeps s (setSetting id v s) := by
  unfold setSetting
  split
  · exact .refl s
  · exact (changing_keeps (settings_keeps s _ fun k => put_inRange k hr hl hv)).works (settingEffect_works _ _ _)

theorem paramSetWork_keeps (a : ParamSetArgs) (s : State) : Keeps s (paramSetWork a s).1 := by
  unfold paramSetWork
  refine Keeps.orRefuse ?_
  split
  · exact .refl s
  · rename_i r hr
    split
    · exact .refl s
    · rename_i v hv
      obtain ⟨hl, hadm⟩ := acceptedValue_spec (settingRow_range hr).1 (decode_length r _) hv
      exact setSetting_keeps hr hl hadm s

theorem paramGetWork_keeps (a : Byte) (s : State) : Keeps s (paramGetWork a s).1 := by
  unfold paramGetWork
  split <;> exact .refl s

theorem queryWork_keeps (d : Dest) (x : Unit) (s : State) : Keeps s (queryWork d x s).1 := by
  cases d with
  | own => exact SameTables.keeps {}
  | broadcast => exact .refl s

theorem resetStreamAndSave_keeps (s : State) : Keeps s (resetStreamAndSave s) :=
  ((SameTables.keeps {} : Keeps s (closeWithoutWork s)).works (stopSave_works .reset _)).trans (SameTables.keeps {})

theorem resetTables_keeps (s : State) : Keeps s (resetTables s) where
  bounds k := { k with
    entries := ⟨List.Pairwise.nil, fun _ h => absurd h List.not_mem_nil⟩
    requests := ⟨rising_sublist k.requests.1 (List.filter_sublist.map _),
      fun n hn => k.requests.2 n ((List.filter_sublist.map _).subset hn)⟩ }
  numbers _ := empty_numbersOk rfl rfl

theorem resetDefaults_keeps (s : State) : Keeps s (resetDefaults s) :=
  ((withContent_keeps s fun _ => defaults_contentOk).works (markChanged_works _)).trans (SameTables.keeps {})

theorem resetWork_keeps (defaults : Bool) (s : State) : Keeps s (resetWork defaults s) := by
  have h : Keeps s (resetOutbox (resetTables (resetStreamAndSave s))) :=
    ((resetStreamAndSave_keeps s).trans (resetTables_keeps _)).trans (SameTables.keeps {})
  cases defaults with
  | false => exact (h.works (sampleAll_works _)).works (settle_deriveAndPass_works _)
  | true =>
    exact ((h.trans (resetDefaults_keeps _)).works (sampleAll_works _)).works (settle_deriveAndPass_works _)

theorem resetAccepted_keeps (d : Dest) (b : Body Byte) (defaults : Bool) (s : State) :
    Keeps s (resetAccepted d b defaults s) := by
  unfold resetAccepted
  simp only []
  refine Keeps.trans (Keeps.trans (line_keeps s _ ?_) (resetWork_keeps defaults _)) (line_keeps _ _ ?_)
  · rfl
  · rfl

theorem resetMessage_keeps (d : Dest) (b : Body Byte) (s : State) : Keeps s (resetMessage d b s) := by
  unfold resetMessage
  split
  · split
    · exact resetAccepted_keeps d b _ s
    · exact .refl s
  · exact message_keeps (fun _ u => .refl u) _ d b s

/-! ### Bookings -/

theorem bookReadWork_keeps (w : Word16) (s : State) : Keeps s (bookReadWork w s).1 := .refl s

theorem settle_finishOne_works (e : Ending) (r : Option Reason) (b : Booking) (s : State) :
    Works s (settle (finishOne e r b s)) := (finishOne_works e r b s).trans (settle_works _)

theorem bookCancelWork_works (w : Word16) (s : State) : Works s (bookCancelWork w s).1 := by
  unfold bookCancelWork
  refine Works.orRefuse ?_
  split
  · exact .refl s
  · exact Works.orRefuse (settle_finishOne_works _ _ _ s)

theorem bookStopWork_works (w : Word16) (s : State) : Works s (bookStopWork w s).1 := by
  unfold bookStopWork
  refine Works.orRefuse ?_
  split
  · exact .refl s
  · split
    · exact settle_finishOne_works _ _ _ s
    · exact .refl s

theorem spaceWork_keeps (w : Word32) (s : State) : Keeps s (spaceWork w s).1 :=
  Keeps.works (SameTables.keeps {}) (spacePart_works _)

theorem holdBack_works (n : Nat) (s : State) : Works s (holdBack n s) :=
  (withdrawBegin_works s n).trans (mapBooking_works _ n _ (fun _ => rfl))

theorem holdOn_keeps (s : State) : Keeps s (holdOn s) := by
  have hheld := Works.foldl (fun u n => holdBack_works n u) ((s.inState .due).map Booking.number)
    { s with run := { s.run with hold := true } }
  exact ((Keeps.works (SameTables.keeps {}) hheld).works (finishGroup_works _ _ _)).works (settle_works _)

theorem holdOff_keeps (s : State) : Keeps s (holdOff s).state := by
  have htaken : Keeps s (takeLates { s with run := { s.run with hold := false } }).state :=
    Keeps.works (SameTables.keeps {}) (takeLates_works _)
  refine Keeps.works (htaken.works ?_) (settle_works _)
  split
  · exact .refl _
  · exact afterFinish_works _ _

theorem holdWork_keeps (b : Byte) (s : State) : Keeps s (holdWork b s).1 := by
  unfold holdWork
  split
  · exact .refl s
  · split
    · exact .refl s
    · split
      · exact holdOn_keeps s
      · exact holdOff_keeps s

theorem earlyEndAtConfirm_works (n : Nat) (s : State) : Works s (earlyEndAtConfirm n s) := by
  unfold earlyEndAtConfirm
  split
  · split
    · exact (earlyEnd_works n s).trans (settle_works _)
    · exact .refl s
  · exact .refl s

theorem confirmed_works (b : Booking) (s : State) : Works s (confirmed b s) := by
  refine Works.trans (Works.trans ?_ (settle_works _)) (earlyEndAtConfirm_works _ _)
  have hstarted := (mapBooking_works s b.number (startRecording s) (fun _ => rfl)).trans (setRecordings_works _
    ((s.mapBooking b.number (startRecording s)).run.recordings + 1))
  split
  · exact hstarted.trans (atOnce_works _ _ _)
  · exact hstarted

theorem confirmMessage_works (a : ConfirmArgs) (s : State) : Works s (confirmMessage a s).1 := by
  unfold confirmMessage
  refine Works.orRefuse ?_
  split
  · exact .refl s
  · split
    · split
      · exact confirmed_works _ s
      · exact settle_finishOne_works _ _ _ s
    · exact .refl s

/-! ### CLOCK -/

theorem setClock_keeps {v : Nat} (s : State) (h : v ≤ Config.clockMax) : Keeps s (s.setClock v) :=
  present_keeps s v true (h.trans (by decide))

/-- The pending entries are refreshed where they stand. -/
theorem firstSet_keeps {v : Nat} (s : State) (h : v ≤ Config.clockMax) : Keeps s (firstSet v s) :=
  ((setClock_keeps s h).works (mapEntries_works (s.setClock v) (fun e =>
    { e with refreshedAt := some (e.refreshedAt.getD v) }) (fun _ => rfl))).trans (SameTables.keeps {})

theorem steppedBack_keeps {v : Nat} (s : State) (h : v ≤ Config.clockMax) : Keeps s (steppedBack v s) :=
  ((setClock_keeps s h).works (mapBookings_works (s.setClock v) (fun b => { b with
    confirmExpiry := b.confirmExpiry.map (fun x => min x (v + s.settings.confirmTimeout)) }) (fun _ => rfl))).trans
    (SameTables.keeps {})

theorem clockStep_keeps {v : Nat} (s : State) (h : v ≤ Config.clockMax) : Keeps s (clockStep v s) := by
  cases hc : stepClass s.clockSet s.present v with
  | none => rw [clockStep_none hc]; exact .refl s
  | first => rw [clockStep_first hc]; exact (firstSet_keeps s h).works (settle_deriveAndPass_works _)
  | forward =>
    rw [clockStep_forward hc]
    exact (((setClock_keeps s h).works (agenda_works _ _)).works (settle_works _)).works (replanIf_works _ _)
  | backward => rw [clockStep_backward hc]; exact (steppedBack_keeps s h).works (replanIf_works _ _)

theorem clockWork_keeps (w : Word32) (s : State) : Keeps s (clockWork w s).1 := by
  unfold clockWork
  split
  · rename_i h
    exact clockStep_keeps s ((clockAccepts_iff _).mp h).2
  · exact .refl s

/-! ### The guide -/

theorem guideOpenWork_keeps (a : GuideOpenArgs) (s : State) : Keeps s (guideOpenWork a s).1 := by
  unfold guideOpenWork
  split
  · have hclosed : Keeps s (closeStream s) :=
      (SameTables.keeps {} : Keeps s (closeRecord s)).works (closeStream_works s)
    exact hclosed.trans (SameTables.keeps {})
  · exact .refl s

theorem putEntry_keeps (w : StreamWindow) (e : GuidePutEntry) (s : State) : Keeps s (putEntry w e s).1 := by
  unfold putEntry
  split
  · exact .refl s
  · split
    · exact .refl s
    · split
      · exact .refl s
      · split
        · rename_i old _
          have hput := mapEntry_works s old.slot (putUpdate s e) (fun _ => rfl)
          simp only []
          split
          · exact hput.keeps.trans (SameTables.keeps {})
          · exact hput.keeps
        · split
          · exact insertEntry_keeps e s
          · split
            · split
              · exact (entries_works s _ (List.filter_sublist.map _)).keeps.trans (insertEntry_keeps e _)
              · exact (setGuideFull_works s true).keeps
            · exact (setGuideFull_works s true).keeps

theorem putEntries_keeps (w : StreamWindow) (es : List GuidePutEntry) (s : State) (c : PutCounts) :
    Keeps s (putEntries w es s c).1 := by
  induction es generalizing s c with
  | nil => exact .refl s
  | cons e es ih => exact (putEntry_keeps w e s).trans (ih _ _)

theorem guidePutWork_keeps (a : GuidePutArgs) (s : State) : Keeps s (guidePutWork a s).1 := by
  unfold guidePutWork
  split
  · exact .refl s
  · exact putEntries_keeps _ _ s _

theorem guideFlushWork_works (a : GuideFlushArgs) (s : State) : Works s (guideFlushWork a s).1 := by
  unfold guideFlushWork
  refine Works.orRefuse ?_
  simp only [accept]
  split
  · exact .refl s
  · exact (dropEntries_works s _).trans (settle_deriveAndPass_works _)

theorem changeStatus_works (st : RunningStatus) (e : GuideEntry) (s : State) : Works s (changeStatus st e s) := by
  have hput := mapEntry_works s e.slot (writeStatus st) (fun _ => rfl)
  unfold changeStatus
  simp only []
  split
  · exact hput
  · exact hput.trans (handRunning_works _ _)

theorem runningWork_works (a : RunningArgs) (s : State) : Works s (runningWork a s).1 := by
  unfold runningWork
  split
  · exact .refl s
  · refine Works.orRefuse ?_
    split
    · exact .refl s
    · split
      · exact .refl s
      · exact changeStatus_works _ _ s

/-! ### Host power -/

theorem freeHolds_works (s : State) : Works s s.freeHolds :=
  { holdA := fun h => absurd h Bool.false_ne_true, holdB := fun h => absurd h Bool.false_ne_true }

theorem greetWork_keeps (x : Unit) (s : State) : Keeps s (greetWork x s).1 := by
  have hended := (freeHolds_works s).trans
    (finishEach_works (.outcome .truncated .hostRestart 0) none (restartBookings s) s.freeHolds)
  have hawake := hended.keeps.trans (SameTables.keeps {} : Keeps _ { finishEach (.outcome .truncated .hostRestart 0)
    none (restartBookings s) s.freeHolds with host := (finishEach (.outcome .truncated .hostRestart 0)
    none (restartBookings s) s.freeHolds).host.greeted })
  have htaken := hawake.works (takeLates_works _)
  unfold greetWork
  refine Keeps.trans (Keeps.works ?_ (settle_works _)) (SameTables.keeps {})
  split
  · exact htaken.works (afterFinish_works _ _)
  · exact htaken

theorem restAccepted_keeps (s : State) : Keeps s (restAccepted s).1 := by
  have hfreed : Keeps s (if s.holdsViewer then settle (passIfSet s.freeHolds) else s.freeHolds) := by
    split
    · exact ((freeHolds_works s).trans (settle_passIfSet_works _)).keeps
    · exact (freeHolds_works s).keeps
  exact (((hfreed.trans (SameTables.keeps {})).works (applyTrigger_works _ _)).works (recomputeWake_works _)).works
    (settle_works _)

theorem restWork_keeps (x : Unit) (s : State) : Keeps s (restWork x s).1 := by
  unfold restWork
  exact Keeps.orRefuse (Keeps.orRefuse (restAccepted_keeps s))

/-! ### The stored image -/

theorem setImageState_sameTables (s : State) (st : ImageState) : SameTables s (s.setImageState st) := by
  rw [setImageState_eq]; exact {}

/-- The Image Store's record replaced, and the image state written and reported. -/
theorem setImage_keeps (s : State) (x : ImageStore) (st : ImageState) (hf : InBounds s → imageOk x.flash)
    (hc : InBounds s → imageOk x.capture) : Keeps s (State.setImageState { s with image := x } st) := by
  have hset : Keeps s { s with image := x } :=
    ⟨fun k => { k with flash := hf k, capture := hc k }, fun k => ⟨k.1, k.2, k.3, k.4⟩⟩
  exact hset.trans (setImageState_sameTables _ st).keeps

theorem beginSave_keeps (s : State) : Keeps s (beginSave s) :=
  setImage_keeps s _ _ (fun _ => trivial) (fun _ => trivial)

theorem storeSaveWork_keeps (x : Unit) (s : State) : Keeps s (storeSaveWork x s).1 := by
  unfold storeSaveWork
  exact Keeps.orRefuse (beginSave_keeps s)

theorem storedContent_ok {s : State} (k : InBounds s) : contentOk s.storedContent :=
  ⟨k.settings, k.services, rising_sublist k.requests.1 (List.filter_sublist.map _),
    fun n hn => k.requests.2 n ((List.filter_sublist.map _).subset hn)⟩

theorem eraseDone_keeps (s : State) : Keeps s (eraseDone s) := by
  unfold eraseDone
  split
  · exact setImage_keeps s _ _ InBounds.flash storedContent_ok
  · exact .refl s

theorem writeImage_keeps (s : State) : Keeps s (writeImage s) :=
  setImage_keeps s _ _ InBounds.capture (fun _ => trivial)

theorem writeDone_keeps (s : State) : Keeps s (writeDone s) := by
  unfold writeDone
  split
  · exact ((writeImage_keeps s).works (releaseScan_works _)).works (settle_works _)
  · exact .refl s

/-! ### The outbox, the alert table and the panel -/

theorem beginTaken_works (n : Nat) (s : State) : Works s (beginTaken n s) := by
  unfold beginTaken
  split
  · exact ((mapBooking_works s n (startStarting s) (fun _ => rfl)).trans (atOnce_works _ _ _)).trans (settle_works _)
  · exact .refl s

theorem handTaken_works (x : Directive) (s : State) : Works s (handTaken x s) := by
  cases x with
  | beginRec f => exact beginTaken_works _ s
  | endRec => exact .refl s
  | yieldTuner => exact .refl s

theorem popItem_keeps (s : State) : Keeps s (popItem s).2 := by
  unfold popItem
  split
  · exact SameTables.keeps {}
  · exact SameTables.keeps {}
  · exact .refl s

theorem takeWork_keeps (d : Dest) (x : Unit) (s : State) : Keeps s (takeWork d x s).1 := by
  cases d with
  | broadcast => exact .refl s
  | own =>
    unfold takeWork
    simp only []
    split
    · exact (popItem_keeps s).works (handTaken_works _ _)
    · exact popItem_keeps s
    · exact popItem_keeps s

theorem acknowledge_keeps (l : LevelSource) (s : State) : Keeps s (acknowledge l s) :=
  Keeps.works (SameTables.keeps {}) (sample_works _ l)

theorem alertAckWork_keeps (b : Byte) (s : State) : Keeps s (alertAckWork b s).1 := by
  unfold alertAckWork
  split
  · exact .refl s
  · exact .refl s
  · exact Keeps.orRefuse (acknowledge_keeps _ s)

theorem changeMask_keeps (x : Source) (v : Bool) (s : State) : Keeps s (changeMask x v s) := by
  have hput : Keeps s (s.changing (fun u => u.setMask x v)) := changing_keeps (SameTables.keeps {})
  unfold changeMask
  cases x with
  | level l =>
    simp only []
    split
    · exact hput
    · exact hput.works (sample_works _ l)
  | edge e => exact hput

theorem alertMaskWork_keeps (a : AlertMaskArgs) (s : State) : Keeps s (alertMaskWork a s).1 := by
  unfold alertMaskWork
  split
  · refine Keeps.orRefuse ?_
    split
    · exact .refl s
    · exact changeMask_keeps _ _ s
  · exact .refl s

theorem attnEnableWork_keeps (b : Byte) (s : State) : Keeps s (attnEnableWork b s).1 := by
  unfold attnEnableWork
  split
  · exact .refl s
  · exact Keeps.orRefuse (changing_keeps (f := fun u => u.setAttn _) (SameTables.keeps {}))

theorem panelStageWork_keeps (a : PanelStageArgs) (s : State) : Keeps s (panelStageWork a s).1 := by
  unfold panelStageWork
  refine Keeps.orRefuse ?_
  split
  · exact changing_keeps (f := fun u => u.stage _ _) (SameTables.keeps {})
  · exact .refl s

theorem panelSetWork_keeps (b : Byte) (s : State) : Keeps s (panelSetWork b s).1 := by
  unfold panelSetWork
  split
  · exact .refl s
  · exact SameTables.keeps {}

/-! ### Requests -/

theorem reqAddWork_keeps (a : ReqAddArgs) (s : State) : Keeps s (reqAddWork a s).1 := by
  unfold reqAddWork
  refine Keeps.orRefuse ?_
  split
  · exact .refl s
  · rename_i q _
    refine Keeps.orRefuse (Keeps.orRefuse (Keeps.orRefuse ?_))
    split
    · exact .refl s
    · rename_i n hn
      have hput : Keeps s (s.insertRequest (q.request n)) := insertRequest_keeps hn
      exact (changing_keeps hput).works (settle_deriveAndPass_works _)

theorem editAccepted_keeps (b : ReqEditBody) (r : Request) (s : State) : Keeps s (editAccepted b r s).1 := by
  have hput : Keeps s (s.mapRequest r.number fun _ => editedRequest b r) :=
    replaceRequest_keeps s (editedRequest b r)
  unfold editAccepted
  simp only []
  split
  · exact .refl s
  · simp only [accept]
    split
    · exact (changing_keeps hput).works (settle_deriveAndPass_works _)
    · exact changing_keeps hput

theorem reqEditWork_keeps (a : ReqEditArgs) (s : State) : Keeps s (reqEditWork a s).1 := by
  unfold reqEditWork
  refine Keeps.orRefuse (Keeps.orRefuse ?_)
  split
  · exact .refl s
  · exact Keeps.orRefuse (Keeps.orRefuse (Keeps.orRefuse (Keeps.orRefuse (Keeps.orRefuse (editAccepted_keeps _ _ s)))))

theorem removeWaiting_works (n : Nat) (s : State) : Works s (removeWaiting n s) := removeSilently_works s _

theorem passIfRemoved_works (n : Nat) (s : State) : Works s (passIfRemoved n s) := by
  unfold passIfRemoved
  split
  · exact .refl s
  · exact settle_passIfSet_works s

theorem setRequestState_works (s : State) (n : Nat) (st : RequestState) : Works s (s.setRequestState n st) :=
  mapRequest_works s n _ (fun _ => rfl)

theorem dropRequest_works (n : Nat) (s : State) : Works s (dropRequest n s) := by
  unfold dropRequest
  split
  · exact removeRequest_works s n
  · exact setRequestState_works s n _

theorem reqDropWork_works (n : Byte) (s : State) : Works s (reqDropWork n s).1 := by
  unfold reqDropWork
  refine Works.orRefuse (Works.orRefuse ?_)
  split
  · exact .refl s
  · split
    · exact .refl s
    · exact ((removeWaiting_works _ s).trans (changing_works _ _ (dropRequest_works _ _))).trans
        (passIfRemoved_works _ _)

theorem reqPauseWork_works (n : Byte) (s : State) : Works s (reqPauseWork n s).1 := by
  unfold reqPauseWork
  refine Works.orRefuse (Works.orRefuse ?_)
  split
  · exact .refl s
  · split
    · exact .refl s
    · exact .refl s
    · exact ((removeWaiting_works _ s).trans (changing_works _ _ (setRequestState_works _ _ _))).trans
        (passIfRemoved_works _ _)

theorem reqResumeWork_works (n : Byte) (s : State) : Works s (reqResumeWork n s).1 := by
  unfold reqResumeWork
  refine Works.orRefuse (Works.orRefuse ?_)
  split
  · exact .refl s
  · split
    · exact .refl s
    · exact .refl s
    · exact (changing_works s _ (setRequestState_works _ _ _)).trans (settle_deriveAndPass_works _)

theorem reqReadWork_keeps (a : ReqReadArgs) (s : State) : Keeps s (reqReadWork a s).1 := by
  unfold reqReadWork
  refine Keeps.orRefuse ?_
  split
  · exact .refl s
  · simp only []
    split <;> exact .refl s

/-! ### Services, tuners and viewer holds -/

theorem changeServices_keeps {f : State → State} {s : State} (h : Keeps s (f s)) : Keeps s (changeServices f s) :=
  (changing_keeps h).works (settle_deriveAndPass_works _)

theorem svcPutWork_keeps (a : SvcPutArgs) (s : State) : Keeps s (svcPutWork a s).1 := by
  unfold svcPutWork
  refine Keeps.orRefuse (Keeps.orRefuse ?_)
  split
  · rename_i hnew
    split
    · exact .refl s
    · rename_i hroom
      exact changeServices_keeps (insertService_keeps hnew (Nat.not_le.mp hroom))
  · refine Keeps.orRefuse ?_
    split
    · exact .refl s
    · exact changeServices_keeps (updateService_keeps s _)

theorem svcDropWork_keeps (w : Word16) (s : State) : Keeps s (svcDropWork w s).1 := by
  unfold svcDropWork
  exact Keeps.orRefuse (Keeps.orRefuse (Keeps.orRefuse (Keeps.orRefuse (changeServices_keeps (removeService_keeps s _)))))

theorem svcReadWork_keeps (w : Word16) (s : State) : Keeps s (svcReadWork w s).1 := by
  unfold svcReadWork
  exact Keeps.orRefuse (.refl s)

theorem withTuner_sameTables (s : State) (t : TunerId) (x : Tuner) : SameTables s (s.withTuner t x) := by
  cases t <;> exact {}

theorem tunerCfgJudged_keeps (t : TunerId) (enabled : Bool) (mask : BitVec 4) (s : State) :
    Keeps s (tunerCfgJudged t enabled mask s).1 := by
  unfold tunerCfgJudged
  refine Keeps.orRefuse ?_
  split
  · exact .refl s
  · exact (changing_keeps (withTuner_sameTables s t _).keeps).works (settle_passIfSet_works _)

theorem tunerCfgWork_keeps (a : TunerCfgArgs) (s : State) : Keeps s (tunerCfgWork a s).1 := by
  unfold tunerCfgWork
  refine Keeps.orRefuse ?_
  split
  · exact tunerCfgJudged_keeps _ _ _ s
  · exact .refl s

theorem viewJudged_keeps (t : TunerId) (v : Service) (s : State) : Keeps s (viewJudged t v s).1 := by
  unfold viewJudged
  refine Keeps.orRefuse ?_
  split
  · exact .refl s
  · exact (withTuner_sameTables s t _).keeps.works (settle_passIfSet_works _)

theorem viewOnWork_keeps (a : ViewOnArgs) (s : State) : Keeps s (viewOnWork a s).1 := by
  unfold viewOnWork
  refine Keeps.orRefuse ?_
  split
  · exact .refl s
  · refine Keeps.orRefuse ?_
    split
    · exact .refl s
    · exact viewJudged_keeps _ _ s

theorem viewOffWork_works (i : Byte) (s : State) : Works s (viewOffWork i s).1 := by
  unfold viewOffWork
  split
  · exact .refl s
  · rename_i t _
    split
    · exact (withHold_works s t none (fun h => absurd h Bool.false_ne_true)).trans (settle_passIfSet_works _)
    · exact .refl s

/-! ### The step -/

theorem expire_keeps (d : Due) (s : State) : Keeps s (expire d s) := (expire_works d s).keeps

/-- Every command answers a state that keeps the bounds and the numbers. -/
theorem exec_keeps (i : Instr) (s : State) : ∃ t, exec i s = .next t ∧ Keeps s t := by
  cases i with
  | powerOn p => exact ⟨_, rfl, powerUp_keeps p s⟩
  | resetPin e => exact ⟨_, rfl, resetPinWork_keeps e s⟩
  | powerLoss => exact ⟨_, rfl, blank_keeps s _ _⟩
  | presentAdvance => exact ⟨_, rfl, advance_keeps s⟩
  | assemblyTimeout lead => exact ⟨_, rfl, onLine_keeps s ((gap_dropAddress _).trans (lead_dropAddress _ _))⟩
  | deselection lead x => exact ⟨_, rfl, onLine_keeps s ((char_dropAddress _ _).trans (lead_dropAddress _ _))⟩
  | impossibleLength d len => exact ⟨_, rfl, onLine_keeps s (chars_dropAddress _ _)⟩
  | replyComplete => exact ⟨_, rfl, onLine_keeps s (sent_dropAddress _)⟩
  | badCheckMessage d => exact ⟨_, rfl, message_keeps (fun _ u => .refl u) _ d _ s⟩
  | unknownKindMessage d => exact ⟨_, rfl, message_keeps (fun _ u => .refl u) _ d _ s⟩
  | greet d b => exact ⟨_, rfl, message_keeps greetWork_keeps _ d b s⟩
  | rest d b => exact ⟨_, rfl, message_keeps restWork_keeps _ d b s⟩
  | clock d b => exact ⟨_, rfl, message_keeps clockWork_keeps _ d b s⟩
  | query d b => exact ⟨_, rfl, message_keeps (queryWork_keeps d) _ d b s⟩
  | paramSet d b => exact ⟨_, rfl, message_keeps paramSetWork_keeps _ d b s⟩
  | paramGet d b => exact ⟨_, rfl, message_keeps paramGetWork_keeps _ d b s⟩
  | reset d b => exact ⟨_, rfl, resetMessage_keeps d b s⟩
  | svcPut d b => exact ⟨_, rfl, message_keeps svcPutWork_keeps _ d b s⟩
  | svcDrop d b => exact ⟨_, rfl, message_keeps svcDropWork_keeps _ d b s⟩
  | svcRead d b => exact ⟨_, rfl, message_keeps svcReadWork_keeps _ d b s⟩
  | tunerCfg d b => exact ⟨_, rfl, message_keeps tunerCfgWork_keeps _ d b s⟩
  | viewOn d b => exact ⟨_, rfl, message_keeps viewOnWork_keeps _ d b s⟩
  | viewOff d b => exact ⟨_, rfl, message_keeps (fun a u => (viewOffWork_works a u).keeps) _ d b s⟩
  | guideOpen d b => exact ⟨_, rfl, message_keeps guideOpenWork_keeps _ d b s⟩
  | guidePut d b => exact ⟨_, rfl, message_keeps guidePutWork_keeps _ d b s⟩
  | guideFlush d b => exact ⟨_, rfl, message_keeps (fun a u => (guideFlushWork_works a u).keeps) _ d b s⟩
  | running d b => exact ⟨_, rfl, message_keeps (fun a u => (runningWork_works a u).keeps) _ d b s⟩
  | reqAdd d b => exact ⟨_, rfl, message_keeps reqAddWork_keeps _ d b s⟩
  | reqEdit d b => exact ⟨_, rfl, message_keeps reqEditWork_keeps _ d b s⟩
  | reqDrop d b => exact ⟨_, rfl, message_keeps (fun a u => (reqDropWork_works a u).keeps) _ d b s⟩
  | reqPause d b => exact ⟨_, rfl, message_keeps (fun a u => (reqPauseWork_works a u).keeps) _ d b s⟩
  | reqResume d b => exact ⟨_, rfl, message_keeps (fun a u => (reqResumeWork_works a u).keeps) _ d b s⟩
  | reqRead d b => exact ⟨_, rfl, message_keeps reqReadWork_keeps _ d b s⟩
  | bookRead d b => exact ⟨_, rfl, message_keeps bookReadWork_keeps _ d b s⟩
  | bookCancel d b => exact ⟨_, rfl, message_keeps (fun a u => (bookCancelWork_works a u).keeps) _ d b s⟩
  | bookStop d b => exact ⟨_, rfl, message_keeps (fun a u => (bookStopWork_works a u).keeps) _ d b s⟩
  | space d b => exact ⟨_, rfl, message_keeps spaceWork_keeps _ d b s⟩
  | hold d b => exact ⟨_, rfl, message_keeps holdWork_keeps _ d b s⟩
  | take d b => exact ⟨_, rfl, message_keeps (takeWork_keeps d) _ d b s⟩
  | confirm d b => exact ⟨_, rfl, message_keeps (fun a u => (confirmMessage_works a u).keeps) _ d b s⟩
  | alertAck d b => exact ⟨_, rfl, message_keeps alertAckWork_keeps _ d b s⟩
  | alertMask d b => exact ⟨_, rfl, message_keeps alertMaskWork_keeps _ d b s⟩
  | attnEnable d b => exact ⟨_, rfl, message_keeps attnEnableWork_keeps _ d b s⟩
  | panelStage d b => exact ⟨_, rfl, message_keeps panelStageWork_keeps _ d b s⟩
  | panelSet d b => exact ⟨_, rfl, message_keeps panelSetWork_keeps _ d b s⟩
  | storeSave d b => exact ⟨_, rfl, message_keeps storeSaveWork_keeps _ d b s⟩
  | storeQuery d b => exact ⟨_, rfl, message_keeps (fun _ u => .refl u) _ d b s⟩
  | eraseComplete => exact ⟨_, rfl, eraseDone_keeps s⟩
  | writeComplete => exact ⟨_, rfl, writeDone_keeps s⟩
  | agingScan => exact ⟨_, rfl, expire_keeps .scan s⟩
  | windowStart n => exact ⟨_, rfl, expire_keeps (.windowStart n) s⟩
  | lateLimit n => exact ⟨_, rfl, expire_keeps (.lateLimit n) s⟩
  | takeDeadline n => exact ⟨_, rfl, expire_keeps (.takeDeadline n) s⟩
  | confirmTimer n => exact ⟨_, rfl, expire_keeps (.confirmTimer n) s⟩
  | provisionalEnd n => exact ⟨_, rfl, expire_keeps (.provisionalEnd n) s⟩
  | wakeExpiry => exact ⟨_, rfl, expire_keeps .wake s⟩
  | wakeTimeout => exact ⟨_, rfl, expire_keeps .wakeTimer s⟩
  | warningExpiry t => exact ⟨_, rfl, expire_keeps (.warning t) s⟩

theorem step_keeps {s t : State} (h : step s = .next t) : Keeps s t := by
  unfold step at h
  split at h
  · cases h; exact .refl s
  · rename_i i rest _
    obtain ⟨u, hu, hkeeps⟩ := exec_keeps i { s with pending := rest }
    rw [hu] at h
    cases h
    exact Keeps.trans (SameTables.keeps {}) hkeeps

/-- Settles O55: a step is one command (`exec_keeps`) or idle. -/
theorem stepKeepsTablesAndNumbers : Obligations.StepKeepsTablesAndNumbers :=
  ⟨fun _ _ k h => (step_keeps h).bounds k, fun _ _ k h => (step_keeps h).numbers k⟩

end Sys2Proof.Machine

/-! PROOFS. What a message finds when it arrives and how its owner answers it, and the service table (R12 to R16). -/

namespace Sys2Proof.Machine

/-! ### A message and its owner (R171, R172) -/

section
variable {α : Type} {i : Instr} {d : Dest} {a : α} {owner : α → State → State × Answer} {s t : State}

/-- A message that its owner refuses. -/
theorem exec_refused {r : RefuseReason} {bs : List Nat}
    (hi : exec i s = .next (message i d (.fields a) owner s)) (hr : s.running = true) (hk : s.line.state.takes = true)
    (hw : owner a (arrive i d s) = (t, .refuse r bs)) :
    exec i s = .next (t.answering d (.refused (kindByte i) r bs)) := by
  rw [hi, message_fields hr hk, hw]; rfl

/-- A message that its owner accepts. -/
theorem exec_accepted {b : ReplyBody} (hi : exec i s = .next (message i d (.fields a) owner s))
    (hr : s.running = true) (hk : s.line.state.takes = true) (hw : owner a (arrive i d s) = accept t b) :
    exec i s = .next (t.answering d (.accepted b)) := by
  rw [hi, message_fields hr hk, hw]; rfl

end

section
variable (i : Instr) (d : Dest) (s : State)

theorem arrive_clockSet : (arrive i d s).clockSet = s.clockSet := (arrive_present_clock_settings i d s).2.1

theorem arrive_services : (arrive i d s).services = s.services :=
  (arrive_works i d s).services.trans (arrived_sameTables i d s).services

theorem arrive_service? (n : Nat) : (arrive i d s).service? n = s.service? n := by
  simp only [State.service?, arrive_services]

theorem arrive_hasService (n : Nat) : (arrive i d s).hasService n = s.hasService n := by
  simp only [State.hasService, arrive_services]

end

/-! ### Fields in range -/

theorem channelOk_iff (w : Word16) : channelOk w = true ↔ 1 ≤ w.toNat ∧ w.toNat ≤ 9999 := by
  rw [channelOk, Bool.and_eq_true, decide_eq_true_iff, decide_eq_true_iff]; rfl

theorem channelOk_eq_false {w : Word16} (h : w.toNat = 0 ∨ 9999 < w.toNat) : channelOk w = false := by
  rw [Bool.eq_false_iff, Ne, channelOk_iff]; omega

theorem channelOrAny_iff (w : Word16) : channelOrAny w = true ↔ w.toNat ≤ 9999 := decide_eq_true_iff

theorem servicePutOk_iff (a : SvcPutArgs) : servicePutOk a = true ↔
    (1 ≤ a.channel.toNat ∧ a.channel.toNat ≤ 9999) ∧ a.network.toNat ≤ 3 ∧ a.rateClass.toNat ≤ 3 := by
  simp only [servicePutOk, Bool.and_eq_true, channelOk_iff, decide_eq_true_eq, and_assoc]

theorem servicePutOk_eq_false {a : SvcPutArgs}
    (h : a.channel.toNat = 0 ∨ 9999 < a.channel.toNat ∨ 3 < a.network.toNat ∨ 3 < a.rateClass.toNat) :
    servicePutOk a = false := by
  rw [Bool.eq_false_iff, Ne, servicePutOk_iff]; omega

/-! ### A change of stored content (R181) -/

/-- After a change of stored content the image is no longer CURRENT. -/
theorem markChanged_notCurrent (s : State) : s.markChanged.image.state ≠ .current := by
  unfold State.markChanged
  split
  · rw [setImageState_eq]; exact ImageState.noConfusion
  all_goals simp [*]

theorem noteChange_notCurrent {c : StoredContent} {t : State} (h : t.storedContent ≠ c) :
    (State.noteChange c t).image.state ≠ .current := by
  rw [State.noteChange, if_neg h]
  exact markChanged_notCurrent t

/-! ### The service table changed (R15) -/

/-- The state after a change of the service table to `vs`, with its derivation and pass. -/
def withServices (vs : List Service) (u : State) : State :=
  settle (deriveAndPass (State.noteChange u.storedContent { u with services := vs }))

theorem withServices_standing (vs : List Service) (u : State) :
    (withServices vs u).standing = { u.standing with services := vs } :=
  ((noteChange_works _ _).trans (settle_deriveAndPass_works _)).standing

/-- A table that differs is a change of stored content. -/
theorem withServices_notCurrent {vs : List Service} {u : State} (h : vs ≠ u.services) :
    (withServices vs u).image.state ≠ .current :=
  (settle_deriveAndPass_works _).notCurrent (noteChange_notCurrent fun he => h (congrArg StoredContent.services he))

theorem changeServices_insert (v : Service) (u : State) :
    changeServices (fun t => t.insertService v) u = withServices (insertBy serviceBefore v u.services) u := rfl

theorem changeServices_update (v : Service) (u : State) : changeServices (fun t => t.updateService v) u
    = withServices (u.services.map (fun x => if x.channel == v.channel then v else x)) u := rfl

theorem changeServices_remove (n : Nat) (u : State) : changeServices (fun t => t.removeService n) u
    = withServices (u.services.filter (fun x => x.channel != n)) u := rfl

/-! ### Each change differs -/

theorem insertBy_ne {α : Type} (before : α → α → Bool) (x : α) (ys : List α) : insertBy before x ys ≠ ys := fun h => by
  have hlen := (insertBy_perm before x ys).length_eq
  rw [h, List.length_cons] at hlen
  omega

theorem service?_spec {s : State} {n : Nat} {w : Service} (h : s.service? n = some w) :
    w ∈ s.services ∧ w.channel = n :=
  ⟨List.mem_of_find?_eq_some h, by simpa using List.find?_some h⟩

/-- Replacing a record by one that differs changes the table. -/
theorem updatedServices_ne {s : State} {v w : Service} (h : s.service? v.channel = some w) (hne : w ≠ v) :
    s.services.map (fun x => if x.channel == v.channel then v else x) ≠ s.services := fun he => by
  obtain ⟨hmem, hch⟩ := service?_spec h
  have hsame := List.map_inj_left.mp (he.trans (List.map_id _).symm) w hmem
  rw [hch, beq_self_eq_true, if_pos rfl] at hsame
  exact hne hsame.symm

theorem removedServices_ne {s : State} {n : Nat} (h : s.hasService n = true) :
    s.services.filter (fun x => x.channel != n) ≠ s.services := fun he => by
  obtain ⟨v, hmem, hch⟩ := List.any_eq_true.mp h
  have hkept := List.filter_eq_self.mp he v hmem
  simp only [bne, hch] at hkept
  exact absurd hkept (by decide)

/-! ### SVC_PUT (R13) -/

section
variable {a : SvcPutArgs} {u : State}

theorem svcPutWork_busy (h : u.saving = true) : svcPutWork a u = refuse u .busy := if_pos h

theorem svcPutWork_range (h : u.saving = false) (ho : servicePutOk a = false) : svcPutWork a u = refuse u .range := by
  simp only [svcPutWork, h, ho, Bool.false_eq_true, if_false, Bool.not_false, if_true]

/-- With no record of the channel, one is inserted where there is room. -/
theorem svcPutWork_new (h : u.saving = false) (ho : servicePutOk a = true)
    (hnew : u.service? (carriedService a).channel = none) :
    svcPutWork a u = if 200 ≤ u.services.length then refuse u .full
      else accept (withServices (insertBy serviceBefore (carriedService a) u.services) u) (.svcPut .inserted) := by
  simp only [svcPutWork, h, ho, hnew, Bool.false_eq_true, if_false, Bool.not_true, changeServices_insert]
  rfl

/-- The record of the channel is left or replaced, where a channel in use need not move. -/
theorem svcPutWork_known (h : u.saving = false) (ho : servicePutOk a = true) {w : Service}
    (hw : u.service? (carriedService a).channel = some w) :
    svcPutWork a u =
      if (w.network ≠ (carriedService a).network ∨ w.multiplex ≠ (carriedService a).multiplex)
          ∧ u.channelInUse (carriedService a).channel = true then refuse u .state
      else if w = carriedService a then accept u (.svcPut .unchanged)
      else accept (withServices (u.services.map fun x =>
        if x.channel == (carriedService a).channel then carriedService a else x) u) (.svcPut .updated) := by
  simp only [svcPutWork, h, ho, hw, Bool.false_eq_true, if_false, Bool.not_true, changeServices_update]

end

/-! ### SVC_DROP (R14) -/

section
variable {w : Word16} {u : State}

theorem svcDropWork_busy (h : u.saving = true) : svcDropWork w u = refuse u .busy := if_pos h

theorem svcDropWork_range (h : u.saving = false) (ho : channelOk w = false) : svcDropWork w u = refuse u .range := by
  simp only [svcDropWork, h, ho, Bool.false_eq_true, if_false, Bool.not_false, if_true]

theorem svcDropWork_inRange (h : u.saving = false) (ho : channelOk w = true) : svcDropWork w u =
    if u.hasService w.toNat = false then refuse u .unknown
    else if u.channelInUse w.toNat = true ∨ u.requestNames w.toNat = true then refuse u .state
    else accept (withServices (u.services.filter fun x => x.channel != w.toNat) u) .svcDrop := by
  simp only [svcDropWork, h, ho, Bool.false_eq_true, if_false, Bool.not_true, changeServices_remove, Bool.not_eq_true',
    Bool.or_eq_true]

end

/-- Settles O18: the tests in their order, then the change with what it brings (`withServices`). -/
theorem serviceTableChanges : Obligations.ServiceTableChanges := by
  refine ⟨?put, ?drop, fun d s hr hk => ⟨?putRefused, ?dropRefused⟩⟩
  case put =>
    intro d a s hr hk hlo hhi hnet hrate c u v planned hsave
    have hok : servicePutOk a = true := (servicePutOk_iff a).mpr ⟨⟨hlo, hhi⟩, hnet, hrate⟩
    have hvs : u.services = s.services := arrive_services c d s
    have hfind : u.service? (carriedService a).channel = s.service? a.channel.toNat := arrive_service? c d s _
    refine ⟨fun hnew hfull => ?_, fun hnew hroom => ?_, fun w hw => ?_⟩
    · exact exec_refused rfl hr hk ((svcPutWork_new hsave hok (hfind.trans hnew)).trans (if_pos (by rwa [hvs])))
    · have hwork := (svcPutWork_new hsave hok (hfind.trans hnew)).trans (if_neg (by rw [hvs]; omega))
      rw [hvs] at hwork
      exact ⟨exec_accepted rfl hr hk hwork, withServices_notCurrent fun he => insertBy_ne _ _ _ (he.trans hvs),
        withServices_standing _ _⟩
    · have hwork := svcPutWork_known hsave hok (hfind.trans hw)
      rw [hvs] at hwork
      refine ⟨fun he => ?_, fun hmoves huse => ?_, fun hne hstays => ?_⟩
      · exact exec_accepted rfl hr hk ((hwork.trans (if_neg (by simp [he, v, carriedService]))).trans (if_pos he))
      · exact exec_refused rfl hr hk (hwork.trans (if_pos ⟨hmoves, huse⟩))
      · have hpassed : ¬ ((w.network ≠ v.network ∨ w.multiplex ≠ v.multiplex) ∧ u.channelInUse v.channel = true) := by
          rcases hstays with ⟨hnet, hmux⟩ | huse
          · simp [hnet, hmux]
          · simp [huse]
        exact ⟨exec_accepted rfl hr hk ((hwork.trans (if_neg hpassed)).trans (if_neg hne)),
          withServices_notCurrent fun he => updatedServices_ne hw hne (he.trans hvs), withServices_standing _ _⟩
  case drop =>
    intro d w s hr hk hlo hhi c u hsave
    have hok : channelOk w = true := (channelOk_iff w).mpr ⟨hlo, hhi⟩
    have hvs : u.services = s.services := arrive_services c d s
    have hhas : u.hasService w.toNat = s.hasService w.toNat := arrive_hasService c d s _
    have hwork := svcDropWork_inRange hsave hok
    rw [hhas, hvs] at hwork
    refine ⟨fun hnone => ?_, fun hsome hneeded => ?_, fun hsome huse hnamed => ?_⟩
    · exact exec_refused rfl hr hk (hwork.trans (if_pos hnone))
    · exact exec_refused rfl hr hk ((hwork.trans (if_neg (by simp [hsome]))).trans (if_pos hneeded))
    · have hwork := (hwork.trans (if_neg (by simp [hsome]))).trans (if_neg (by simp [huse, hnamed]))
      exact ⟨exec_accepted rfl hr hk hwork, withServices_notCurrent fun he => removedServices_ne hsome (he.trans hvs),
        withServices_standing _ _⟩
  case putRefused =>
    intro a c u
    exact ⟨fun hbusy => exec_refused rfl hr hk (svcPutWork_busy hbusy),
      fun hsave hout => exec_refused rfl hr hk (svcPutWork_range hsave (servicePutOk_eq_false hout))⟩
  case dropRefused =>
    intro w c u
    exact ⟨fun hbusy => exec_refused rfl hr hk (svcDropWork_busy hbusy),
      fun hsave hout => exec_refused rfl hr hk (svcDropWork_range hsave (channelOk_eq_false hout))⟩

/-! ### SVC_READ (R16) -/

theorem nextChannel_eq (vs : List Service) : nextChannel vs = ((vs.drop 8).head?.map Service.channel).getD 0 := by
  unfold nextChannel
  cases vs.drop 8 <;> rfl

theorem svcReadWork_range {w : Word16} (h : 9999 < w.toNat) (u : State) : svcReadWork w u = refuse u .range :=
  if_pos (by rw [Bool.not_eq_true', Bool.eq_false_iff, Ne, channelOrAny_iff]; omega)

theorem svcReadWork_inRange {w : Word16} (h : w.toNat ≤ 9999) (u : State) : svcReadWork w u = accept u
    (.svcRead ((servicesFrom u w.toNat).take 8)
      ((((servicesFrom u w.toNat).drop 8).head?.map Service.channel).getD 0)) := by
  rw [← nextChannel_eq]
  exact if_neg (by rw [(channelOrAny_iff w).mpr h]; decide)

/-- Settles O19: the records read are a run of the table from the channel on, so they stand in its order. -/
theorem svcReadWalksTheTable : Obligations.SvcReadWalksTheTable := by
  intro d w s hr hk c u vs
  have hvs : servicesFrom u w.toNat = vs := by
    unfold servicesFrom; rw [arrive_services]
  refine ⟨fun hout => ?_, fun hin => ?_, fun hok => ?_, fun hnil => ?_⟩
  · exact exec_refused rfl hr hk (svcReadWork_range hout _)
  · exact exec_accepted rfl hr hk (hvs ▸ svcReadWork_inRange hin u)
  · exact rising_sublist hok.1 (((List.take_sublist 8 vs).trans List.filter_sublist).map _)
  · rw [hnil]; exact ⟨rfl, rfl⟩

end Sys2Proof.Machine

/-! PROOFS. TUNER_CFG (R18). -/

namespace Sys2Proof.Machine

/-! ### Fields in range -/

theorem tunerOfIndex_eq_none {n : Nat} (h : 1 < n) : tunerOfIndex n = none := by
  match n, h with
  | _ + 2, _ => rfl

theorem tunerOfIndex_inRange {n : Nat} (h : n ≤ 1) : ∃ x, tunerOfIndex n = some x := by
  match n, h with
  | 0, _ => exact ⟨.a, rfl⟩
  | 1, _ => exact ⟨.b, rfl⟩

theorem flagOf_inRange {b : Byte} (h : b.toNat ≤ 1) : flagOf b = some (decide (b = 1)) := by
  have hb : b = 0 ∨ b = 1 := by bv_omega
  rcases hb with rfl | rfl <;> rfl

theorem flagOf_eq_none {b : Byte} (h : 1 < b.toNat) : flagOf b = none := by
  have h0 : b ≠ 0 := by rintro rfl; exact absurd h (by decide)
  have h1 : b ≠ 1 := by rintro rfl; exact absurd h (by decide)
  rw [flagOf, if_neg h0, if_neg h1]

theorem nibbleOf_inRange {b : Byte} (h : b.toNat ≤ 15) : nibbleOf b = some (BitVec.ofNat 4 b.toNat) := by
  rw [nibbleOf, if_pos (by omega), BitVec.ofNat_toNat]

theorem nibbleOf_eq_none {b : Byte} (h : 15 < b.toNat) : nibbleOf b = none := if_neg (by omega)

/-! ### The tuners a message finds -/

/-- An arrival leaves what a tuner is configured to (R171). -/
theorem arrive_tuner_config (i : Instr) (d : Dest) (s : State) (x : TunerId) :
    ((arrive i d s).tuner x).enabled = (s.tuner x).enabled ∧ ((arrive i d s).tuner x).mask = (s.tuner x).mask := by
  have hworks := (arrive_works i d s).standing
  have hsame : (arrived i d s).tuner = s.tuner := by unfold arrived; split <;> rfl
  rw [← hsame]
  cases x with
  | a => exact TunerConfig.mk.inj (congrArg Standing.tunerA hworks)
  | b => exact TunerConfig.mk.inj (congrArg Standing.tunerB hworks)

/-! ### TUNER_CFG's owner -/

section
variable {a : TunerCfgArgs} {u : State}

theorem tunerCfgWork_busy (h : u.saving = true) : tunerCfgWork a u = refuse u .busy := if_pos h

theorem tunerCfgWork_range (h : u.saving = false)
    (hout : 1 < a.tuner.toNat ∨ 1 < a.enabled.toNat ∨ 15 < a.mask.toNat) : tunerCfgWork a u = refuse u .range := by
  unfold tunerCfgWork
  rw [h, if_neg Bool.false_ne_true]
  rcases hout with ht | he | hm
  · rw [tunerOfIndex_eq_none ht]
  · rw [flagOf_eq_none he]
    cases tunerOfIndex a.tuner.toNat <;> rfl
  · rw [nibbleOf_eq_none hm]
    cases tunerOfIndex a.tuner.toNat <;> cases flagOf a.enabled <;> rfl

theorem tunerCfgWork_inRange (h : u.saving = false) {x : TunerId} (ht : tunerOfIndex a.tuner.toNat = some x)
    (he : a.enabled.toNat ≤ 1) (hm : a.mask.toNat ≤ 15) :
    tunerCfgWork a u = tunerCfgJudged x (decide (a.enabled = 1)) (BitVec.ofNat 4 a.mask.toNat) u := by
  unfold tunerCfgWork
  rw [h, if_neg Bool.false_ne_true, ht, flagOf_inRange he, nibbleOf_inRange hm]

end

/-- A tuner's fields changed, with the pass that follows (R18). -/
def withConfig (x : TunerId) (e : Bool) (m : BitVec 4) (u : State) : State :=
  settle (passIfSet (State.noteChange u.storedContent (u.withTuner x { u.tuner x with enabled := e, mask := m })))

theorem withConfig_standing (x : TunerId) (e : Bool) (m : BitVec 4) (u : State) :
    (withConfig x e m u).standing = (u.withTuner x { u.tuner x with enabled := e, mask := m }).standing :=
  ((noteChange_works _ _).trans (settle_passIfSet_works _)).standing

theorem tunerCfgJudged_eq (x : TunerId) (e : Bool) (m : BitVec 4) (u : State) : tunerCfgJudged x e m u =
    if breaksClaim u x e m = true then refuse u .state
    else if (u.tuner x).enabled = e ∧ (u.tuner x).mask = m then accept u (.tunerCfg false)
    else accept (withConfig x e m u) (.tunerCfg true) := rfl

/-- Settles O20: the tests in their order, then the change with its pass (`withConfig`). -/
theorem tunerCfgSetsBothFields : Obligations.TunerCfgSetsBothFields := by
  intro d a s hr hk c u
  refine ⟨fun hbusy => exec_refused rfl hr hk (tunerCfgWork_busy hbusy), fun hsave => ⟨fun hout =>
    exec_refused rfl hr hk (tunerCfgWork_range hsave hout), fun x hx he hm => ?_⟩⟩
  have hwork := (tunerCfgWork_inRange hsave hx he hm).trans (tunerCfgJudged_eq ..)
  obtain ⟨henabled, hmask⟩ := arrive_tuner_config c d s x
  rw [henabled, hmask] at hwork
  intro e m
  refine ⟨fun hbreaks => ?_, fun hkeeps hsameE hsameM => ?_, fun hkeeps hdiffers => ?_⟩
  · exact exec_refused rfl hr hk (hwork.trans (if_pos hbreaks))
  · have hwork := (hwork.trans (if_neg (Bool.eq_false_iff.mp hkeeps))).trans (if_pos ⟨hsameE, hsameM⟩)
    exact exec_accepted rfl hr hk hwork
  · have hwork := (hwork.trans (if_neg (Bool.eq_false_iff.mp hkeeps))).trans (if_neg (not_and_or.mpr hdiffers))
    exact ⟨exec_accepted rfl hr hk hwork, withConfig_standing ..⟩

end Sys2Proof.Machine

/-! PROOFS. Viewer holds: the slots of a tuner, what a pass does to a hold, VIEW_ON, VIEW_OFF and WARNING_EXPIRY (R19 to
R24). -/

namespace Sys2Proof.Machine

/-! ### A list put in the order of a key -/

theorem insertStable_pairwise {α : Type} (f : α → Nat) (x : α) {ys : List α}
    (h : ys.Pairwise (fun y z => f y ≤ f z)) :
    (sortBy.insertStable (fun y z => decide (f y < f z)) x ys).Pairwise (fun y z => f y ≤ f z) := by
  induction ys with
  | nil => exact List.pairwise_singleton _ _
  | cons y ys ih =>
    obtain ⟨hy, hys⟩ := List.pairwise_cons.mp h
    by_cases hlt : f y < f x
    · rw [sortBy.insertStable, if_pos (decide_eq_true hlt)]
      refine List.pairwise_cons.mpr ⟨fun z hz => ?_, ih hys⟩
      rcases List.mem_cons.mp ((insertStable_perm _ x ys).mem_iff.mp hz) with rfl | hz
      · exact hlt.le
      · exact hy z hz
    · rw [sortBy.insertStable, if_neg (by simpa using hlt)]
      refine List.pairwise_cons.mpr ⟨fun z hz => ?_, h⟩
      rcases List.mem_cons.mp hz with rfl | hz
      · exact Nat.not_lt.mp hlt
      · exact (Nat.not_lt.mp hlt).trans (hy z hz)

theorem sortBy_pairwise {α : Type} (f : α → Nat) (xs : List α) :
    (sortBy (fun y z => decide (f y < f z)) xs).Pairwise (fun y z => f y ≤ f z) := by
  induction xs with
  | nil => exact List.Pairwise.nil
  | cons x xs ih => exact insertStable_pairwise f x ih

/-! ### The three slots of a tuner (R17) -/

theorem mem_slots_iff {k : Nat} : k ∈ [0, 1, 2] ↔ k ≤ 2 := by
  simp only [List.mem_cons, List.not_mem_nil, or_false]; omega

/-- The first slot of three with a property: the least, where there is one. -/
theorem find?_slots {p : Nat → Bool} (h : ∃ k ≤ 2, p k = true) :
    ∃ k, [0, 1, 2].find? p = some k ∧ k ≤ 2 ∧ p k = true ∧ ∀ j < k, p j = false := by
  obtain ⟨k, hk, hp⟩ := h
  cases h0 : p 0 with
  | true => exact ⟨0, by simp [h0], by decide, h0, fun j hj => absurd hj (Nat.not_lt_zero j)⟩
  | false =>
    cases h1 : p 1 with
    | true =>
      refine ⟨1, by simp [h0, h1], by decide, h1, fun j hj => ?_⟩
      obtain rfl : j = 0 := by omega
      exact h0
    | false =>
      have h2 : p 2 = true := by
        rcases (by omega : k = 0 ∨ k = 1 ∨ k = 2) with rfl | rfl | rfl
        · exact absurd hp (by simp [h0])
        · exact absurd hp (by simp [h1])
        · exact hp
      refine ⟨2, by simp [h0, h1, h2], by decide, h2, fun j hj => ?_⟩
      rcases (by omega : j = 0 ∨ j = 1) with rfl | rfl
      · exact h0
      · exact h1

theorem find?_slots_none {p : Nat → Bool} (h : ∀ k ≤ 2, p k = false) : [0, 1, 2].find? p = none :=
  List.find?_eq_none.mpr fun k hk => by simp [h k (mem_slots_iff.mp hk)]

/-! ### The bookings on a tuner (R20, R21) -/

section
variable (u : State) (x : TunerId) (k : Nat)

/-- A running booking holds the slot. -/
def RunsIn : Prop := ∃ b ∈ u.plan.bookings, b.isRunning = true ∧ b.place = some ⟨x, k⟩

/-- A LATE booking holds the slot. -/
def LateIn : Prop := ∃ b ∈ u.plan.bookings, b.state = some .late ∧ b.place = some ⟨x, k⟩

theorem onTuner_of_place {b : Booking} (h : b.place = some ⟨x, k⟩) : b.onTuner x = true := by
  simp [Booking.onTuner, h]

theorem mem_runningOn {b : Booking} :
    b ∈ runningOn u x ↔ b ∈ u.plan.bookings ∧ b.isRunning = true ∧ b.onTuner x = true := by
  rw [runningOn, (sortBy_perm _ _).mem_iff, List.mem_filter, Bool.and_eq_true]

theorem runningOn_pairwise : (runningOn u x).Pairwise
    (fun b c => ∀ p q, b.place = some p → c.place = some q → p.slot ≤ q.slot) := by
  refine (sortBy_pairwise runningOn.slotOf _).imp fun {b c} h p q hp hq => ?_
  simpa only [runningOn.slotOf, hp, hq] using h

theorem slotHeld_iff (bs : List Booking) : slotHeld bs x k = true ↔ ∃ b ∈ bs, b.place = some ⟨x, k⟩ := by
  simp [slotHeld]

theorem slotHeld_running : slotHeld (runningOn u x) x k = true ↔ RunsIn u x k := by
  rw [slotHeld_iff]
  constructor
  · rintro ⟨b, hb, hp⟩
    obtain ⟨hmem, hrun, -⟩ := (mem_runningOn u x).mp hb
    exact ⟨b, hmem, hrun, hp⟩
  · rintro ⟨b, hmem, hrun, hp⟩
    exact ⟨b, (mem_runningOn u x).mpr ⟨hmem, hrun, onTuner_of_place x k hp⟩, hp⟩

theorem slotHeld_late : slotHeld ((u.inState .late).filter (fun b => b.onTuner x)) x k = true ↔ LateIn u x k := by
  rw [slotHeld_iff]
  simp only [State.inState, List.mem_filter, beq_iff_eq]
  constructor
  · rintro ⟨b, ⟨⟨hmem, hlate⟩, -⟩, hp⟩
    exact ⟨b, hmem, hlate, hp⟩
  · rintro ⟨b, hmem, hlate, hp⟩
    exact ⟨b, ⟨⟨hmem, hlate⟩, onTuner_of_place x k hp⟩, hp⟩

theorem slotHeld_append (bs cs : List Booking) :
    slotHeld (bs ++ cs) x k = true ↔ slotHeld bs x k = true ∨ slotHeld cs x k = true := by
  rw [slotHeld, List.any_append, Bool.or_eq_true]; rfl

/-- No running booking holds the slot, as the model looks for it. -/
theorem not_slotHeld_running : (!slotHeld (runningOn u x) x k) = true ↔ ¬ RunsIn u x k := by
  rw [Bool.not_eq_true', Bool.eq_false_iff, Ne, slotHeld_running]

/-- Neither a running nor a LATE booking holds the slot, as the model looks for it. -/
theorem not_slotHeld_either :
    (!slotHeld (runningOn u x ++ (u.inState .late).filter (fun b => b.onTuner x)) x k) = true
      ↔ ¬ RunsIn u x k ∧ ¬ LateIn u x k := by
  rw [Bool.not_eq_true', Bool.eq_false_iff, Ne, slotHeld_append, slotHeld_running, slotHeld_late, not_or]

end

/-- R20 test 5: all three slots run, or a running booking is on another multiplex. -/
theorem viewBlocked_iff (u : State) (x : TunerId) (m : Nat) : viewBlocked u x m = true ↔ (∀ k ≤ 2, RunsIn u x k)
    ∨ ∃ b ∈ u.plan.bookings, b.isRunning = true ∧ b.onTuner x = true ∧ u.multiplexOf b.channel ≠ m := by
  have hslots : [0, 1, 2].all (slotHeld (runningOn u x) x) = true ↔ ∀ k ≤ 2, RunsIn u x k := by
    simp only [List.all_eq_true, slotHeld_running, mem_slots_iff]
  have hother : (runningOn u x).any (fun b => u.multiplexOf b.channel != m) = true
      ↔ ∃ b ∈ u.plan.bookings, b.isRunning = true ∧ b.onTuner x = true ∧ u.multiplexOf b.channel ≠ m := by
    simp only [List.any_eq_true, mem_runningOn, bne_iff_ne, and_assoc]
  rw [viewBlocked, Bool.or_eq_true, hother, hslots, or_comm]

/-- R21: the lowest slot that neither a running nor a LATE booking holds, where there is one. -/
theorem viewSlot_free {u : State} {x : TunerId} (h : ∃ k ≤ 2, ¬ RunsIn u x k ∧ ¬ LateIn u x k) :
    viewSlot u x ≤ 2 ∧ ¬ RunsIn u x (viewSlot u x) ∧ ¬ LateIn u x (viewSlot u x)
      ∧ ∀ k < viewSlot u x, RunsIn u x k ∨ LateIn u x k := by
  simp only [← not_slotHeld_either] at h
  obtain ⟨k, hfind, hle, hfree, hleast⟩ := find?_slots h
  have hslot : viewSlot u x = k := by simp only [viewSlot, hfind]
  obtain ⟨hruns, hlate⟩ := (not_slotHeld_either u x k).mp hfree
  rw [hslot]
  refine ⟨hle, hruns, hlate, fun j hj => ?_⟩
  have htaken := Bool.eq_false_iff.mp (hleast j hj)
  rwa [Ne, not_slotHeld_either, not_and_or, not_not, not_not] at htaken

/-- R21: else the lowest slot that no running booking holds. -/
theorem viewSlot_overLate {u : State} {x : TunerId} (h : ∀ k ≤ 2, RunsIn u x k ∨ LateIn u x k)
    (hfree : ∃ k ≤ 2, ¬ RunsIn u x k) :
    viewSlot u x ≤ 2 ∧ ¬ RunsIn u x (viewSlot u x) ∧ ∀ k < viewSlot u x, RunsIn u x k := by
  have hnone := find?_slots_none (p := fun k =>
      !slotHeld (runningOn u x ++ (u.inState .late).filter (fun b => b.onTuner x)) x k) fun k hk => by
    rw [Bool.eq_false_iff, Ne, not_slotHeld_either, not_and_or, not_not, not_not]; exact h k hk
  simp only [← not_slotHeld_running] at hfree
  obtain ⟨k, hfind, hle, hfree, hleast⟩ := find?_slots hfree
  have hslot : viewSlot u x = k := by simp only [viewSlot, hnone, hfind, Option.getD_some]
  rw [hslot]
  refine ⟨hle, (not_slotHeld_running u x k).mp hfree, fun j hj => ?_⟩
  have htaken := Bool.eq_false_iff.mp (hleast j hj)
  rwa [Ne, not_slotHeld_running, not_not] at htaken

/-! ### What a pass leaves of the tuners (R23, R106)

Of the steps of a pass the Tuner Table's own, `writeYield`, is the only one that touches a tuner. -/

theorem edgeEvent_tuner (s : State) (n : Notice) : (s.edgeEvent n).tuner = s.tuner := by
  unfold State.edgeEvent
  split
  · rfl
  · rw [joinNotice_eq]; rfl

theorem pinDown_tuner (s : State) (k : OccurrenceKey) : (s.pinDown k).tuner = s.tuner := by
  cases k <;> rfl

theorem enterBooking_tuner (s : State) (b : Booking) : (s.enterBooking b).tuner = s.tuner := by
  unfold State.enterBooking State.pinUp
  cases b.key <;> rfl

theorem sample_tuner (s : State) (l : LevelSource) : (s.sample l).tuner = s.tuner := by
  rw [sample_eq]; rfl

theorem atOnce_tuner (s : State) (d : Due) (t : Nat) : (s.atOnce d t).tuner = s.tuner := by
  unfold State.atOnce; split <;> rfl

theorem bookAlternate_tuner (w : Pass) (r : Request) (b : Booking) (e : GuideEntry) (p : Place) (n : Need) :
    (bookAlternate w r b e p n).state.tuner = w.state.tuner :=
  ((enterBooking_tuner _ _).trans (edgeEvent_tuner _ _)).trans (pinDown_tuner _ _)

theorem clashBooking_tuner (w : Pass) (b : Booking) (n : Need) : (clashBooking w b n).state.tuner = w.state.tuner := by
  unfold clashBooking
  simp only []
  split
  · split
    · split
      · exact bookAlternate_tuner _ _ _ _ _ _
      · rfl
    · rfl
  · rfl

theorem placeBooking_tuner (w : Pass) (n : Nat) : (placeBooking w n).state.tuner = w.state.tuner := by
  unfold placeBooking
  split
  · rfl
  · simp only []
    split
    · rfl
    · exact clashBooking_tuner _ _ _

theorem settleOverrun_tuner (w : Pass) (n : Nat) : (settleOverrun w n).state.tuner = w.state.tuner := by
  unfold settleOverrun
  split
  · rfl
  · split
    · rfl
    · simp only []
      split <;> rfl

theorem settleHold_tuner (w : Pass) (t : TunerId) : (settleHold w t).state.tuner = w.state.tuner := by
  unfold settleHold
  split
  · rfl
  · simp only []
    split
    · rfl
    · cases t <;> rfl

theorem takeCandidate_tuner (w : Pass) (c : Ranked) : (takeCandidate w c).state.tuner = w.state.tuner := by
  unfold takeCandidate
  split
  · exact placeBooking_tuner _ _
  · exact settleOverrun_tuner _ _
  · exact settleHold_tuner _ _

theorem placeAll_tuner (s : State) : (placeAll s).state.tuner = s.tuner := by
  have hfold : ∀ (cs : List Ranked) (w : Pass), (cs.foldl takeCandidate w).state.tuner = w.state.tuner := by
    intro cs
    induction cs with
    | nil => exact fun w => rfl
    | cons c cs ih => exact fun w => (ih _).trans (takeCandidate_tuner w c)
  exact hfold _ _

theorem clashEvent_tuner (s : State) (n : Nat) : (clashEvent s n).tuner = s.tuner := by
  unfold clashEvent
  split
  · exact edgeEvent_tuner _ _
  · rfl

theorem reportPassClashes_tuner (ns : List Nat) (s : State) : (reportPassClashes ns s).tuner = s.tuner := by
  have hfold : ∀ (ns : List Nat) (t : State), (ns.foldl clashEvent t).tuner = t.tuner := by
    intro ns
    induction ns with
    | nil => exact fun t => rfl
    | cons n ns ih => exact fun t => (ih _).trans (clashEvent_tuner t n)
  exact (sample_tuner _ _).trans (hfold ns s)

theorem reportPass_tuner (w : Pass) : (reportPass w).state.tuner = w.state.tuner :=
  (sample_tuner _ _).trans (reportPassClashes_tuner _ _)

theorem recomputeWake_tuner (s : State) : (recomputeWake s).tuner = s.tuner := by
  unfold recomputeWake
  split
  · simp only []
    split
    · exact atOnce_tuner _ _ _
    · rfl
  · rfl

/-! ### What a pass leaves of a hold (R23) -/

/-- A pass has made `k` of the hold `h`: its channel, multiplex and slot stay, and it is warned only if it was. -/
structure SameHold (h k : ViewerHold) : Prop where
  channel : k.channel = h.channel := by rfl
  multiplex : k.multiplex = h.multiplex := by rfl
  slot : k.slot = h.slot := by rfl
  unwarned : h.warned = false → k.warned = false := by exact id

theorem SameHold.trans {h k l : ViewerHold} (a : SameHold h k) (b : SameHold k l) : SameHold h l :=
  ⟨b.channel.trans a.channel, b.multiplex.trans a.multiplex, b.slot.trans a.slot, b.unwarned ∘ a.unwarned⟩

@[simp] theorem tuner_withTuner_same (s : State) (t : TunerId) (x : Tuner) : (s.withTuner t x).tuner t = x := by
  cases t <;> rfl

theorem tuner_withTuner_other (s : State) {t x : TunerId} (y : Tuner) (h : x ≠ t) :
    (s.withTuner t y).tuner x = s.tuner x := by
  cases t with
  | a => cases x with
    | a => exact absurd rfl h
    | b => rfl
  | b => cases x with
    | a => rfl
    | b => exact absurd rfl h

theorem setWarning_tuner (s : State) (t : TunerId) (h : ViewerHold) : (s.setWarning t h).tuner
    = (s.withTuner t { s.tuner t with hold := some { h with warnExpiry := warnInstant s.settings h } }).tuner := by
  unfold State.setWarning
  simp only []
  split
  · exact atOnce_tuner _ _ _
  · rfl

theorem writeYield_hold {s : State} {x : TunerId} {h : ViewerHold} (hh : (s.tuner x).hold = some h) (t : TunerId)
    (y : Option (Nat × Nat)) : ∃ k, ((s.writeYield t y).tuner x).hold = some k ∧ SameHold h k := by
  unfold State.writeYield
  by_cases ht : x = t
  · subst ht
    simp only [hh]
    split
    · exact ⟨_, by rw [tuner_withTuner_same], {}⟩
    · exact ⟨_, by rw [setWarning_tuner, tuner_withTuner_same], { unwarned := fun _ => rfl }⟩
  · split
    · exact ⟨h, hh, {}⟩
    · simp only []
      split
      · exact ⟨h, by rw [tuner_withTuner_other _ _ ht, hh], {}⟩
      · exact ⟨h, by rw [setWarning_tuner, tuner_withTuner_other _ _ ht, hh], {}⟩

theorem handOn_hold {w : Pass} {x : TunerId} {h : ViewerHold} (hh : (w.state.tuner x).hold = some h) :
    ∃ k, ((handOn w).tuner x).hold = some k ∧ SameHold h k := by
  obtain ⟨k, hk, hsame⟩ := writeYield_hold (s := { alignExpiries w.state with agenda := [] }) hh .a w.yieldA
  obtain ⟨l, hl, hsame'⟩ := writeYield_hold hk .b w.yieldB
  exact ⟨l, (congrArg (fun f => (f x).hold) (recomputeWake_tuner _)).trans hl, hsame.trans hsame'⟩

theorem planPass_hold {s : State} {x : TunerId} {h : ViewerHold} (hh : (s.tuner x).hold = some h) :
    ∃ k, ((planPass s).tuner x).hold = some k ∧ SameHold h k := by
  have htuner : (reportPass (placeAll (formWindows s))).state.tuner = s.tuner :=
    (reportPass_tuner _).trans (placeAll_tuner _)
  exact handOn_hold (by rw [htuner]; exact hh)

/-! ### VIEW_ON (R20, R21) -/

/-- A tuner's hold is no part of what stands while inner work goes on. -/
theorem withHold_standing (u : State) (x : TunerId) (h : Option ViewerHold) :
    (u.withTuner x { u.tuner x with hold := h }).standing = u.standing := by
  cases x <;> rfl

section
variable {a : ViewOnArgs} {u : State}

theorem viewOnWork_clock (h : u.clockSet = false) : viewOnWork a u = refuse u .clock := if_pos (by rw [h]; rfl)

theorem viewOnWork_range (h : u.clockSet = true)
    (hout : 1 < a.tuner.toNat ∨ a.channel.toNat = 0 ∨ 9999 < a.channel.toNat) : viewOnWork a u = refuse u .range := by
  unfold viewOnWork
  rw [h, if_neg (by decide)]
  rcases hout with ht | hc
  · rw [tunerOfIndex_eq_none ht]
  · cases tunerOfIndex a.tuner.toNat with
    | none => rfl
    | some x => exact if_pos (by rw [channelOk_eq_false hc]; rfl)

theorem viewOnWork_unknown (h : u.clockSet = true) {x : TunerId} (ht : tunerOfIndex a.tuner.toNat = some x)
    (hc : channelOk a.channel = true) (hv : u.service? a.channel.toNat = none) :
    viewOnWork a u = refuse u .unknown := by
  simp only [viewOnWork, h, ht, hc, hv, Bool.not_true, Bool.false_eq_true, if_false]

theorem viewOnWork_known (h : u.clockSet = true) {x : TunerId} (ht : tunerOfIndex a.tuner.toNat = some x)
    (hc : channelOk a.channel = true) {v : Service} (hv : u.service? a.channel.toNat = some v) :
    viewOnWork a u = viewJudged x v u := by
  simp only [viewOnWork, h, ht, hc, hv, Bool.not_true, Bool.false_eq_true, if_false]

end

/-- The pass of a VIEW_ON, with the new hold in place (R21). -/
def viewPlanned (x : TunerId) (v : Service) (u : State) : State :=
  planPass (u.withTuner x { u.tuner x with hold := some (newHold u x v) })

theorem viewPlanned_standing (x : TunerId) (v : Service) {u : State} (hc : u.clockSet = true) :
    (viewPlanned x v u).standing = u.standing := by
  have hold := withHold_standing u x (some (newHold u x v))
  exact (planPass_works _ ((congrArg Standing.clockSet hold).trans hc)).standing.trans hold

theorem viewPlanned_hold (x : TunerId) (v : Service) (u : State) :
    ∃ k, ((viewPlanned x v u).tuner x).hold = some k ∧ SameHold (newHold u x v) k :=
  planPass_hold (by rw [tuner_withTuner_same])

theorem viewJudged_unreached {x : TunerId} {v : Service} {u : State}
    (h : (u.tuner x).enabled = false ∨ (u.tuner x).mask.getLsbD v.network = false) :
    viewJudged x v u = refuse u .state :=
  if_pos (by rcases h with h | h <;> simp [Tuner.reaches, h])

/-- A tuner that carries the network is blocked, or gives the hold its slot and its yield. -/
theorem viewJudged_reached {x : TunerId} {v : Service} {u : State} (hc : u.clockSet = true)
    (he : (u.tuner x).enabled = true) (hm : (u.tuner x).mask.getLsbD v.network = true) :
    viewJudged x v u =
      if viewBlocked u x v.multiplex = true then (u, .refuse .state (((runningOn u x).map Booking.number).take 3))
      else accept (settle (viewPlanned x v u)) (.viewOn ⟨x, viewSlot u x⟩
        (yieldOf (viewPlanned x v u) x).1 (yieldOf (viewPlanned x v u) x).2) := by
  have hpass : viewPass x v u = viewPlanned x v u :=
    if_pos ((congrArg Standing.clockSet (withHold_standing u x _)).trans hc)
  unfold viewJudged
  rw [if_neg (by simp [Tuner.reaches, he, hm]), hpass]

theorem yieldOf_some {s : State} {x : TunerId} {h : ViewerHold} (hh : (s.tuner x).hold = some h) :
    yieldOf s x = (h.yieldTime, h.yieldBooking) := by
  rw [yieldOf, hh]

/-! ### VIEW_OFF (R22) -/

theorem viewOffWork_range {b : Byte} (h : 1 < b.toNat) (u : State) : viewOffWork b u = refuse u .range := by
  rw [viewOffWork, tunerOfIndex_eq_none h]

theorem viewOffWork_inRange {b : Byte} {x : TunerId} (h : tunerOfIndex b.toNat = some x) (u : State) :
    viewOffWork b u = if (u.tuner x).hold.isSome = true then
        accept (settle (passIfSet (u.withTuner x { u.tuner x with hold := none }))) (.viewOff true)
      else accept u (.viewOff false) := by
  rw [viewOffWork, h]

/-- The part's own work makes no hold. -/
theorem Works.hold_none {s t : State} (w : Works s t) {x : TunerId} (h : (s.tuner x).hold = none) :
    (t.tuner x).hold = none := by
  have hkept : (t.tuner x).hold.isSome = true → (s.tuner x).hold.isSome = true := by
    cases x with
    | a => exact w.holdA
    | b => exact w.holdB
  rw [h] at hkept
  exact Option.not_isSome_iff_eq_none.mp fun hk => Bool.false_ne_true (hkept hk)

/-! ### WARNING_EXPIRY (R24) -/

theorem edgeEvent_agenda (s : State) (n : Notice) : (s.edgeEvent n).agenda = s.agenda := by
  unfold State.edgeEvent
  split
  · rfl
  · rw [joinNotice_eq]

theorem edgeEvent_masked {s : State} {n : Notice} (h : s.alerts.masks.get n.source = true) : s.edgeEvent n = s :=
  if_pos h

theorem edgeEvent_joins {s : State} {n : Notice} (h : s.alerts.masks.get n.source = false)
    (hroom : s.outbox.notices.length < 24) :
    s.edgeEvent n = { s with outbox := { s.outbox with notices := s.outbox.notices ++ [n] } } := by
  rw [State.edgeEvent, if_neg (Bool.eq_false_iff.mp h)]
  exact if_pos hroom

/-- A hold warned: the flag is set and the expiry gone. -/
def warnedState (x : TunerId) (h : ViewerHold) (s : State) : State :=
  s.withTuner x { s.tuner x with hold := some { h with warned := true, warnExpiry := none } }

theorem warnedState_agenda (x : TunerId) (h : ViewerHold) (s : State) : (warnedState x h s).agenda = s.agenda := by
  cases x <;> rfl

theorem warnedState_alerts (x : TunerId) (h : ViewerHold) (s : State) : (warnedState x h s).alerts = s.alerts := by
  cases x <;> rfl

theorem warnedState_outbox (x : TunerId) (h : ViewerHold) (s : State) : (warnedState x h s).outbox = s.outbox := by
  cases x <;> rfl

theorem isDue_warning {s : State} {x : TunerId} {h : ViewerHold} {e : Nat} (hh : (s.tuner x).hold = some h)
    (he : h.warnExpiry = some e) (hle : e ≤ s.present) : isDue (.warning x) s = true := by
  simp only [isDue, hh, he, reached, decide_eq_true hle]

theorem expire_warning {s : State} {x : TunerId} {h : ViewerHold} {e y n : Nat} (hr : s.running = true)
    (ha : s.agenda = []) (hh : (s.tuner x).hold = some h) (he : h.warnExpiry = some e) (hle : e ≤ s.present)
    (hy : h.yieldTime = some y) (hn : h.yieldBooking = some n) :
    expire (.warning x) s = (warnedState x h s).edgeEvent (.viewWarn x n y) := by
  have htaken : takeDue (.warning x) s = (warnedState x h s).edgeEvent (.viewWarn x n y) := by
    rw [takeDue, if_pos (isDue_warning hh he hle)]
    simp only [warningWork, hh, hy, hn, Option.getD_some, warnedState]
  have hagenda := (edgeEvent_agenda _ (.viewWarn x n y)).trans ((warnedState_agenda x h s).trans ha)
  rw [expire, if_pos hr, htaken, settle_of_agenda hagenda]

/-- Settles O21: the slots of a tuner, then the three commands test by test. -/
theorem viewerHoldsComeAndGo : Obligations.ViewerHoldsComeAndGo := by
  refine ⟨?slots, ?viewOn, ?viewOff, ?refusals, ?warning⟩
  case slots =>
    intro u x m runs late
    exact ⟨viewBlocked_iff u x m, ⟨sortBy_perm _ _, runningOn_pairwise u x⟩, viewSlot_free, viewSlot_overLate⟩
  case viewOn =>
    intro d a s x v hr hk hclock hx hlo hhi hv c u
    have hset : u.clockSet = true := (arrive_clockSet c d s).trans hclock
    have hwork := viewOnWork_known hset hx ((channelOk_iff _).mpr ⟨hlo, hhi⟩) ((arrive_service? c d s _).trans hv)
    refine ⟨fun hoff => ?_, fun hon hmask hblocked => ?_, fun hon hmask hfree => ?_⟩
    · exact exec_refused rfl hr hk (hwork.trans (viewJudged_unreached hoff))
    · exact exec_refused rfl hr hk (hwork.trans ((viewJudged_reached hset hon hmask).trans (if_pos hblocked)))
    · have hwork := hwork.trans ((viewJudged_reached hset hon hmask).trans (if_neg (Bool.eq_false_iff.mp hfree)))
      obtain ⟨h, hh, hsame⟩ := viewPlanned_hold x v u
      rw [yieldOf_some hh] at hwork
      exact ⟨h, hh, hsame.channel, hsame.multiplex, hsame.slot, hsame.unwarned rfl, viewPlanned_standing x v hset,
        exec_accepted rfl hr hk hwork⟩
  case viewOff =>
    intro d b s hr hk c u
    refine ⟨fun hout => exec_refused rfl hr hk (viewOffWork_range hout u), fun x hx => ?_⟩
    have hwork := viewOffWork_inRange hx u
    refine ⟨fun hnone => ?_, fun hsome => ?_⟩
    · exact exec_accepted rfl hr hk (hwork.trans (if_neg (by rw [hnone]; decide)))
    · have hpass := settle_passIfSet_works (u.withTuner x { u.tuner x with hold := none })
      exact ⟨exec_accepted rfl hr hk (hwork.trans (if_pos hsome)), hpass.hold_none (by rw [tuner_withTuner_same]),
        hpass.standing.trans (withHold_standing u x none)⟩
  case refusals =>
    intro d a s hr hk c u
    have hset : u.clockSet = s.clockSet := arrive_clockSet c d s
    refine ⟨fun hclock => ?_, fun hclock hout => ?_, fun hclock ht hlo hhi hnone => ?_⟩
    · exact exec_refused rfl hr hk (viewOnWork_clock (hset.trans hclock))
    · exact exec_refused rfl hr hk (viewOnWork_range (hset.trans hclock) hout)
    · obtain ⟨x, hx⟩ := tunerOfIndex_inRange ht
      exact exec_refused rfl hr hk (viewOnWork_unknown (hset.trans hclock) hx ((channelOk_iff _).mpr ⟨hlo, hhi⟩)
        ((arrive_service? c d s _).trans hnone))
  case warning =>
    intro x s h e y n hr ha hh he hle hy hn t
    have halerts : t.alerts = s.alerts := warnedState_alerts x h s
    have houtbox : t.outbox = s.outbox := warnedState_outbox x h s
    have hexec : exec (.warningExpiry x) s = .next (t.edgeEvent (.viewWarn x n y)) :=
      congrArg Host.Outcome.next (expire_warning hr ha hh he hle hy hn)
    refine ⟨hexec, fun hmask => ?_, fun hmask hroom => ?_⟩
    · rw [hexec, edgeEvent_masked (by rw [halerts]; exact hmask)]
    · rw [hexec, edgeEvent_joins (by rw [halerts]; exact hmask) (by rw [houtbox]; exact hroom), houtbox]

end Sys2Proof.Machine

/-! PROOFS. What a command can do, said once: every command answers a state reached by the part's own work (`Works`) and
by the writes that the owners make themselves (`OwnWrite`). An invariant of the step is a claim about the two. -/

namespace Sys2Proof.Machine

/-! ### The owners' own writes -/

/-- What a reset has done before its derivation: the tables and the queues are cleared, with DEFAULTS the defaults loaded,
and the level sources sampled (R176, R177). -/
def resetCleared (defaults : Bool) (s : State) : State :=
  State.sampleAll (if defaults then resetDefaults (resetOutbox (resetTables s)) else resetOutbox (resetTables s))

/-- One write of a command's owner that is not the part's own work. -/
inductive OwnWrite (s : State) : State → Prop
  | start (p : Straps) : OwnWrite s (s.start p)
  | stop (powered resetLow : Bool) (h : (powered && !resetLow) = false) : OwnWrite s (s.blank powered resetLow)
  | queue (is : List Instr) : OwnWrite s { s with pending := is }
  | present (v : Nat) : OwnWrite s { s with present := v }
  | clock (v : Nat) : OwnWrite s (s.setClock v)
  | line (l : LineInterface) : OwnWrite s { s with line := l }
  | stream (w : Option StreamWindow) (change pending : Bool) :
      OwnWrite s { s with guide := { s.guide with stream := w, change := change, agingPending := pending } }
  | scan (waits : Bool) (next : Option Nat) :
      OwnWrite s { s with guide := { s.guide with scanWaits := waits, nextScan := next } }
  | entries (es : List GuideEntry) : OwnWrite s (s.withEntries es)
  | settings (set : Settings) : OwnWrite s { s with settings := set }
  | services (vs : List Service) : OwnWrite s { s with services := vs }
  | requests (rs : List Request) : OwnWrite s { s with requests := rs }
  | freeSpace (x : Option Nat) : OwnWrite s { s with plan := { s.plan with freeSpace := x } }
  | hold (v : Bool) : OwnWrite s { s with run := { s.run with hold := v } }
  | configure (t : TunerId) (enabled : Bool) (mask : BitVec 4) : OwnWrite s (s.configure t enabled mask)
  | view (t : TunerId) (h : ViewerHold) (set : s.clockSet = true) :
      OwnWrite s (s.withTuner t { s.tuner t with hold := some h })
  | greeted : OwnWrite s { s with host := s.host.greeted }
  | rested : OwnWrite s { s with host := s.host.rested }
  | causeTold : OwnWrite s { s with host := { s.host with cause := .none } }
  | wakeTimer (f : Nat → Nat) : OwnWrite s { s with host := { s.host with wakeTimer := s.host.wakeTimer.map f } }
  | lostTold : OwnWrite s { s with outbox := { s.outbox with lost := 0 } }
  | directiveTaken (x : Directive) (xs : List Directive) (h : s.outbox.directives = x :: xs) :
      OwnWrite s (s.withDirectives xs)
  | noticeTaken (n : Notice) (ns : List Notice) (h : s.outbox.notices = n :: ns) :
      OwnWrite s { s with outbox := { s.outbox with notices := ns } }
  | acknowledge (l : LevelSource) (h : s.waits (.level l) = false) : OwnWrite s (acknowledge l s)
  | mask (x : Source) (v : Bool) : OwnWrite s (changeMask x v s)
  | attn (v : Bool) : OwnWrite s (s.setAttn v)
  | stage (t : Trigger) (x : Staged) : OwnWrite s (s.stage t x)
  | beginSave : OwnWrite s (beginSave s)
  | capture (i : Image) : OwnWrite s
      (State.setImageState { s with image := { s.image with capture := some i } } .savingWrite)
  | writeImage : OwnWrite s (writeImage s)
  | cleared (defaults : Bool) : OwnWrite s (resetCleared defaults s)

/-- `t` comes from `s` by work and by the owners' writes. -/
inductive Does : State → State → Prop
  | works {s t : State} (h : Works s t) : Does s t
  | writes {s t : State} (h : OwnWrite s t) : Does s t
  | trans {s t u : State} (h : Does s t) (k : Does t u) : Does s u

namespace Does

theorem refl (s : State) : Does s s := .works (.refl s)

theorem andWorks {s t u : State} (h : Does s t) (k : Works t u) : Does s u := h.trans (.works k)

theorem andWrites {s t u : State} (h : Does s t) (k : OwnWrite t u) : Does s u := h.trans (.writes k)

/-- What work and every write of an owner keep is kept. -/
theorem keeps {P : State → Prop} (works : ∀ s t, Works s t → P s → P t) (writes : ∀ s t, OwnWrite s t → P s → P t)
    {s t : State} (h : Does s t) : P s → P t := by
  induction h with
  | works h => exact works _ _ h
  | writes h => exact writes _ _ h
  | trans _ _ ih ik => exact ik ∘ ih

/-- A test that refuses, before work that does. -/
theorem orRefuse {s : State} {c : Prop} [Decidable c] {r : RefuseReason} {w : State × Answer} (h : Does s w.1) :
    Does s (if c then refuse s r else w).1 := by
  split
  · exact .refl s
  · exact h

/-- A write of stored content, with the Image Store's act (R181). -/
theorem changing {s : State} {f : State → State} (h : OwnWrite s (f s)) : Does s (s.changing f) :=
  (Does.writes h).andWorks (noteChange_works _ _)

end Does

/-! ### Starting, stopping, the line -/

theorem powerUp_does (p : Straps) (s : State) : Does s (powerUp p s) := by
  unfold powerUp
  split
  · exact .writes (.stop true true rfl)
  · exact .writes (.start p)

theorem resetPinWork_does (e : ResetPinEvent) (s : State) : Does s (resetPinWork e s) := by
  cases e with
  | low => exact .writes (.stop s.powered true (Bool.and_false _))
  | release p =>
    simp only [resetPinWork]
    split
    · split
      · exact .writes (.start p)
      · exact .writes (.stop false false rfl)
    · exact .refl s

theorem advance_does (s : State) : Does s (advance s) := by
  unfold advance
  split
  · exact .writes (.present _)
  · exact .refl s

theorem onLine_does (s : State) (f : LineInterface → LineInterface) : Does s (s.onLine f) := by
  unfold State.onLine
  split
  · exact .writes (.line _)
  · exact .refl s

theorem arrive_does (i : Instr) (d : Dest) (s : State) : Does s (arrive i d s) := by
  have hstart : Does s (startWork i d s) := .writes (.line _)
  refine Does.andWorks ?_ (arrive_works i d s)
  unfold arrived
  split
  · exact hstart.andWrites (.stream none false false)
  · exact hstart

theorem respond_does (kind : Byte) (d : Dest) (w : State × Answer) : Does w.1 (respond kind d w) := by
  cases d <;> exact .writes (.line _)

/-- A message does what its owner does. -/
theorem message_does {α : Type} {owner : α → State → State × Answer} (h : ∀ a u, Does u (owner a u).1)
    (i : Instr) (d : Dest) (b : Body α) (s : State) : Does s (message i d b owner s) := by
  unfold message
  split
  · cases b with
    | fields a => exact ((arrive_does i d s).trans (h a _)).trans (respond_does _ _ _)
    | badLength p => exact (arrive_does i d s).trans (respond_does _ _ (arrive i d s, .refuse .length []))
  · exact .refl s

/-! ### Settings, QUERY and RESET -/

theorem setSetting_does (id : Nat) (v : List Int) (s : State) : Does s (setSetting id v s) := by
  unfold setSetting
  split
  · exact .refl s
  · exact (Does.changing (.settings _)).andWorks (settingEffect_works _ _ _)

theorem paramSetWork_does (a : ParamSetArgs) (s : State) : Does s (paramSetWork a s).1 := by
  unfold paramSetWork
  refine Does.orRefuse ?_
  split
  · exact .refl s
  · split
    · exact .refl s
    · exact setSetting_does _ _ s

theorem paramGetWork_does (a : Byte) (s : State) : Does s (paramGetWork a s).1 := by
  unfold paramGetWork
  split <;> exact .refl s

theorem queryWork_does (d : Dest) (x : Unit) (s : State) : Does s (queryWork d x s).1 := by
  cases d with
  | own => exact .writes .lostTold
  | broadcast => exact .refl s

theorem resetStreamAndSave_does (s : State) : Does s (resetStreamAndSave s) :=
  ((Does.writes (.stream none false false)).andWorks (stopSave_works .reset (closeWithoutWork s))).andWrites (.scan _ _)

theorem resetWork_does (defaults : Bool) (s : State) : Does s (resetWork defaults s) :=
  ((resetStreamAndSave_does s).andWrites (.cleared defaults)).andWorks (settle_deriveAndPass_works _)

theorem resetMessage_does (d : Dest) (b : Body Byte) (s : State) : Does s (resetMessage d b s) := by
  unfold resetMessage
  split
  · split
    · exact ((Does.writes (.line _)).trans (resetWork_does _ _)).andWrites (.line _)
    · exact .refl s
  · exact message_does (fun _ u => .refl u) _ d b s

/-! ### Bookings -/

theorem spaceWork_does (w : Word32) (s : State) : Does s (spaceWork w s).1 :=
  (Does.writes (.freeSpace _)).andWorks (spacePart_works _)

theorem holdOn_does (s : State) : Does s (holdOn s) := by
  have hheld := Works.foldl (fun u n => holdBack_works n u) ((s.inState .due).map Booking.number)
    { s with run := { s.run with hold := true } }
  exact ((Does.writes (.hold true)).andWorks hheld).andWorks ((finishGroup_works _ _ _).trans (settle_works _))

theorem holdOff_does (s : State) : Does s (holdOff s).state := by
  have htaken : Does s (takeLates { s with run := { s.run with hold := false } }).state :=
    (Does.writes (.hold false)).andWorks (takeLates_works _)
  refine (htaken.andWorks ?_).andWorks (settle_works _)
  split
  · exact .refl _
  · exact afterFinish_works _ _

theorem holdWork_does (b : Byte) (s : State) : Does s (holdWork b s).1 := by
  unfold holdWork
  split
  · exact .refl s
  · split
    · exact .refl s
    · split
      · exact holdOn_does s
      · exact holdOff_does s

/-! ### CLOCK -/

theorem firstSet_does (v : Nat) (s : State) : Does s (firstSet v s) :=
  ((Does.writes (.clock v)).andWorks (mapEntries_works (s.setClock v) (fun e =>
    { e with refreshedAt := some (e.refreshedAt.getD v) }) (fun _ => rfl))).andWrites (.scan s.guide.scanWaits _)

theorem steppedBack_does (v : Nat) (s : State) : Does s (steppedBack v s) :=
  ((Does.writes (.clock v)).andWorks (mapBookings_works (s.setClock v) (fun b => { b with
    confirmExpiry := b.confirmExpiry.map (fun x => min x (v + s.settings.confirmTimeout)) }) (fun _ => rfl))).andWrites
    (.wakeTimer _)

theorem clockStep_does (v : Nat) (s : State) : Does s (clockStep v s) := by
  cases hc : stepClass s.clockSet s.present v with
  | none => rw [clockStep_none hc]; exact .refl s
  | first => rw [clockStep_first hc]; exact (firstSet_does v s).andWorks (settle_deriveAndPass_works _)
  | forward =>
    rw [clockStep_forward hc]
    exact (Does.writes (.clock v)).andWorks (((agenda_works _ _).trans (settle_works _)).trans (replanIf_works _ _))
  | backward => rw [clockStep_backward hc]; exact (steppedBack_does v s).andWorks (replanIf_works _ _)

theorem clockWork_does (w : Word32) (s : State) : Does s (clockWork w s).1 := by
  unfold clockWork
  split
  · exact clockStep_does _ s
  · exact .refl s

/-! ### The guide -/

theorem closeStream_does (s : State) : Does s (closeStream s) :=
  (Does.writes (.stream none false false)).andWorks (closeStream_works s)

theorem guideOpenWork_does (a : GuideOpenArgs) (s : State) : Does s (guideOpenWork a s).1 := by
  unfold guideOpenWork
  split
  · exact (closeStream_does s).andWrites (.stream _ false false)
  · exact .refl s

theorem flagChange_does (s : State) : Does s (flagChange s) := .writes (.stream _ true _)

theorem insertEntry_does (e : GuidePutEntry) (s : State) : Does s (insertEntry e s) := by
  unfold insertEntry
  split
  · exact (Does.writes (.entries _)).trans (flagChange_does _)
  · exact .refl s

theorem putEntry_does (w : StreamWindow) (e : GuidePutEntry) (s : State) : Does s (putEntry w e s).1 := by
  unfold putEntry
  split
  · exact .refl s
  · split
    · exact .refl s
    · split
      · exact .refl s
      · split
        · rename_i old _
          have hput : Does s (s.mapEntry old.slot (putUpdate s e)) :=
            .works (mapEntry_works s old.slot (putUpdate s e) (fun _ => rfl))
          simp only []
          split
          · exact hput.trans (flagChange_does _)
          · exact hput
        · split
          · exact insertEntry_does e s
          · split
            · split
              · exact (Does.writes (.entries _)).trans (insertEntry_does e _)
              · exact .works (setGuideFull_works s true)
            · exact .works (setGuideFull_works s true)

theorem putEntries_does (w : StreamWindow) (es : List GuidePutEntry) (s : State) (c : PutCounts) :
    Does s (putEntries w es s c).1 := by
  induction es generalizing s c with
  | nil => exact .refl s
  | cons e es ih => exact (putEntry_does w e s).trans (ih _ _)

theorem guidePutWork_does (a : GuidePutArgs) (s : State) : Does s (guidePutWork a s).1 := by
  unfold guidePutWork
  split
  · exact .refl s
  · exact putEntries_does _ _ s _

/-! ### Host power -/

theorem greetWork_does (x : Unit) (s : State) : Does s (greetWork x s).1 := by
  have hended := (freeHolds_works s).trans
    (finishEach_works (.outcome .truncated .hostRestart 0) none (restartBookings s) s.freeHolds)
  have htaken := ((Does.works hended).andWrites .greeted).andWorks (takeLates_works _)
  unfold greetWork
  refine Does.andWrites (Does.andWorks ?_ (settle_works _)) .causeTold
  split
  · exact htaken.andWorks (afterFinish_works _ _)
  · exact htaken

theorem restAccepted_does (s : State) : Does s (restAccepted s).1 := by
  have hfreed : Works s (if s.holdsViewer then settle (passIfSet s.freeHolds) else s.freeHolds) := by
    split
    · exact (freeHolds_works s).trans (settle_passIfSet_works _)
    · exact freeHolds_works s
  exact ((Does.works hfreed).andWrites .rested).andWorks
    (((applyTrigger_works _ .rest).trans (recomputeWake_works _)).trans (settle_works _))

theorem restWork_does (x : Unit) (s : State) : Does s (restWork x s).1 := by
  unfold restWork
  exact Does.orRefuse (Does.orRefuse (restAccepted_does s))

/-! ### The stored image -/

theorem storeSaveWork_does (x : Unit) (s : State) : Does s (storeSaveWork x s).1 := by
  unfold storeSaveWork
  exact Does.orRefuse (.writes .beginSave)

theorem eraseDone_does (s : State) : Does s (eraseDone s) := by
  unfold eraseDone
  split
  · exact .writes (.capture _)
  · exact .refl s

theorem writeDone_does (s : State) : Does s (writeDone s) := by
  unfold writeDone
  split
  · exact (Does.writes .writeImage).andWorks ((releaseScan_works _).trans (settle_works _))
  · exact .refl s

/-! ### The outbox, the alert table and the panel -/

theorem popItem_does (s : State) : Does s (popItem s).2 := by
  unfold popItem
  split
  · rename_i h; exact .writes (.directiveTaken _ _ h)
  · rename_i h; exact .writes (.noticeTaken _ _ h)
  · exact .refl s

theorem takeWork_does (d : Dest) (x : Unit) (s : State) : Does s (takeWork d x s).1 := by
  cases d with
  | broadcast => exact .refl s
  | own =>
    unfold takeWork
    simp only []
    split
    · exact (popItem_does s).andWorks (handTaken_works _ _)
    · exact popItem_does s
    · exact popItem_does s

theorem alertAckWork_does (b : Byte) (s : State) : Does s (alertAckWork b s).1 := by
  unfold alertAckWork
  split
  · exact .refl s
  · exact .refl s
  · split
    · exact .refl s
    · rename_i h; exact .writes (.acknowledge _ (Bool.eq_false_iff.mpr h))

theorem alertMaskWork_does (a : AlertMaskArgs) (s : State) : Does s (alertMaskWork a s).1 := by
  unfold alertMaskWork
  split
  · refine Does.orRefuse ?_
    split
    · exact .refl s
    · exact .writes (.mask _ _)
  · exact .refl s

theorem attnEnableWork_does (b : Byte) (s : State) : Does s (attnEnableWork b s).1 := by
  unfold attnEnableWork
  split
  · exact .refl s
  · exact Does.orRefuse (Does.changing (f := fun u => u.setAttn _) (.attn _))

theorem panelStageWork_does (a : PanelStageArgs) (s : State) : Does s (panelStageWork a s).1 := by
  unfold panelStageWork
  refine Does.orRefuse ?_
  split
  · exact Does.changing (f := fun u => u.stage _ _) (.stage _ _)
  · exact .refl s

theorem panelSetWork_does (b : Byte) (s : State) : Does s (panelSetWork b s).1 := by
  unfold panelSetWork
  split
  · exact .refl s
  · exact .works (lines_works s _)

/-! ### Requests -/

theorem reqAddWork_does (a : ReqAddArgs) (s : State) : Does s (reqAddWork a s).1 := by
  unfold reqAddWork
  refine Does.orRefuse ?_
  split
  · exact .refl s
  · refine Does.orRefuse (Does.orRefuse (Does.orRefuse ?_))
    split
    · exact .refl s
    · exact (Does.changing (.requests _)).andWorks (settle_deriveAndPass_works _)

theorem editAccepted_does (b : ReqEditBody) (r : Request) (s : State) : Does s (editAccepted b r s).1 := by
  have hput : Does s (s.changing fun u => u.mapRequest r.number fun _ => editedRequest b r) :=
    Does.changing (.requests _)
  unfold editAccepted
  simp only []
  split
  · exact .refl s
  · simp only [accept]
    split
    · exact hput.andWorks (settle_deriveAndPass_works _)
    · exact hput

theorem reqEditWork_does (a : ReqEditArgs) (s : State) : Does s (reqEditWork a s).1 := by
  unfold reqEditWork
  refine Does.orRefuse (Does.orRefuse ?_)
  split
  · exact .refl s
  · exact Does.orRefuse (Does.orRefuse (Does.orRefuse (Does.orRefuse (Does.orRefuse (editAccepted_does _ _ s)))))

theorem reqReadWork_does (a : ReqReadArgs) (s : State) : Does s (reqReadWork a s).1 := by
  unfold reqReadWork
  refine Does.orRefuse ?_
  split
  · exact .refl s
  · simp only []
    split <;> exact .refl s

/-! ### Services, tuners and viewer holds -/

theorem changeServices_does {f : State → State} {s : State} (h : OwnWrite s (f s)) : Does s (changeServices f s) :=
  (Does.changing h).andWorks (settle_deriveAndPass_works _)

theorem svcPutWork_does (a : SvcPutArgs) (s : State) : Does s (svcPutWork a s).1 := by
  unfold svcPutWork
  refine Does.orRefuse (Does.orRefuse ?_)
  split
  · exact Does.orRefuse (changeServices_does (.services _))
  · refine Does.orRefuse ?_
    split
    · exact .refl s
    · exact changeServices_does (.services _)

theorem svcDropWork_does (w : Word16) (s : State) : Does s (svcDropWork w s).1 := by
  unfold svcDropWork
  exact Does.orRefuse (Does.orRefuse (Does.orRefuse (Does.orRefuse (changeServices_does (.services _)))))

theorem svcReadWork_does (w : Word16) (s : State) : Does s (svcReadWork w s).1 := by
  unfold svcReadWork
  exact Does.orRefuse (.refl s)

theorem tunerCfgJudged_does (t : TunerId) (enabled : Bool) (mask : BitVec 4) (s : State) :
    Does s (tunerCfgJudged t enabled mask s).1 := by
  unfold tunerCfgJudged
  refine Does.orRefuse ?_
  split
  · exact .refl s
  · exact (Does.changing (.configure t enabled mask)).andWorks (settle_passIfSet_works _)

theorem tunerCfgWork_does (a : TunerCfgArgs) (s : State) : Does s (tunerCfgWork a s).1 := by
  unfold tunerCfgWork
  refine Does.orRefuse ?_
  split
  · exact tunerCfgJudged_does _ _ _ s
  · exact .refl s

theorem viewJudged_does (t : TunerId) (v : Service) {s : State} (h : s.clockSet = true) :
    Does s (viewJudged t v s).1 := by
  unfold viewJudged
  refine Does.orRefuse ?_
  split
  · exact .refl s
  · exact (Does.writes (.view t _ h)).andWorks (settle_passIfSet_works _)

theorem viewOnWork_does (a : ViewOnArgs) (s : State) : Does s (viewOnWork a s).1 := by
  unfold viewOnWork
  split
  · exact .refl s
  · rename_i h
    split
    · exact .refl s
    · refine Does.orRefuse ?_
      split
      · exact .refl s
      · exact viewJudged_does _ _ (by simpa using h)

/-! ### The step -/

/-- Every command answers a state that work and its owner's writes have made. -/
theorem exec_does (i : Instr) (s : State) : ∃ t, exec i s = .next t ∧ Does s t := by
  have expired := fun d => Does.works (expire_works d s)
  cases i with
  | powerOn p => exact ⟨_, rfl, powerUp_does p s⟩
  | resetPin e => exact ⟨_, rfl, resetPinWork_does e s⟩
  | powerLoss => exact ⟨_, rfl, .writes (.stop false s.resetLow rfl)⟩
  | presentAdvance => exact ⟨_, rfl, advance_does s⟩
  | assemblyTimeout lead => exact ⟨_, rfl, onLine_does s _⟩
  | deselection lead x => exact ⟨_, rfl, onLine_does s _⟩
  | impossibleLength d len => exact ⟨_, rfl, onLine_does s _⟩
  | replyComplete => exact ⟨_, rfl, onLine_does s _⟩
  | badCheckMessage d => exact ⟨_, rfl, message_does (fun _ u => .refl u) _ d _ s⟩
  | unknownKindMessage d => exact ⟨_, rfl, message_does (fun _ u => .refl u) _ d _ s⟩
  | greet d b => exact ⟨_, rfl, message_does greetWork_does _ d b s⟩
  | rest d b => exact ⟨_, rfl, message_does restWork_does _ d b s⟩
  | clock d b => exact ⟨_, rfl, message_does clockWork_does _ d b s⟩
  | query d b => exact ⟨_, rfl, message_does (queryWork_does d) _ d b s⟩
  | paramSet d b => exact ⟨_, rfl, message_does paramSetWork_does _ d b s⟩
  | paramGet d b => exact ⟨_, rfl, message_does paramGetWork_does _ d b s⟩
  | reset d b => exact ⟨_, rfl, resetMessage_does d b s⟩
  | svcPut d b => exact ⟨_, rfl, message_does svcPutWork_does _ d b s⟩
  | svcDrop d b => exact ⟨_, rfl, message_does svcDropWork_does _ d b s⟩
  | svcRead d b => exact ⟨_, rfl, message_does svcReadWork_does _ d b s⟩
  | tunerCfg d b => exact ⟨_, rfl, message_does tunerCfgWork_does _ d b s⟩
  | viewOn d b => exact ⟨_, rfl, message_does viewOnWork_does _ d b s⟩
  | viewOff d b => exact ⟨_, rfl, message_does (fun a u => .works (viewOffWork_works a u)) _ d b s⟩
  | guideOpen d b => exact ⟨_, rfl, message_does guideOpenWork_does _ d b s⟩
  | guidePut d b => exact ⟨_, rfl, message_does guidePutWork_does _ d b s⟩
  | guideFlush d b => exact ⟨_, rfl, message_does (fun a u => .works (guideFlushWork_works a u)) _ d b s⟩
  | running d b => exact ⟨_, rfl, message_does (fun a u => .works (runningWork_works a u)) _ d b s⟩
  | reqAdd d b => exact ⟨_, rfl, message_does reqAddWork_does _ d b s⟩
  | reqEdit d b => exact ⟨_, rfl, message_does reqEditWork_does _ d b s⟩
  | reqDrop d b => exact ⟨_, rfl, message_does (fun a u => .works (reqDropWork_works a u)) _ d b s⟩
  | reqPause d b => exact ⟨_, rfl, message_does (fun a u => .works (reqPauseWork_works a u)) _ d b s⟩
  | reqResume d b => exact ⟨_, rfl, message_does (fun a u => .works (reqResumeWork_works a u)) _ d b s⟩
  | reqRead d b => exact ⟨_, rfl, message_does reqReadWork_does _ d b s⟩
  | bookRead d b => exact ⟨_, rfl, message_does (fun _ u => .refl u) _ d b s⟩
  | bookCancel d b => exact ⟨_, rfl, message_does (fun a u => .works (bookCancelWork_works a u)) _ d b s⟩
  | bookStop d b => exact ⟨_, rfl, message_does (fun a u => .works (bookStopWork_works a u)) _ d b s⟩
  | space d b => exact ⟨_, rfl, message_does spaceWork_does _ d b s⟩
  | hold d b => exact ⟨_, rfl, message_does holdWork_does _ d b s⟩
  | take d b => exact ⟨_, rfl, message_does (takeWork_does d) _ d b s⟩
  | confirm d b => exact ⟨_, rfl, message_does (fun a u => .works (confirmMessage_works a u)) _ d b s⟩
  | alertAck d b => exact ⟨_, rfl, message_does alertAckWork_does _ d b s⟩
  | alertMask d b => exact ⟨_, rfl, message_does alertMaskWork_does _ d b s⟩
  | attnEnable d b => exact ⟨_, rfl, message_does attnEnableWork_does _ d b s⟩
  | panelStage d b => exact ⟨_, rfl, message_does panelStageWork_does _ d b s⟩
  | panelSet d b => exact ⟨_, rfl, message_does panelSetWork_does _ d b s⟩
  | storeSave d b => exact ⟨_, rfl, message_does storeSaveWork_does _ d b s⟩
  | storeQuery d b => exact ⟨_, rfl, message_does (fun _ u => .refl u) _ d b s⟩
  | eraseComplete => exact ⟨_, rfl, eraseDone_does s⟩
  | writeComplete => exact ⟨_, rfl, writeDone_does s⟩
  | agingScan => exact ⟨_, rfl, expired .scan⟩
  | windowStart n => exact ⟨_, rfl, expired (.windowStart n)⟩
  | lateLimit n => exact ⟨_, rfl, expired (.lateLimit n)⟩
  | takeDeadline n => exact ⟨_, rfl, expired (.takeDeadline n)⟩
  | confirmTimer n => exact ⟨_, rfl, expired (.confirmTimer n)⟩
  | provisionalEnd n => exact ⟨_, rfl, expired (.provisionalEnd n)⟩
  | wakeExpiry => exact ⟨_, rfl, expired .wake⟩
  | wakeTimeout => exact ⟨_, rfl, expired .wakeTimer⟩
  | warningExpiry t => exact ⟨_, rfl, expired (.warning t)⟩

theorem step_does {s t : State} (h : step s = .next t) : Does s t := by
  unfold step at h
  split at h
  · cases h; exact .refl s
  · rename_i i rest _
    obtain ⟨u, hu, hdoes⟩ := exec_does i { s with pending := rest }
    rw [hu] at h
    cases h
    exact (Does.writes (.queue rest)).trans hdoes

end Sys2Proof.Machine

/-! PROOFS. The alert table (R160 to R166): its reported values and its sources in service. -/

namespace Sys2Proof.Machine

/-! ### Level sources in service (R162) -/

/-- While the part runs, the unmasked level sources of `p` whose condition is true are in service. -/
def InServiceIn (p : LevelSource → Prop) (s : State) : Prop :=
  s.running = true → ∀ l, p l → s.alerts.condition l = true → s.alerts.masks.level.get l = false →
    s.alerts.inService.get l = true

theorem levelsOk_iff (s : State) : LevelsOk s ↔ InServiceIn (fun _ => True) s :=
  ⟨fun h r l _ => h r l, fun h r l => h r l trivial⟩

/-- A sampling adds its source to those in service where they must be. -/
theorem sample_inServiceIn {p q : LevelSource → Prop} {s : State} {l : LevelSource} (h : InServiceIn p s)
    (hq : ∀ m, q m → m = l ∨ p m) : InServiceIn q (s.sample l) := by
  intro hr m hm hc hk
  have e := sample_eq s l
  have hr' : s.running = true := by rw [e] at hr; exact hr
  have hc' : s.alerts.condition m = true := by rw [e] at hc; simpa [condition_inService] using hc
  have hk' : s.alerts.masks.level.get m = false := by rw [e] at hk; exact hk
  rw [sample_inService]
  rcases hq m hm with rfl | hp
  · cases hin : s.alerts.inService.get m <;> simp [State.samplingQueues, hc', hk', hin]
  · rw [h hr' m hp hc' hk', Bool.true_or]

/-- Sampling all four sources leaves every source as it must be, whatever stood before. -/
theorem sampleAll_levels (s : State) : LevelsOk s.sampleAll := by
  have hnone : InServiceIn (fun _ => False) s := fun _ _ h => h.elim
  have hclash := sample_inServiceIn (q := fun m => m = .clashPresent) hnone fun _ h => .inl h
  have hspace := sample_inServiceIn (q := fun m => m = .spaceShort ∨ m = .clashPresent) hclash fun _ h => h
  have hcapacity := sample_inServiceIn (q := fun m => m = .capacity ∨ m = .spaceShort ∨ m = .clashPresent) hspace
    fun _ h => h
  exact (levelsOk_iff _).mpr (sample_inServiceIn hcapacity fun m _ => by cases m <;> simp)

theorem setImageState_inServiceIn {p : LevelSource → Prop} {s : State} (st : ImageState) (h : InServiceIn p s) :
    InServiceIn p (s.setImageState st) := by
  unfold State.setImageState
  split
  · exact h
  · refine sample_inServiceIn (p := fun m => p m ∧ m ≠ .storeStale) ?_ fun m hm =>
      (em (m = .storeStale)).imp_right fun hne => ⟨hm, hne⟩
    exact fun hr m ⟨hm, hne⟩ hc hk => h hr m hm ((condition_image _ st m hne).symm.trans hc) hk

theorem noteChange_inServiceIn {p : LevelSource → Prop} {s : State} (c : StoredContent) (h : InServiceIn p s) :
    InServiceIn p (State.noteChange c s) := by
  unfold State.noteChange
  split
  · exact h
  · unfold State.markChanged
    split
    · exact setImageState_inServiceIn _ h
    all_goals exact h

/-! ### The owners' writes of the alert table -/

/-- The alert table is true to its owners and its sources are in service, where both held before. -/
structure KeepsAlerts (s t : State) : Prop where
  reports : ReportsOk s → ReportsOk t
  levels : LevelsOk s → LevelsOk t

/-- Two states that agree on all that the alert table and its owners say. -/
structure SameAlerts (s t : State) : Prop where
  alerts : t.alerts = s.alerts := by rfl
  full : t.guide.full = s.guide.full := by rfl
  listShort : t.plan.listShort = s.plan.listShort := by rfl
  image : t.image.state = s.image.state := by rfl
  running : t.running = s.running := by rfl

theorem SameAlerts.keepsAlerts {s t : State} (h : SameAlerts s t) : KeepsAlerts s t where
  reports k := ⟨by rw [h.alerts, h.full]; exact k.guideFull, by rw [h.alerts, h.listShort]; exact k.listShort,
    by rw [h.alerts, h.image]; exact k.image⟩
  levels k := by unfold LevelsOk; rw [h.alerts, h.running]; exact k

/-- The image state written and reported keeps the table true (R181). -/
theorem setImageState_keepsAlerts (s : State) (st : ImageState) : KeepsAlerts s (s.setImageState st) where
  reports k := by
    have himage := setImageState_image s st k.image
    rw [setImageState_eq] at himage ⊢
    exact ⟨k.guideFull, k.listShort, himage⟩
  levels := setImageState_levels s st

/-- The Image Store's record changed but for its state, and then its state written. -/
theorem writeState_keepsAlerts (s : State) (x : ImageStore) (st : ImageState)
    (h : x.state = s.image.state := by rfl) :
    KeepsAlerts s (State.setImageState { s with image := x } st) :=
  have hrecord : KeepsAlerts s { s with image := x } := SameAlerts.keepsAlerts { image := h }
  have hstate := setImageState_keepsAlerts { s with image := x } st
  ⟨hstate.reports ∘ hrecord.reports, hstate.levels ∘ hrecord.levels⟩

/-- Sampling changes nothing that is reported. -/
theorem sampleAll_keepsAlerts {s t : State} (h : ReportsOk s → ReportsOk t) : KeepsAlerts s t.sampleAll where
  reports k := (sampleAll_works t).reports (h k)
  levels _ := sampleAll_levels t

theorem start_keepsAlerts (s : State) (p : Straps) : KeepsAlerts s (s.start p) :=
  sampleAll_keepsAlerts fun _ => by
    unfold State.loadImage
    split <;> exact ⟨rfl, rfl, rfl⟩

theorem blank_keepsAlerts (s : State) {powered resetLow : Bool} (h : (powered && !resetLow) = false) :
    KeepsAlerts s (s.blank powered resetLow) where
  reports _ := ⟨rfl, rfl, rfl⟩
  levels _ hr := absurd (hr.symm.trans h) (by decide)

theorem withTuner_keepsAlerts (s : State) (t : TunerId) (x : Tuner) : KeepsAlerts s (s.withTuner t x) := by
  cases t <;> exact SameAlerts.keepsAlerts {}

/-- The reset's clearing puts both flags and their reported values to false together. -/
theorem resetCleared_keepsAlerts (defaults : Bool) (s : State) : KeepsAlerts s (resetCleared defaults s) := by
  have hcleared : ReportsOk s → ReportsOk (resetOutbox (resetTables s)) := fun k => ⟨rfl, rfl, k.image⟩
  refine sampleAll_keepsAlerts fun k => ?_
  cases defaults with
  | false => exact hcleared k
  | true =>
    have hmarked := (markChanged_works ((resetOutbox (resetTables s)).withContent StoredContent.defaults)).reports
      ⟨(hcleared k).guideFull, (hcleared k).listShort, (hcleared k).image⟩
    exact ⟨hmarked.guideFull, hmarked.listShort, hmarked.image⟩

/-- An acknowledged source leaves service and is sampled, so it comes back where it must (R165). -/
theorem acknowledge_keepsAlerts (l : LevelSource) (s : State) : KeepsAlerts s (acknowledge l s) where
  reports k := (sample_works _ l).reports ⟨k.guideFull, k.listShort, k.image⟩
  levels k := sample_levels _ l fun hr m hm hc hk => by
    rw [LevelFlags.get_put, if_neg hm]
    exact k hr m ((condition_inService _ _ m).symm.trans hc) hk

/-- A changed mask uncovers at most its own level source, which is then sampled (R164). -/
theorem changeMask_keepsAlerts (x : Source) (v : Bool) (s : State) : KeepsAlerts s (changeMask x v s) := by
  have hreports : ReportsOk s → ReportsOk (s.changing (fun u => u.setMask x v)) := fun k =>
    (noteChange_works _ _).reports ⟨k.guideFull, k.listShort, k.image⟩
  cases x with
  | edge e => exact ⟨hreports, fun k => (noteChange_works _ _).levels k⟩
  | level l =>
    have hothers : LevelsOk s →
        InServiceIn (fun m => m = l → v = true) (s.changing (fun u => u.setMask (.level l) v)) := by
      refine fun k => noteChange_inServiceIn _ fun hr m hm hc hk => ?_
      have hmask : (s.alerts.masks.level.put l v).get m = false := hk
      rw [LevelFlags.get_put] at hmask
      split at hmask
      · rename_i he; exact absurd (hm he) (by rw [hmask]; decide)
      · exact k hr m hc hmask
    cases v with
    | true => exact ⟨hreports, fun k => (levelsOk_iff _).mpr fun hr m _ => hothers k hr m fun _ => rfl⟩
    | false => exact ⟨fun k => (sample_works _ l).reports (hreports k), fun k => (levelsOk_iff _).mpr
        (sample_inServiceIn (hothers k) fun m _ => (em (m = l)).imp_right fun hne he => absurd he hne)⟩

/-- No write of an owner leaves the alert table behind. -/
theorem OwnWrite.keepsAlerts {s t : State} (h : OwnWrite s t) : KeepsAlerts s t := by
  cases h with
  | start p => exact start_keepsAlerts s p
  | stop powered resetLow h => exact blank_keepsAlerts s h
  | configure t enabled mask => exact withTuner_keepsAlerts s t _
  | view t h set => exact withTuner_keepsAlerts s t _
  | acknowledge l h => exact acknowledge_keepsAlerts l s
  | mask x v => exact changeMask_keepsAlerts x v s
  | beginSave => exact writeState_keepsAlerts s _ _
  | capture i => exact writeState_keepsAlerts s _ _
  | writeImage => exact writeState_keepsAlerts s _ _
  | cleared defaults => exact resetCleared_keepsAlerts defaults s
  | _ => exact SameAlerts.keepsAlerts {}

/-- Settles O59: a step is made of work, which keeps the table, and of the owners' writes (`OwnWrite.keepsAlerts`). -/
theorem stepKeepsTheAlertTable : Obligations.StepKeepsTheAlertTable :=
  ⟨fun _ _ k h => (step_does h).keeps (fun _ _ hw => hw.reports) (fun _ _ hw => hw.keepsAlerts.reports) k,
    fun _ _ k h => (step_does h).keeps (fun _ _ hw => hw.levels) (fun _ _ hw => hw.keepsAlerts.levels) k⟩

end Sys2Proof.Machine

/-! PROOFS. The guide store: its full flag, entries leaving it, and the aging scan (R47, R48, R50). -/

namespace Sys2Proof.Machine

/-! ### The guide-full flag (R50) -/

/-- The guide-full flag and its reported value written, before CAPACITY is sampled. -/
def fullMarked (s : State) (v : Bool) : State :=
  { s with guide := { s.guide with full := v }, alerts := { s.alerts with guideFull := v } }

section
variable {s t : State}

theorem joinNotice_outbox_congr (h : t.outbox = s.outbox) (n : Notice) :
    (t.joinNotice n).outbox = (s.joinNotice n).outbox := by
  unfold State.joinNotice
  rw [h]
  split
  · rfl
  · split
    · rfl
    · exact h

/-- A sampling reads and writes the queue and the alert table alone (R162). -/
theorem sample_congr (ho : t.outbox = s.outbox) (ha : t.alerts = s.alerts) (l : LevelSource) :
    t.sample l = { t with outbox := (s.sample l).outbox, alerts := (s.sample l).alerts } := by
  have hqueues : t.samplingQueues l = s.samplingQueues l := by unfold State.samplingQueues; rw [ha]
  unfold State.sample
  rw [hqueues, ha]
  split
  · have hjoin := joinNotice_outbox_congr ho (s.alerts.notice l)
    rw [← hjoin, joinNotice_eq]
  · rw [← ho, ← ha]

/-- Writing the guide-full flag reads and writes the flag, the queue and the alert table alone. -/
theorem setGuideFull_congr (ho : t.outbox = s.outbox) (ha : t.alerts = s.alerts) (hf : t.guide.full = s.guide.full)
    (v : Bool) : t.setGuideFull v = { t with
      outbox := (s.setGuideFull v).outbox
      alerts := (s.setGuideFull v).alerts
      guide := { t.guide with full := v } } := by
  unfold State.setGuideFull
  rw [hf]
  split
  · rename_i h
    rw [← ho, ← ha, ← h, ← hf]
  · have hboth : (fullMarked t v).alerts = (fullMarked s v).alerts := by unfold fullMarked; rw [ha]
    exact sample_congr (s := fullMarked s v) (t := fullMarked t v) ho hboth .capacity

end

section
variable (s : State) (v : Bool)

theorem setGuideFull_eq : s.setGuideFull v = { s with
    outbox := (s.setGuideFull v).outbox
    alerts := (s.setGuideFull v).alerts
    guide := { s.guide with full := v } } := setGuideFull_congr rfl rfl rfl v

theorem setGuideFull_withLine (x : LineInterface) :
    State.setGuideFull { s with line := x } v = { s.setGuideFull v with line := x } := by
  rw [setGuideFull_congr (s := s) (t := { s with line := x }) rfl rfl rfl]
  conv_rhs => rw [setGuideFull_eq]

theorem setGuideFull_withGuide {g : GuideStore} (h : g.full = s.guide.full) :
    State.setGuideFull { s with guide := g } v = { s.setGuideFull v with guide := { g with full := v } } := by
  rw [setGuideFull_congr (s := s) (t := { s with guide := g }) rfl rfl h]
  conv_rhs => rw [setGuideFull_eq]

end

/-! ### Entries leaving the store -/

section
variable (s : State) (keep : GuideEntry → Bool)

theorem dropEntries_few (h : (s.guide.entries.filter keep).length < 1200) :
    s.dropEntries keep = (s.withEntries (s.guide.entries.filter keep)).setGuideFull false := if_pos h

theorem dropEntries_many (h : ¬ (s.guide.entries.filter keep).length < 1200) :
    s.dropEntries keep = s.withEntries (s.guide.entries.filter keep) := if_neg h

/-- Entries that leave touch the entries and the guide-full flag, with what the flag reports. -/
theorem dropEntries_eq : s.dropEntries keep = { s with
    outbox := (s.dropEntries keep).outbox
    alerts := (s.dropEntries keep).alerts
    guide := { s.guide with
      entries := s.guide.entries.filter keep
      full := s.guide.full && decide (1200 ≤ (s.guide.entries.filter keep).length) } } := by
  by_cases h : (s.guide.entries.filter keep).length < 1200
  · rw [decide_eq_false (Nat.not_le.mpr h), Bool.and_false, dropEntries_few s keep h]
    exact setGuideFull_eq _ _
  · rw [decide_eq_true (Nat.not_lt.mp h), Bool.and_true, dropEntries_many s keep h]
    rfl

theorem dropEntries_guide : (s.dropEntries keep).guide = { s.guide with
    entries := s.guide.entries.filter keep
    full := s.guide.full && decide (1200 ≤ (s.guide.entries.filter keep).length) } := by rw [dropEntries_eq]

theorem dropEntries_plan : (s.dropEntries keep).plan = s.plan := by rw [dropEntries_eq]

theorem dropEntries_requests : (s.dropEntries keep).requests = s.requests := by rw [dropEntries_eq]

theorem dropEntries_image : (s.dropEntries keep).image = s.image := by rw [dropEntries_eq]

end

/-! ### The aging scan (R48) -/

/-- What a scan removes, its three grounds in the order of the claim's words. -/
theorem agedOut_eq (s : State) (e : GuideEntry) : agedOut s e
    = (e.pins == 0 && (decide (3600 < s.present - (e.start + e.duration)) || e.withdrawn || isStale s e)) :=
  congrArg (e.pins == 0 && ·) (Bool.or_right_comm _ _ _)

theorem isStale_eq_false {s : State} {e : GuideEntry} (h : isStale s e = false) {r : Nat}
    (hr : e.refreshedAt = some r) : s.present - r ≤ s.settings.stalePeriod := by
  rw [isStale, hr] at h
  exact Nat.not_lt.mp (of_decide_eq_false h)

/-- An entry that a scan leaves is pinned, or is neither old, withdrawn nor stale. -/
theorem agedOut_eq_false {s : State} {e : GuideEntry} (h : agedOut s e = false) : e.pins ≠ 0
    ∨ (s.present - (e.start + e.duration) ≤ 3600 ∧ e.withdrawn = false ∧ isStale s e = false) := by
  rw [agedOut_eq, Bool.and_eq_false_iff, Bool.or_eq_false_iff, Bool.or_eq_false_iff, and_assoc] at h
  exact h.imp (fun hp => by simpa using hp) fun ⟨hended, hrest⟩ => ⟨Nat.not_lt.mp (of_decide_eq_false hended), hrest⟩

/-- The entries a scan leaves, with the next scan set. -/
def scanned (s : State) : State :=
  { s with guide := { s.guide with
    entries := s.guide.entries.filter (fun e => !agedOut s e)
    nextScan := some (s.present + 900) } }

/-- A scan carried out clears the guide-full flag where fewer than 1,200 entries remain (R50). -/
theorem runScan_eq (s : State) : runScan s =
    if (scanned s).guide.entries.length < 1200 then (scanned s).setGuideFull false else scanned s := by
  by_cases h : (s.guide.entries.filter (fun e => !agedOut s e)).length < 1200
  · have hentries := setGuideFull_withGuide s false
      (g := { s.guide with entries := s.guide.entries.filter (fun e => !agedOut s e) }) rfl
    have hscanned := setGuideFull_withGuide s false (g := (scanned s).guide) rfl
    refine Eq.trans ?_ (hscanned.symm.trans (if_pos h).symm)
    rw [runScan, dropEntries_few _ _ h]
    exact congrArg (fun u : State => { u with guide := { u.guide with nextScan := some (s.present + 900) } }) hentries
  · rw [runScan, dropEntries_many _ _ h]
    exact (if_neg h).symm

theorem exec_agingScan {s : State} {x : Nat} (hr : s.running = true) (hx : s.guide.nextScan = some x)
    (hle : x ≤ s.present) : exec .agingScan s = .next (settle (scanWork s)) := by
  have hdue : isDue .scan s = true := by rw [isDue, hx]; exact decide_eq_true hle
  have htaken : takeDue .scan s = scanWork s := if_pos hdue
  show Host.Outcome.next (expire .scan s) = _
  rw [expire, if_pos hr, htaken]

/-- Settles O24: an entry left in the end has the slot of one that the scan left, and the derivation and the pass touch
neither what stands nor the scan's instant. -/
theorem agingScanRemovesTheOld : Obligations.AgingScanRemovesTheOld := by
  intro s x hr ha hx hle
  have hexec := exec_agingScan hr hx hle
  refine ⟨fun hopen => ?_, fun hclosed hsave => ?_, fun hclosed hidle => ?_⟩
  · rw [hexec, scanWork, if_pos hopen, settle_of_agenda]
    exact ha
  · rw [hexec, scanWork, hclosed, if_neg (by decide), if_pos hsave, settle_of_agenda]
    exact ha
  · intro old kept w v t
    have hkept : kept = s.guide.entries.filter (fun e => !agedOut s e) := by
      refine congrArg (fun f => List.filter f s.guide.entries) (funext fun e => ?_)
      rw [agedOut_eq]; rfl
    have hw : scanned { s with guide := { s.guide with nextScan := none } } = w :=
      congrArg (fun es => { s with guide := { s.guide with
        entries := es, nextScan := some (s.present + 900) } }) hkept.symm
    have hscan : runScan { s with guide := { s.guide with nextScan := none } } = v := by rw [runScan_eq, hw]
    have hworks : Works v t := settle_deriveAndPass_works v
    have hwork : scanWork s = deriveAndPass v := by
      rw [scanWork, hclosed, if_neg (by decide), hidle, if_neg (by decide), scanNow, hscan]
    have hv : v.standing = s.standing := by
      rw [← hscan]; exact (runScan_works _).standing
    have hnext : v.guide.nextScan = some (s.present + 900) := by rw [← hscan]; rfl
    have hslots : v.guide.entries = kept := by
      rw [← hscan, hkept]
      exact congrArg GuideStore.entries (dropEntries_guide _ _)
    refine ⟨by rw [hexec, hwork], hworks.standing.trans hv, ?_, fun e he => ?_⟩
    · have hpresent : v.present = s.present := congrArg Standing.present hv
      exact (hworks.scan _ hnext (by omega)).elim id fun h => by rw [h, hpresent]; rfl
    · obtain ⟨e', he', hslot⟩ := List.mem_map.mp (hworks.slots.subset (List.mem_map_of_mem he))
      rw [hslots, hkept, List.mem_filter, Bool.not_eq_true'] at he'
      exact ⟨e', he'.1, hslot, (agedOut_eq_false he'.2).imp_right fun ⟨hended, hin, hstale⟩ =>
        ⟨hended, hin, fun r hr => isStale_eq_false hstale hr⟩⟩

end Sys2Proof.Machine

/-! PROOFS. GUIDE_PUT (R34 to R38). -/

namespace Sys2Proof.Machine

/-! ### The tests of an entry (R35) -/

theorem putInvalid_iff (e : GuidePutEntry) : putInvalid e = true ↔ e.eventId = 0 ∨ e.duration = 0
    ∨ 86400 < e.duration.toNat ∨ 4294967295 < e.start.toNat + e.duration.toNat ∨ e.series = some 0
    ∨ e.episode = some 0 := by
  simp only [putInvalid, Bool.or_eq_true, beq_iff_eq, decide_eq_true_eq, or_assoc, Config.maxEntryDuration,
    Config.maxTime, gt_iff_lt]

theorem covers_iff (w : StreamWindow) (c t : Nat) :
    w.covers c t = true ↔ w.first ≤ c ∧ c ≤ w.last ∧ w.start ≤ t ∧ t < w.stop := by
  simp only [StreamWindow.covers, Bool.and_eq_true, decide_eq_true_eq, and_assoc]

/-! ### A free slot (R29) -/

/-- The number found free is the lowest: those before it are taken. -/
theorem lowestFree_least {taken : List Nat} {fuel n k : Nat} (h : lowestFree taken fuel n = some k) :
    ∀ j, n ≤ j → j < k → j ∈ taken := by
  induction fuel generalizing n with
  | zero => cases h
  | succ fuel ih =>
    intro j hlo hhi
    by_cases hn : taken.contains n = true
    · rw [lowestFree, if_pos hn] at h
      rcases hlo.eq_or_lt with rfl | hlt
      · simpa using hn
      · exact ih h j hlt hhi
    · rw [lowestFree, if_neg hn] at h
      cases h
      omega

/-- Where none is found free, every number searched is taken. -/
theorem lowestFree_eq_none {taken : List Nat} {fuel n : Nat} (h : lowestFree taken fuel n = none) :
    ∀ j, n ≤ j → j < n + fuel → j ∈ taken := by
  induction fuel generalizing n with
  | zero => intro j hlo hhi; omega
  | succ fuel ih =>
    intro j hlo hhi
    by_cases hn : taken.contains n = true
    · rw [lowestFree, if_pos hn] at h
      rcases hlo.eq_or_lt with rfl | hlt
      · simpa using hn
      · exact ih h j hlt (by omega)
    · rw [lowestFree, if_neg hn] at h
      cases h

/-- A list shorter than the search leaves a number free. -/
theorem lowestFree_isSome {taken : List Nat} {fuel : Nat} (h : taken.length < fuel) :
    ∃ k, lowestFree taken fuel 0 = some k := by
  cases hfree : lowestFree taken fuel 0 with
  | some k => exact ⟨k, rfl⟩
  | none =>
    have hall : List.range fuel ⊆ taken := fun j hj =>
      lowestFree_eq_none hfree j (Nat.zero_le _) (by simpa using hj)
    have hlen := (List.nodup_range.subperm hall).length_le
    rw [List.length_range] at hlen
    omega

/-- An entry put into the lowest free slot sets the change flag (R37). -/
theorem insertEntry_eq {s : State} {e : GuidePutEntry} {k : Nat}
    (h : lowestFree (s.guide.entries.map GuideEntry.slot) 1200 0 = some k) :
    insertEntry e s = { s with guide := { s.guide with
      entries := insertBy slotBefore (putNew s e k) s.guide.entries, change := true } } := by
  have hfree : lowestFree (s.guide.entries.map GuideEntry.slot) Config.maxEntries 0 = some k := h
  rw [insertEntry, hfree]; rfl

/-! ### The entry that gives way (R38) -/

theorem laterAiring_iff (e f : GuideEntry) : laterAiring e f = true ↔ f.start < e.start ∨ (f.start = e.start
    ∧ (f.channel < e.channel ∨ (f.channel = e.channel ∧ f.eventId < e.eventId))) := by
  simp only [laterAiring, Bool.or_eq_true, Bool.and_eq_true, decide_eq_true_eq, beq_iff_eq]

theorem laterAiring_eq_false {e f : GuideEntry} : laterAiring e f = false ↔ e.start < f.start ∨ (e.start = f.start
    ∧ (e.channel < f.channel ∨ (e.channel = f.channel ∧ e.eventId ≤ f.eventId))) := by
  rw [Bool.eq_false_iff, Ne, laterAiring_iff]
  omega

/-- The entry that would give way is unpinned, and no unpinned entry airs later. -/
theorem evictable_spec {s : State} {x : GuideEntry} (h : evictable s = some x) :
    x ∈ s.guide.entries ∧ x.pins = 0 ∧ ∀ y ∈ s.guide.entries, y.pins = 0 → laterAiring y x = false := by
  obtain ⟨hmem, hlast⟩ := firstBy_spec (fun e => laterAiring_eq_false.mpr (by omega))
    (fun e f hef => laterAiring_eq_false.mpr (by rw [laterAiring_iff] at hef; omega))
    (fun e f g hef hfg => laterAiring_eq_false.mpr (by rw [laterAiring_eq_false] at hef hfg; omega)) h
  rw [List.mem_filter, beq_iff_eq] at hmem
  exact ⟨hmem.1, hmem.2, fun y hy hp => hlast y (List.mem_filter.mpr ⟨hy, beq_iff_eq.mpr hp⟩)⟩

theorem evictable_eq_none {s : State} (h : evictable s = none) : ∀ y ∈ s.guide.entries, y.pins ≠ 0 := by
  intro y hy hp
  have hnil := List.filter_eq_nil_iff.mp ((firstBy_eq_none _ _).mp h) y hy
  exact hnil (beq_iff_eq.mpr hp)

/-! ### One entry (R35 to R38) -/

/-- An entry passes the tests of R35. -/
structure Passes (w : StreamWindow) (e : GuidePutEntry) (s : State) : Prop where
  valid : putInvalid e = false
  inside : w.covers e.channel.toNat e.start.toNat = true
  known : s.hasService e.channel.toNat = true

/-- An entry in place updated by a carried one (R36). -/
def putInPlace (e : GuidePutEntry) (old : GuideEntry) (s : State) : State :=
  { s with guide := { s.guide with
    entries := s.guide.entries.map (fun x => if x.slot == old.slot then putUpdate s e x else x)
    change := s.guide.change || putChanges e old } }

/-- What a carried entry comes to, by the tests of R35 and what the store holds. -/
inductive Puts (w : StreamWindow) (e : GuidePutEntry) (s : State) : State × PutCount → Prop
  | invalid (h : putInvalid e = true) : Puts w e s (s, .invalid)
  | outside (h : putInvalid e = false) (k : w.covers e.channel.toNat e.start.toNat = false) : Puts w e s (s, .outside)
  | unknown (h : putInvalid e = false) (k : w.covers e.channel.toNat e.start.toNat = true)
      (l : s.hasService e.channel.toNat = false) : Puts w e s (s, .unknown)
  | updated (old : GuideEntry) (h : Passes w e s) (k : s.entry? e.channel.toNat e.eventId.toNat = some old) :
      Puts w e s (putInPlace e old s, .stored)
  | inserted (h : Passes w e s) (k : s.entry? e.channel.toNat e.eventId.toNat = none)
      (l : s.guide.entries.length < 1200) : Puts w e s (insertEntry e s, .stored)
  | replaced (x : GuideEntry) (h : Passes w e s) (k : s.entry? e.channel.toNat e.eventId.toNat = none)
      (l : ¬ s.guide.entries.length < 1200) (m : evictable s = some x) (n : e.start.toNat < x.start) :
      Puts w e s (insertEntry e (s.withEntries (s.guide.entries.filter (fun y => y.slot != x.slot))), .stored)
  | discarded (h : Passes w e s) (k : s.entry? e.channel.toNat e.eventId.toNat = none)
      (l : ¬ s.guide.entries.length < 1200) (m : ∀ x, evictable s = some x → x.start ≤ e.start.toNat) :
      Puts w e s (s.setGuideFull true, .discarded)

section
variable {w : StreamWindow} {e : GuidePutEntry} {s : State}

theorem Puts.eq {r : State × PutCount} (h : Puts w e s r) : putEntry w e s = r := by
  unfold putEntry
  cases h with
  | invalid h => exact if_pos h
  | outside h k => rw [h, k]; rfl
  | unknown h k l => rw [h, k, l]; rfl
  | updated old h k =>
    rw [h.valid, h.inside, h.known, k]
    show ((if putChanges e old then flagChange (s.mapEntry old.slot (putUpdate s e))
      else s.mapEntry old.slot (putUpdate s e)), PutCount.stored) = _
    unfold putInPlace
    cases putChanges e old with
    | true => rw [Bool.or_true]; rfl
    | false => rw [Bool.or_false]; rfl
  | inserted h k l => rw [h.valid, h.inside, h.known, k]; exact if_pos l
  | replaced x h k l m n => rw [h.valid, h.inside, h.known, k, m]; exact (if_neg l).trans (if_pos n)
  | discarded h k l m =>
    rw [h.valid, h.inside, h.known, k]
    refine (if_neg l).trans ?_
    cases hx : evictable s with
    | none => rfl
    | some x => exact if_neg (Nat.not_lt.mpr (m x hx))

/-- Every carried entry comes to one of these. -/
theorem putEntry_puts (w : StreamWindow) (e : GuidePutEntry) (s : State) : Puts w e s (putEntry w e s) := by
  have of : ∀ {r}, Puts w e s r → Puts w e s (putEntry w e s) := fun h => by rw [h.eq]; exact h
  cases hi : putInvalid e with
  | true => exact of (.invalid hi)
  | false =>
    cases hw : w.covers e.channel.toNat e.start.toNat with
    | false => exact of (.outside hi hw)
    | true =>
      cases hv : s.hasService e.channel.toNat with
      | false => exact of (.unknown hi hw hv)
      | true =>
        have hp : Passes w e s := ⟨hi, hw, hv⟩
        cases ho : s.entry? e.channel.toNat e.eventId.toNat with
        | some old => exact of (.updated old hp ho)
        | none =>
          by_cases hl : s.guide.entries.length < 1200
          · exact of (.inserted hp ho hl)
          · by_cases hx : ∃ x, evictable s = some x ∧ e.start.toNat < x.start
            · obtain ⟨x, hm, hn⟩ := hx
              exact of (.replaced x hp ho hl hm hn)
            · exact of (.discarded hp ho hl fun x hm => Nat.not_lt.mp fun hn => hx ⟨x, hm, hn⟩)

theorem Passes.withLine (h : Passes w e s) (x : LineInterface) : Passes w e { s with line := x } :=
  ⟨h.valid, h.inside, h.known⟩

theorem insertEntry_standing (e : GuidePutEntry) (s : State) : (insertEntry e s).standing = s.standing := by
  unfold insertEntry
  split <;> rfl

theorem insertEntry_withLine (e : GuidePutEntry) (s : State) (x : LineInterface) :
    insertEntry e { s with line := x } = { insertEntry e s with line := x } := by
  cases h : lowestFree (s.guide.entries.map GuideEntry.slot) 1200 0 with
  | some k => rw [insertEntry_eq h, insertEntry_eq (s := { s with line := x }) h]; rfl
  | none =>
    have hnone : lowestFree (s.guide.entries.map GuideEntry.slot) Config.maxEntries 0 = none := h
    simp only [insertEntry, hnone]

/-- A carried entry touches nothing that stands. -/
theorem putEntry_standing (w : StreamWindow) (e : GuidePutEntry) (s : State) :
    (putEntry w e s).1.standing = s.standing := by
  have h := putEntry_puts w e s
  generalize putEntry w e s = r at h ⊢
  cases h with
  | inserted => exact insertEntry_standing e s
  | replaced => exact insertEntry_standing e _
  | discarded => exact (setGuideFull_works s true).standing
  | _ => rfl

/-- A carried entry does not read the Line Interface. -/
theorem putEntry_withLine (w : StreamWindow) (e : GuidePutEntry) (s : State) (x : LineInterface) :
    putEntry w e { s with line := x } = ({ (putEntry w e s).1 with line := x }, (putEntry w e s).2) := by
  have h := putEntry_puts w e s
  generalize putEntry w e s = r at h ⊢
  cases h with
  | invalid h => exact Puts.eq (.invalid h)
  | outside h k => exact Puts.eq (.outside h k)
  | unknown h k l => exact Puts.eq (.unknown h k l)
  | updated old h k => exact Puts.eq (.updated old (h.withLine x) k)
  | inserted h k l => exact insertEntry_withLine e s x ▸ Puts.eq (.inserted (h.withLine x) k l)
  | replaced y h k l m n =>
    exact insertEntry_withLine e (s.withEntries _) x ▸ Puts.eq (.replaced y (h.withLine x) k l m n)
  | discarded h k l m => exact setGuideFull_withLine s true x ▸ Puts.eq (.discarded (h.withLine x) k l m)

end

/-! ### The entries of one message (R34) -/

theorem putEntries_withLine (w : StreamWindow) (es : List GuidePutEntry) (s : State) (c : PutCounts)
    (x : LineInterface) : putEntries w es { s with line := x } c
      = ({ (putEntries w es s c).1 with line := x }, (putEntries w es s c).2) := by
  induction es generalizing s c with
  | nil => rfl
  | cons e es ih => rw [putEntries, putEntry_withLine]; exact ih _ _

theorem putEntries_standing (w : StreamWindow) (es : List GuidePutEntry) (s : State) (c : PutCounts) :
    (putEntries w es s c).1.standing = s.standing := by
  induction es generalizing s c with
  | nil => rfl
  | cons e es ih => exact (ih _ _).trans (putEntry_standing w e s)

/-- The counts of a message that carries one entry. -/
def countOne (k : PutCount) : PutCounts := addCount ⟨0, 0, 0, 0, 0⟩ k

theorem addCount_eq (c : PutCounts) (k : PutCount) : addCount c k = c.add (countOne k) := by cases k <;> rfl

/-! ### The message -/

/-- What the Line Interface worked on is gone once the message is answered. -/
theorem answering_withLine (t : State) (x : LineState) (d : Dest) (r : Reply) :
    State.answering { t with line := { t.line with state := x } } d r = t.answering d r := by
  cases d <;> rfl

section
variable {s : State} (d : Dest)

theorem exec_guidePut_closed (a : GuidePutArgs) (hr : s.running = true) (hk : s.line.state.takes = true)
    (hs : s.guide.stream = none) :
    exec (.guidePut d (.fields a)) s = .next (s.answering d (.refused 0x21 .state [])) := by
  have hwork : guidePutWork a (startWork (.guidePut d (.fields a)) d s)
      = (startWork (.guidePut d (.fields a)) d s, .refuse .state []) := by
    unfold guidePutWork
    rw [show (startWork (.guidePut d (.fields a)) d s).guide.stream = none from hs]; rfl
  rw [exec_refused rfl hr hk hwork, startWork, answering_withLine]; rfl

/-- With a stream OPEN the carried entries are put one after another, and counted. -/
theorem exec_guidePut_open (a : GuidePutArgs) {w : StreamWindow} (hr : s.running = true)
    (hk : s.line.state.takes = true) (hs : s.guide.stream = some w) :
    exec (.guidePut d (.fields a)) s = .next ((putEntries w a.entries s ⟨0, 0, 0, 0, 0⟩).1.answering d
      (.accepted (.guidePut (putEntries w a.entries s ⟨0, 0, 0, 0, 0⟩).2))) := by
  have hline : (putEntries w a.entries s ⟨0, 0, 0, 0, 0⟩).1.line = s.line :=
    congrArg Standing.line (putEntries_standing w _ s _)
  have hwork : guidePutWork a (startWork (.guidePut d (.fields a)) d s)
      = accept (putEntries w a.entries (startWork (.guidePut d (.fields a)) d s) ⟨0, 0, 0, 0, 0⟩).1
        (.guidePut (putEntries w a.entries (startWork (.guidePut d (.fields a)) d s) ⟨0, 0, 0, 0, 0⟩).2) := by
    unfold guidePutWork
    rw [show (startWork (.guidePut d (.fields a)) d s).guide.stream = some w from hs]
  rw [exec_accepted rfl hr hk hwork, startWork, putEntries_withLine, ← hline, answering_withLine]

/-- One carried entry. -/
theorem exec_guidePut_one {e : GuidePutEntry} {w : StreamWindow} {r : State × PutCount} (hr : s.running = true)
    (hk : s.line.state.takes = true) (hs : s.guide.stream = some w) (h : putEntry w e s = r) :
    exec (.guidePut d (.fields (.one e))) s = .next (r.1.answering d (.accepted (.guidePut (countOne r.2)))) := by
  rw [← h]; exact exec_guidePut_open d (.one e) hr hk hs

/-- A state with the same parts standing hears the same messages. -/
theorem ready_of_standing {t : State} (h : t.standing = s.standing) (hr : s.running = true)
    (hk : s.line.state.takes = true) : t.running = true ∧ t.line.state.takes = true ∧ t.line = s.line := by
  have hp : t.powered = s.powered := congrArg Standing.powered h
  have hl : t.resetLow = s.resetLow := congrArg Standing.resetLow h
  have hline : t.line = s.line := congrArg Standing.line h
  exact ⟨by rw [State.running, hp, hl]; exact hr, by rw [hline]; exact hk, hline⟩

end

/-- Settles O23: each outcome of an entry (`Puts`), and the entries of a message one after another. -/
theorem guidePutStoresAnEntry : Obligations.GuidePutStoresAnEntry := by
  refine ⟨?one, ?several⟩
  case one =>
    intro d e s hr hk
    refine ⟨exec_guidePut_closed d _ hr hk, fun w hs => ?_⟩
    intro answer invalid inside
    have answers : ∀ {t n}, Puts w e s (t, n) → answer t (countOne n) := fun h => exec_guidePut_one d hr hk hs h.eq
    have hvalid : ¬ invalid → putInvalid e = false := fun h =>
      Bool.eq_false_iff.mpr fun hi => h ((putInvalid_iff e).mp hi)
    have hcovers : inside → w.covers e.channel.toNat e.start.toNat = true := (covers_iff w _ _).mpr
    refine ⟨fun hi => answers (.invalid ((putInvalid_iff e).mpr hi)), fun hi ho => ?_, fun hi hw hv => ?_,
      fun hi hw hv => ⟨fun old hold => ?_, fun hnew _ hroom => ?_, fun hnew hfull =>
        ⟨fun hall => ?_, fun hlater => ?_⟩⟩⟩
    · exact answers (.outside (hvalid hi) (Bool.eq_false_iff.mpr fun h => ho ((covers_iff w _ _).mp h)))
    · exact answers (.unknown (hvalid hi) (hcovers hw) hv)
    · exact answers (.updated old ⟨hvalid hi, hcovers hw, hv⟩ hold)
    · obtain ⟨k, hk⟩ := lowestFree_isSome (taken := s.guide.entries.map GuideEntry.slot) (fuel := 1200)
        (by rwa [List.length_map])
      obtain ⟨-, hlt, hfree⟩ := lowestFree_spec hk
      have hput := answers (.inserted ⟨hvalid hi, hcovers hw, hv⟩ hnew hroom)
      rw [insertEntry_eq hk] at hput
      exact ⟨k, by omega, hfree, fun j hj => lowestFree_least hk j (Nat.zero_le _) hj, hput⟩
    · refine answers (.discarded ⟨hvalid hi, hcovers hw, hv⟩ hnew (Nat.not_lt.mpr hfull) fun x hx => ?_)
      obtain ⟨hmem, hpins, -⟩ := evictable_spec hx
      exact hall x hmem hpins
    · obtain ⟨y, hy, hpins, hlt⟩ := hlater
      obtain ⟨x, hx⟩ : ∃ x, evictable s = some x :=
        Option.ne_none_iff_exists'.mp fun h => evictable_eq_none h y hy hpins
      obtain ⟨hmem, hxpins, hlast⟩ := evictable_spec hx
      have hxlt : e.start.toNat < x.start := by
        have := laterAiring_eq_false.mp (hlast y hy hpins)
        omega
      exact ⟨x, hmem, hxpins, hxlt, fun z hz hp => laterAiring_eq_false.mp (hlast z hz hp),
        answers (.replaced x ⟨hvalid hi, hcovers hw, hv⟩ hnew (Nat.not_lt.mpr hfull) hx hxlt)⟩
  case several =>
    intro d e f g s hr hk hs
    obtain ⟨w, hw⟩ := Option.isSome_iff_exists.mp hs
    have ht := putEntry_standing w e s
    have hu := (putEntry_standing w f (putEntry w e s).1).trans ht
    have hv := (putEntry_standing w g (putEntry w f (putEntry w e s).1).1).trans hu
    obtain ⟨hrt, hkt, hlt⟩ := ready_of_standing ht hr hk
    obtain ⟨hru, hku, hlu⟩ := ready_of_standing hu hr hk
    obtain ⟨-, -, hlv⟩ := ready_of_standing hv hr hk
    refine ⟨_, _, _, countOne (putEntry w e s).2, countOne (putEntry w f (putEntry w e s).1).2, hlt, hlu, hlv,
      exec_guidePut_one d hr hk hw rfl,
      exec_guidePut_one d hrt hkt ((congrArg Standing.stream ht).trans hw) rfl, ?_,
      countOne (putEntry w g (putEntry w f (putEntry w e s).1).1).2,
      exec_guidePut_one d hru hku ((congrArg Standing.stream hu).trans hw) rfl, ?_⟩
    · rw [← addCount_eq]; exact exec_guidePut_open d (.two e f) hr hk hw
    · rw [← addCount_eq, ← addCount_eq]; exact exec_guidePut_open d (.three e f g) hr hk hw

end Sys2Proof.Machine

/-! PROOFS. The close work of a stream (R40 to R43), GUIDE_OPEN (R33), GUIDE_FLUSH (R46) and RUNNING (R44, R45, R128). -/

namespace Sys2Proof.Machine

/-! ### The replace sweep (R41) -/

/-- An entry as the sweep leaves it, where it stays. -/
def sweptEntry (w : StreamWindow) (e : GuideEntry) : GuideEntry :=
  if sweepWithdraws w e then { e with withdrawn := true } else e

/-- A withdrawal does not change whether the sweep removes an entry. -/
theorem sweepRemoves_sweptEntry (w : StreamWindow) (e : GuideEntry) :
    sweepRemoves w (sweptEntry w e) = sweepRemoves w e := by
  unfold sweptEntry
  split <;> rfl

/-- The entries the sweep leaves. -/
def sweptEntries (w : StreamWindow) (es : List GuideEntry) : List GuideEntry :=
  (es.filter (fun e => !sweepRemoves w e)).map (sweptEntry w)

theorem filter_map_sweptEntry (w : StreamWindow) (es : List GuideEntry) :
    (es.map (sweptEntry w)).filter (fun e => !sweepRemoves w e) = sweptEntries w es := by
  rw [List.filter_map]
  exact congrArg (fun p => (es.filter p).map (sweptEntry w))
    (funext fun e => congrArg not (sweepRemoves_sweptEntry w e))

section
variable (w : StreamWindow) (s : State)

/-- The store with the pinned entries visited withdrawn and the unpinned ones gone. -/
def sweptStore : State := (s.withEntries (s.guide.entries.map (sweptEntry w))).dropEntries (fun e => !sweepRemoves w e)

theorem sweepStore_eq : sweepStore w s =
    if s.guide.entries.any (fun e => sweepRemoves w e || sweepWithdraws w e) = true then flagChange (sweptStore w s)
    else sweptStore w s := rfl

theorem sweptStore_guide : (sweptStore w s).guide = { s.guide with
    entries := sweptEntries w s.guide.entries
    full := s.guide.full && decide (1200 ≤ (sweptEntries w s.guide.entries).length) } := by
  rw [sweptStore, dropEntries_guide, State.withEntries_entries, filter_map_sweptEntry]; rfl

/-- The sweep acts on the entries, the change flag and the guide-full flag. -/
theorem sweepStore_guide : (sweepStore w s).guide = { s.guide with
    entries := sweptEntries w s.guide.entries
    change := s.guide.change || s.guide.entries.any (fun e => sweepRemoves w e || sweepWithdraws w e)
    full := s.guide.full && decide (1200 ≤ (sweptEntries w s.guide.entries).length) } := by
  rw [sweepStore_eq]
  split
  · rename_i hany
    rw [hany, Bool.or_true]
    exact congrArg (fun g : GuideStore => { g with change := true }) (sweptStore_guide w s)
  · rename_i hnone
    rw [Bool.eq_false_iff.mpr hnone, Bool.or_false]
    exact sweptStore_guide w s

theorem sweepStore_plan : (sweepStore w s).plan = s.plan := by
  rw [sweepStore_eq]
  split <;> exact dropEntries_plan _ _

theorem sweepStore_requests : (sweepStore w s).requests = s.requests := by
  rw [sweepStore_eq]
  split <;> exact dropEntries_requests _ _

theorem sweepStore_image : (sweepStore w s).image = s.image := by
  rw [sweepStore_eq]
  split <;> exact dropEntries_image _ _

end

/-! ### The bookings of withdrawn entries (R129, R133) -/

/-- The bookings of some entries that finish when these are withdrawn. -/
def endsOf (es : List GuideEntry) (s : State) : List Booking :=
  s.plan.bookings.filter (fun b => (b.state == some .planned || b.state == some .clashed)
    && es.any (fun e => b.key == .guideSlot e.slot))

theorem withdrawnBookings_eq (es : List GuideEntry) (s : State) :
    withdrawnBookings (es.map GuideEntry.slot) s = endsOf es s := by
  refine List.filter_congr fun b _ => congrArg ((b.state == some .planned || b.state == some .clashed) && ·) ?_
  cases b.key with
  | guideSlot n =>
    rw [Bool.eq_iff_iff, List.contains_iff_mem, List.mem_map, List.any_eq_true]
    refine exists_congr fun e => and_congr_right fun _ => ?_
    rw [beq_iff_eq, OccurrenceKey.guideSlot.injEq]
    exact eq_comm
  | localDay d => simp

theorem finishWithdrawn_eq (es : List GuideEntry) (s : State) : finishWithdrawn (es.map GuideEntry.slot) s =
    if endsOf es s = [] then s
    else settle (afterFinish ((endsOf es s).any s.isSeriesBooking)
      ((endsOf es s).foldl (fun u b => finishBooking (.outcome .withdrawn .withdrawn 0) none b u) s)) := by
  unfold finishWithdrawn
  rw [withdrawnBookings_eq]
  exact if_congr List.isEmpty_iff rfl rfl

/-! ### The rest of the close work (R42) -/

theorem closeDerives_iff (s : State) :
    closeDerives s = true ↔ s.guide.change = true ∨ (s.guide.agingPending = true ∧ s.saving = false) := by
  simp only [closeDerives, Bool.or_eq_true, Bool.and_eq_true, Bool.not_eq_true']

/-- The close work after the sweep. -/
theorem closeStream_eq {s : State} {w : StreamWindow} (h : s.guide.stream = some w) : closeStream s =
    settle (closeRecord (if (sweepStream w s).guide.change = true
        ∨ ((sweepStream w s).guide.agingPending = true ∧ (sweepStream w s).saving = false)
      then deriveAndPass (postponedScan (clearMarks (sweepStream w s)))
      else postponedScan (clearMarks (sweepStream w s)))) := by
  unfold closeStream
  rw [h]
  exact congrArg (fun u => settle (closeRecord u)) (if_congr (closeDerives_iff (clearMarks (sweepStream w s))) rfl rfl)

theorem runScan_entries (s : State) : (runScan s).guide.entries = s.guide.entries.filter (fun e => !agedOut s e) :=
  congrArg GuideStore.entries (dropEntries_guide s _)

theorem sweepStream_replacing {w : StreamWindow} (h : w.replace = true) (s : State) :
    sweepStream w s = finishWithdrawn (sweptSlots w s) (sweepStore w s) := if_pos h

theorem sweepStream_plain {w : StreamWindow} (h : w.replace = false) (s : State) : sweepStream w s = s :=
  if_neg (Bool.eq_false_iff.mp h)

/-! ### GUIDE_OPEN (R33) -/

theorem channelRangeOk_iff (first last : Word16) : channelRangeOk first last = true ↔
    1 ≤ first.toNat ∧ first.toNat ≤ last.toNat ∧ last.toNat ≤ 9999 := by
  simp only [channelRangeOk, Bool.and_eq_true, decide_eq_true_eq, and_assoc]
  rfl

/-- The range and the span of a GUIDE_OPEN are in order. -/
def OpenOk (a : GuideOpenArgs) : Prop :=
  1 ≤ a.first.toNat ∧ a.first.toNat ≤ a.last.toNat ∧ a.last.toNat ≤ 9999 ∧ a.start.toNat < a.stop.toNat

theorem openOk_iff (a : GuideOpenArgs) :
    (channelRangeOk a.first a.last && decide (a.start.toNat < a.stop.toNat)) = true ↔ OpenOk a := by
  rw [Bool.and_eq_true, channelRangeOk_iff, decide_eq_true_eq, and_assoc, and_assoc]; rfl

theorem guideOpenWork_refused {a : GuideOpenArgs} (h : ¬ OpenOk a) (u : State) : guideOpenWork a u = refuse u .range :=
  if_neg (mt (openOk_iff a).mp h)

theorem guideOpenWork_accepted {a : GuideOpenArgs} (h : OpenOk a) (u : State) : guideOpenWork a u =
    accept (openStream (carriedWindow a) (closeStream u)) (.guideOpen u.guide.stream.isSome) :=
  if_pos ((openOk_iff a).mpr h)

/-! ### GUIDE_FLUSH (R46) -/

section
variable {a : GuideFlushArgs} {u : State}

theorem guideFlushWork_refused (h : flushOk a = false) : guideFlushWork a u = refuse u .range := by
  unfold guideFlushWork
  rw [h]; rfl

/-- With no unpinned entry in the range nothing is removed and nothing follows. -/
theorem guideFlushWork_none (h : flushOk a = true)
    (hnone : u.guide.entries.filter (fun e => inFlush a e && e.pins == 0) = []) : guideFlushWork a u =
      accept u (.guideFlush (u.guide.entries.filter (fun e => inFlush a e && e.pins == 0)).length
        (u.guide.entries.filter (fun e => inFlush a e && e.pins != 0)).length) := by
  unfold guideFlushWork
  rw [h, hnone]; rfl

theorem guideFlushWork_some (h : flushOk a = true)
    (hsome : u.guide.entries.filter (fun e => inFlush a e && e.pins == 0) ≠ []) : guideFlushWork a u =
      accept (settle (deriveAndPass (u.dropEntries (fun e => !(inFlush a e && e.pins == 0)))))
        (.guideFlush (u.guide.entries.filter (fun e => inFlush a e && e.pins == 0)).length
          (u.guide.entries.filter (fun e => inFlush a e && e.pins != 0)).length) := by
  unfold guideFlushWork
  rw [h]
  exact congrArg (fun v => accept v _) (if_neg (mt List.length_eq_zero_iff.mp hsome))

end

/-! ### RUNNING (R44) -/

theorem statusOf_eq_none {b : Byte} (h : 4 < b.toNat) : statusOf b = none := by
  unfold statusOf
  split
  case h_6 => rfl
  all_goals omega

section
variable {a : RunningArgs} {u : State}

theorem runningWork_range
    (h : a.channel.toNat = 0 ∨ 9999 < a.channel.toNat ∨ a.eventId = 0 ∨ 4 < a.status.toNat) :
    runningWork a u = refuse u .range := by
  unfold runningWork
  cases hst : statusOf a.status with
  | none => rfl
  | some st =>
    refine if_pos ?_
    rcases h with h | h | h | h
    · rw [channelOk_eq_false (.inl h)]; rfl
    · rw [channelOk_eq_false (.inr h)]; rfl
    · rw [h]; exact Bool.or_true _
    · rw [statusOf_eq_none h] at hst; cases hst

/-- A message in range, by the entry it names. -/
theorem runningWork_inRange {st : RunningStatus} (hlo : 1 ≤ a.channel.toNat) (hhi : a.channel.toNat ≤ 9999)
    (he : a.eventId ≠ 0) (hst : statusOf a.status = some st) :
    (u.entry? a.channel.toNat a.eventId.toNat = none → runningWork a u = refuse u .unknown)
    ∧ ∀ e, u.entry? a.channel.toNat a.eventId.toNat = some e → runningWork a u =
      if e.status = st then accept u (.running false) else accept (changeStatus st e u) (.running true) := by
  have hok : (!channelOk a.channel || a.eventId == 0) = false := by
    rw [(channelOk_iff _).mpr ⟨hlo, hhi⟩, beq_eq_false_iff_ne.mpr he]; rfl
  unfold runningWork
  rw [hst]
  refine ⟨fun h => ?_, fun e h => ?_⟩ <;> (rw [h]; exact if_neg (Bool.eq_false_iff.mp hok))

end

/-! ### The change handed to Run Control (R45, R133) -/

section
variable {w : GroupWork} {n : Nat} {b : Booking}

theorem handStatus_gone (h : w.state.booking? n = none) : handStatus w n = w := by
  unfold handStatus; rw [h]

theorem handStatus_passed (h : w.state.booking? n = some b) (k : earlyEndApplies w.state b = false) :
    handStatus w n = w := by
  unfold handStatus; rw [h]; exact if_neg (Bool.eq_false_iff.mp k)

theorem handStatus_applies (h : w.state.booking? n = some b) (k : earlyEndApplies w.state b = true) :
    handStatus w n = match earlyEndAt w.state b with
      | none => w
      | some (t, cut) =>
        if t ≤ w.state.present then endEarly w b t cut else { w with state := settle (earlyEnd n w.state) } := by
  unfold handStatus; rw [h]; exact if_pos k

end

/-- The state in which a booking whose early end is reached is looked at again: the early end written, a save abandoned
with all that this brings (R184). -/
def earlyEndSet (w : GroupWork) (b : Booking) (x : Nat) (cut : Option CutReason) : State :=
  clearSave (if b.provEnd < x then passIfSet (setProvEnd b.number x cut w.state) else setProvEnd b.number x cut w.state)

/-- A booking whose early end is reached finishes, unless what came before has changed it. -/
theorem endEarly_eq (w : GroupWork) (b : Booking) (x : Nat) (cut : Option CutReason) : endEarly w b x cut =
    match (earlyEndSet w b x cut).booking? b.number with
    | none => { w with state := earlyEndSet w b x cut }
    | some y =>
      if y.state = some .recording ∧ y.provEnd ≤ (earlyEndSet w b x cut).present then
        ⟨finishBooking (.outcome (endOutcome y).1 (endOutcome y).2 0) (some (endOutcome y).2) y (earlyEndSet w b x cut),
          true, w.series || (earlyEndSet w b x cut).isSeriesBooking y⟩
      else { w with state := earlyEndSet w b x cut } := by
  show finishOf earlyEnding { w with state := earlyEndSet w b x cut } b.number = _
  unfold finishOf
  cases hy : (earlyEndSet w b x cut).booking? b.number with
  | none => rfl
  | some y =>
    by_cases hend : y.state = some .recording ∧ y.provEnd ≤ (earlyEndSet w b x cut).present
    · simp only [earlyEnding, if_pos hend]
    · simp only [earlyEnding, if_neg hend]

theorem booking?_spec {s : State} {n : Nat} {b : Booking} (h : s.booking? n = some b) :
    b ∈ s.plan.bookings ∧ b.number = n :=
  ⟨List.mem_of_find?_eq_some h, by simpa using List.find?_some h⟩

/-- With every number once, bookings of one number are one. -/
theorem booking_eq_of_number {s : State} (h : (s.plan.bookings.map Booking.number).Nodup) {b c : Booking}
    (hb : b ∈ s.plan.bookings) (hc : c ∈ s.plan.bookings) (hn : b.number = c.number) : b = c :=
  List.inj_on_of_nodup_map h hb hc hn

/-- What the bookings that name an entry come to, before step 8. -/
def handedOn (slot : Nat) (s : State) : GroupWork :=
  ((s.plan.bookings.filter (fun b => b.key == .guideSlot slot)).map Booking.number).foldl handStatus ⟨s, false, false⟩

theorem handRunning_eq (slot : Nat) (s : State) : handRunning slot s =
    if (handedOn slot s).any = true then settle (afterFinish (handedOn slot s).series (handedOn slot s).state)
    else (handedOn slot s).state := by
  show (if (handedOn slot s).any = true then settle (handedOn slot s).close else (handedOn slot s).state) = _
  by_cases h : (handedOn slot s).any = true
  · rw [if_pos h, if_pos h, GroupWork.close, if_pos h]
  · rw [if_neg h, if_neg h]

/-- Where no booking that names the entry is RECORDING, nothing is handed on. -/
theorem handRunning_idle {slot : Nat} {s : State}
    (h : ∀ b ∈ s.plan.bookings, b.key = .guideSlot slot → b.state ≠ some .recording)
    (hnodup : (s.plan.bookings.map Booking.number).Nodup) : handRunning slot s = s := by
  have hnone : ∀ n ∈ (s.plan.bookings.filter (fun b => b.key == .guideSlot slot)).map Booking.number,
      handStatus ⟨s, false, false⟩ n = ⟨s, false, false⟩ := by
    intro n hn
    obtain ⟨c, hc, rfl⟩ := List.mem_map.mp hn
    obtain ⟨hmem, hkey⟩ := List.mem_filter.mp hc
    cases hb : s.booking? c.number with
    | none => exact handStatus_gone hb
    | some b =>
      obtain ⟨hbmem, hbn⟩ := booking?_spec hb
      obtain rfl := booking_eq_of_number hnodup hbmem hmem hbn
      refine handStatus_passed hb (Bool.eq_false_iff.mpr fun happly => ?_)
      exact h b hmem (beq_iff_eq.mp hkey) ((earlyEndApplies_iff s b).mp happly).1
  have hidle : handedOn slot s = ⟨s, false, false⟩ :=
    List.foldlRecOn _ handStatus (motive := fun w => w = (⟨s, false, false⟩ : GroupWork)) rfl fun w hw n hn => by
      rw [hw]; exact hnone n hn
  rw [handRunning_eq, hidle]
  exact if_neg Bool.false_ne_true

/-! ### The early end (R128) -/

theorem earlyEndOf_kept {cap x : Nat} {b : Booking}
    (h : (b.cut = some .yield ∧ b.provEnd ≤ x) ∨ (b.provEnd < b.winEnd ∧ b.provEnd ≤ min x cap)) :
    earlyEndOf cap x b = none := by
  unfold earlyEndOf
  rcases h with h | h
  · exact if_pos h
  · rw [if_pos h]; exact ite_self _

theorem earlyEndOf_moved {cap x : Nat} {b : Booking}
    (h : ¬ ((b.cut = some .yield ∧ b.provEnd ≤ x) ∨ (b.provEnd < b.winEnd ∧ b.provEnd ≤ min x cap))) :
    earlyEndOf cap x b = some (min x cap, if cap < x then some .limit else none) := by
  obtain ⟨hyield, hearly⟩ := not_or.mp h
  exact (if_neg hyield).trans (if_neg hearly)

/-- A provisional end moved, its expiry to be taken at once where it is reached. -/
theorem moveProvEnd_eq (n t : Nat) (cut : Option CutReason) (s : State) : moveProvEnd n t cut s =
    { setProvEnd n t cut s with agenda := s.agenda ++ (if t ≤ s.present then [.provisionalEnd n] else []) } := by
  unfold moveProvEnd State.atOnce
  by_cases h : t ≤ s.present
  · rw [if_pos h]; exact if_pos h
  · rw [if_neg h, List.append_nil]; exact if_neg h

theorem earlyEnd_kept {s : State} {n : Nat} {b : Booking} (h : s.booking? n = some b) (k : earlyEndAt s b = none) :
    earlyEnd n s = s := by
  unfold earlyEnd; rw [h]; simp only [k]

theorem earlyEnd_moved {s : State} {n t : Nat} {b : Booking} {cut : Option CutReason} (h : s.booking? n = some b)
    (k : earlyEndAt s b = some (t, cut)) : earlyEnd n s =
      if b.provEnd < t then passIfSet (moveProvEnd n t cut s) else moveProvEnd n t cut s := by
  unfold earlyEnd; rw [h]; simp only [k]

/-- Settles O22: the close work by its parts, and the three messages test by test. -/
theorem guideOpenFlushAndRunning : Obligations.GuideOpenFlushAndRunning := by
  refine ⟨⟨fun s => closeStream_closed, ?close, ?scan⟩, ?opening, ?flush, ?running, ?earlyEnd⟩
  case close =>
    intro s w hs visits gone hit
    have hvisits : visits = fun e => w.replace && sweepVisits w e := by
      funext e
      simp only [visits, sweepVisits, StreamWindow.covers, Bool.and_assoc]
    cases hrep : w.replace with
    | true =>
      have hgone : gone = sweepRemoves w := by funext e; simp only [gone, hvisits, hrep, Bool.true_and, sweepRemoves]
      have hhit : hit = sweepWithdraws w := by funext e; simp only [hit, hvisits, hrep, Bool.true_and, sweepWithdraws]
      have hguide := sweepStore_guide w s
      rw [hgone, hhit]
      refine ⟨sweepStore w s, sweepStream w s, _, by rw [hguide]; rfl, by rw [hguide], by rw [hguide]; rfl,
        by rw [hguide], by rw [hguide]; exact hs, sweepStore_plan w s, sweepStore_requests w s, sweepStore_image w s,
        (sweepStore_works w s).standing, ?_, rfl, closeStream_eq hs⟩
      · exact (sweepStream_replacing hrep s).trans (finishWithdrawn_eq _ _)
    | false =>
      have hgone : gone = fun _ => false := by funext e; simp only [gone, hvisits, hrep, Bool.false_and]
      have hhit : hit = fun _ => false := by funext e; simp only [hit, hvisits, hrep, Bool.false_and]
      rw [hgone, hhit]
      refine ⟨s, sweepStream w s, _, ?_, ?_, ?_, rfl, hs, rfl, rfl, rfl, rfl, ?_, rfl, closeStream_eq hs⟩
      · simp
      · simp
      · simp
      · rw [sweepStream_plain hrep]
        simp
  case scan =>
    intro s
    refine ⟨?_, rfl, dropEntries_plan s _, dropEntries_requests s _, (runScan_works s).standing⟩
    rw [runScan_entries]
    refine congrArg (fun f => List.filter f s.guide.entries) (funext fun e => ?_)
    rw [agedOut_eq]; rfl
  case opening =>
    intro d a s hr hk c u ok
    refine ⟨fun hout => ?_, fun hok => ⟨rfl, exec_accepted rfl hr hk (guideOpenWork_accepted hok u)⟩⟩
    rw [exec_refused rfl hr hk (guideOpenWork_refused hout u)]
    exact congrArg Host.Outcome.next (answering_withLine s _ d _)
  case flush =>
    intro d a s hr hk c u inRange hit kept reply
    have hin : inRange = inFlush a := by funext e; cases a <;> rfl
    refine ⟨fun first last ha hout => ?_, fun hrange => ?_⟩
    · have hbad : flushOk a = false := by
        rw [ha]; exact Bool.eq_false_iff.mpr (mt (channelRangeOk_iff first last).mp hout)
      exact exec_refused rfl hr hk (guideFlushWork_refused hbad)
    · have hok : flushOk a = true := by
        cases ha : a with
        | whole => rfl
        | range first last => exact (channelRangeOk_iff first last).mpr (hrange first last ha)
      simp only [reply, hit, kept, hin]
      refine ⟨fun hnone => exec_accepted rfl hr hk (guideFlushWork_none hok hnone), fun hsome => ?_⟩
      have hguide := dropEntries_guide u (fun e => !(inFlush a e && e.pins == 0))
      exact ⟨_, by rw [hguide], by rw [hguide], dropEntries_plan u _, dropEntries_requests u _, dropEntries_image u _,
        (dropEntries_works u _).standing, exec_accepted rfl hr hk (guideFlushWork_some hok hsome)⟩
  case running =>
    intro d a s hr hk c u
    refine ⟨fun hout => exec_refused rfl hr hk (runningWork_range hout), fun st hlo hhi he hst => ?_⟩
    obtain ⟨hunknown, hknown⟩ := runningWork_inRange (u := u) hlo hhi he hst
    refine ⟨fun hnone => exec_refused rfl hr hk (hunknown hnone), fun e hentry => ?_⟩
    have hwork := hknown e hentry
    refine ⟨fun hsame => exec_accepted rfl hr hk (hwork.trans (if_pos hsame)), fun hdiff => ?_⟩
    have hwork := hwork.trans (if_neg hdiff)
    intro m reply
    have hplain : e.pins = 0 → changeStatus st e u = m := fun hp => if_pos hp
    have hhanded : e.pins ≠ 0 → changeStatus st e u = handRunning e.slot m := fun hp => if_neg hp
    have replies : ∀ {t}, changeStatus st e u = t → reply t := fun ht => ht ▸ exec_accepted rfl hr hk hwork
    refine ⟨fun hp => replies (hplain hp), fun hidle hnodup => ?_, fun hp => ?_⟩
    · by_cases hp : e.pins = 0
      · exact replies (hplain hp)
      · exact replies ((hhanded hp).trans (handRunning_idle hidle hnodup))
    · intro applies hand w
      have hhand : hand = handStatus := by
        funext w n
        cases hb : w.state.booking? n with
        | none => rw [handStatus_gone hb]; simp only [hand, hb]
        | some b =>
          by_cases happ : applies w.state b
          · have hq : earlyEndApplies w.state b = true := (earlyEndApplies_iff _ _).mpr happ
            rw [handStatus_applies hb hq]
            cases hat : earlyEndAt w.state b with
            | none => simp only [hand, hb, happ, not_true_eq_false, if_false, hat]
            | some p =>
              obtain ⟨x, cut⟩ := p
              simp only [hand, hb, happ, not_true_eq_false, if_false, hat]
              by_cases hlt : w.state.present < x
              · rw [if_pos hlt, if_neg (Nat.not_le.mpr hlt)]
              · rw [if_neg hlt, if_pos (Nat.not_lt.mp hlt)]
                exact (endEarly_eq w b x cut).symm
          · have hq : earlyEndApplies w.state b = false := Bool.eq_false_iff.mpr (mt (earlyEndApplies_iff _ _).mp happ)
            rw [handStatus_passed hb hq]
            simp only [hand, hb, happ, not_false_eq_true, if_true]
      have hw : w = handedOn e.slot m := by
        show List.foldl hand _ _ = _
        rw [hhand]; rfl
      rw [hw, ← handRunning_eq]
      exact replies (hhanded hp)
  case earlyEnd =>
    intro s n b hb cap x v m moved keeps
    refine ⟨rfl, fun hkeeps => ?_, fun hmoves => ?_⟩
    · have hnone : earlyEndAt s b = none := earlyEndOf_kept hkeeps
      exact ⟨hnone, earlyEnd_kept hb hnone⟩
    · have hsome : earlyEndAt s b = some (v, if cap < x then some .limit else none) := earlyEndOf_moved hmoves
      refine ⟨hsome, ?_⟩
      rw [earlyEnd_moved hb hsome, moveProvEnd_eq]
      rfl

end Sys2Proof.Machine

/-! PROOFS. The Request Table's fields on the line (R54, R55), its writes, and REQ_ADD. -/

namespace Sys2Proof.Machine

/-! ### Fields in range and their clamps (R54 test 2, R55) -/

theorem channelOrAny_eq_false {w : Word16} (h : 9999 < w.toNat) : channelOrAny w = false := by
  rw [Bool.eq_false_iff, Ne, channelOrAny_iff]; omega

theorem days_bit7 (b : Byte) : b.getLsbD 7 = decide (128 ≤ b.toNat) := BitVec.msb_eq_decide b

theorem daysOf_eq (b : Byte) : daysOf b = BitVec.ofNat 7 b.toNat := rfl

/-- A days byte in range names no day when it is 0. -/
theorem daysOf_eq_zero_iff {b : Byte} (h : b.toNat < 128) : daysOf b = 0 ↔ b = 0 := by
  rw [daysOf_eq, ← BitVec.toNat_inj, ← BitVec.toNat_inj, BitVec.toNat_ofNat, Nat.mod_eq_of_lt h]
  rfl

theorem timedRangeOk_iff (du : Word16) (days : Byte) (st : Word32) : timedRangeOk du days st = true ↔
    60 ≤ du.toNat ∧ days.toNat < 128 ∧ (days = 0 → st.toNat + min du.toNat 43200 ≤ 4294967295)
      ∧ (days ≠ 0 → st.toNat < 86400) := by
  simp only [timedRangeOk, days_bit7, Bool.and_eq_true, Bool.not_eq_true', decide_eq_true_eq, decide_eq_false_iff_not,
    Nat.not_le, and_assoc]
  refine and_congr_right fun _ => and_congr_right fun hdays => ?_
  by_cases hzero : days = 0
  · rw [if_pos ((daysOf_eq_zero_iff hdays).mpr hzero), decide_eq_true_eq]
    exact ⟨fun h => ⟨fun _ => h, fun hne => absurd hzero hne⟩, fun h => h.1 hzero⟩
  · rw [if_neg (mt (daysOf_eq_zero_iff hdays).mp hzero), decide_eq_true_eq]
    exact ⟨fun h => ⟨fun he => absurd he hzero, fun _ => h⟩, fun h => h.2 hzero⟩

theorem timedRangeOk_eq_false {du : Word16} {days : Byte} (st : Word32) (h : du.toNat < 60 ∨ 128 ≤ days.toNat) :
    timedRangeOk du days st = false := by
  rw [Bool.eq_false_iff, Ne, timedRangeOk_iff]; omega

theorem padClamped_iff (w : Word16) : padClamped w = true ↔ w.toNat ≠ 65535 ∧ 3600 < w.toNat := by
  rw [padClamped, Bool.and_eq_true, bne_iff_ne, decide_eq_true_iff]; rfl

theorem commonClamped_iff (c : ReqCommon) : commonClamped c = true ↔ 15 < c.importance.toNat
    ∨ (c.prePad.toNat ≠ 65535 ∧ 3600 < c.prePad.toNat) ∨ (c.postPad.toNat ≠ 65535 ∧ 3600 < c.postPad.toNat) := by
  rw [commonClamped, Bool.or_eq_true, Bool.or_eq_true, decide_eq_true_iff, padClamped_iff, padClamped_iff, or_assoc]
  rfl

theorem timedClamped_iff (w : Word16) : timedClamped w = true ↔ 43200 < w.toNat := decide_eq_true_iff

/-! ### What a REQ_ADD asks for (R54 test 2, R55) -/

section
variable (c : ReqCommon) {ch du ev : Word16} {days : Byte} {st sid : Word32}

theorem asked_timed (hch : channelOk ch = true) (hr : timedRangeOk du days st = true) :
    asked (.timed c ch du days st) = some ⟨importanceOf c.importance, padOf c.prePad, padOf c.postPad,
      .timed ⟨ch.toNat, timedDuration du, daysOf days, st.toNat, [], none⟩, commonClamped c || timedClamped du⟩ :=
  if_pos (Bool.and_eq_true_iff.mpr ⟨hch, hr⟩)

theorem asked_timed_refused (h : channelOk ch = false ∨ timedRangeOk du days st = false) :
    asked (.timed c ch du days st) = none :=
  if_neg (Bool.eq_false_iff.mp (Bool.and_eq_false_iff.mpr h))

theorem asked_event (hch : channelOk ch = true) (he : ev ≠ 0) :
    asked (.event c ch ev) = some ⟨importanceOf c.importance, padOf c.prePad, padOf c.postPad,
      .event ⟨ch.toNat, ev.toNat, accurateFlag c⟩, commonClamped c⟩ :=
  if_pos (Bool.and_eq_true_iff.mpr ⟨hch, bne_iff_ne.mpr he⟩)

theorem asked_event_refused (h : channelOk ch = false ∨ ev = 0) : asked (.event c ch ev) = none :=
  if_neg (Bool.eq_false_iff.mp (Bool.and_eq_false_iff.mpr (h.imp_right bne_eq_false_iff_eq.mpr)))

theorem asked_series (hch : channelOrAny ch = true) (hs : sid ≠ 0) :
    asked (.series c sid ch) = some ⟨importanceOf c.importance, padOf c.prePad, padOf c.postPad,
      .series ⟨sid.toNat, ch.toNat, newOnlyFlag c, accurateFlag c, []⟩, commonClamped c⟩ :=
  if_pos (Bool.and_eq_true_iff.mpr ⟨hch, bne_iff_ne.mpr hs⟩)

theorem asked_series_refused (h : channelOrAny ch = false ∨ sid = 0) : asked (.series c sid ch) = none :=
  if_neg (Bool.eq_false_iff.mp (Bool.and_eq_false_iff.mpr (h.imp_right bne_eq_false_iff_eq.mpr)))

end

/-- Settles O25, kind by kind. -/
theorem reqAddTakesItsValues : Obligations.ReqAddTakesItsValues := by
  intro c ch du ev days st sid n pad above clamps made
  refine ⟨fun hlo hhi hdu hdays hsingle hrepeats => ?timed, fun hlo hhi hev => ?event, fun hhi hsid => ?series,
    fun hout => ?_, fun hout => ?_, fun hout => ?_, ?_, ?_, fun _ _ => rfl⟩
  case timed =>
    refine ⟨_, asked_timed c ((channelOk_iff ch).mpr ⟨hlo, hhi⟩)
      ((timedRangeOk_iff du days st).mpr ⟨hdu, hdays, hsingle, hrepeats⟩), rfl, ?_⟩
    rw [Bool.or_eq_true, commonClamped_iff, timedClamped_iff]
  case event => exact ⟨_, asked_event c ((channelOk_iff ch).mpr ⟨hlo, hhi⟩) hev, rfl, commonClamped_iff c⟩
  case series => exact ⟨_, asked_series c ((channelOrAny_iff ch).mpr hhi) hsid, rfl, commonClamped_iff c⟩
  · have hch := channelOk_eq_false hout
    exact ⟨asked_timed_refused c (.inl hch), asked_event_refused c (.inl hch)⟩
  · exact asked_series_refused c (.inl (channelOrAny_eq_false hout))
  · exact asked_timed_refused c (.inr (timedRangeOk_eq_false st hout))
  · exact asked_event_refused c (.inr rfl)
  · exact asked_series_refused c (.inr rfl)

/-! ### What a change of stored content leaves alone (R181) -/

/-- A change of stored content touches the notices, the alert table and the image alone. -/
theorem noteChange_eq (c : StoredContent) (t : State) : State.noteChange c t = { t with
    outbox := { t.outbox with
      notices := (State.noteChange c t).outbox.notices, lost := (State.noteChange c t).outbox.lost }
    alerts := (State.noteChange c t).alerts
    image := (State.noteChange c t).image } := by
  unfold State.noteChange
  split
  · rfl
  · unfold State.markChanged
    split
    · conv_lhs => rw [setImageState_eq]
      rw [setImageState_eq]
    all_goals rfl

section
variable (c : StoredContent) (t : State)

theorem noteChange_requests : (State.noteChange c t).requests = t.requests := by rw [noteChange_eq]

theorem noteChange_plan : (State.noteChange c t).plan = t.plan := by rw [noteChange_eq]

theorem noteChange_guide : (State.noteChange c t).guide = t.guide := by rw [noteChange_eq]

theorem noteChange_directives : (State.noteChange c t).outbox.directives = t.outbox.directives := by
  rw [noteChange_eq]

end

/-! ### The Request Table written -/

/-- The Request Table replaced, as a change of stored content. -/
def withRequests (rs : List Request) (u : State) : State := State.noteChange u.storedContent { u with requests := rs }

section
variable (rs : List Request) (u : State)

theorem withRequests_requests : (withRequests rs u).requests = rs := noteChange_requests _ _

theorem withRequests_plan : (withRequests rs u).plan = u.plan := noteChange_plan _ _

theorem withRequests_guide : (withRequests rs u).guide = u.guide := noteChange_guide _ _

theorem withRequests_directives : (withRequests rs u).outbox.directives = u.outbox.directives :=
  noteChange_directives _ _

theorem withRequests_standing : (withRequests rs u).standing = u.standing := (noteChange_works _ _).standing

end

/-- The requests with one number replaced by what `f` makes of them. -/
def replacing (n : Nat) (f : Request → Request) (rs : List Request) : List Request :=
  rs.map fun r => if r.number == n then f r else r

theorem changing_insertRequest (r : Request) (u : State) :
    u.changing (fun t => t.insertRequest r) = withRequests (insertBy requestBefore r u.requests) u := rfl

/-- A request put into the table is a change of stored content, unless it is DROPPING (R180). -/
theorem insertRequest_notCurrent {r : Request} (h : r.state ≠ .dropping) (u : State) :
    (withRequests (insertBy requestBefore r u.requests) u).image.state ≠ .current := by
  refine noteChange_notCurrent fun he => ?_
  have hlen := congrArg List.length (congrArg StoredContent.requests he)
  have hperm := ((insertBy_perm requestBefore r u.requests).filter fun x => x.state != .dropping).length_eq
  rw [List.filter_cons_of_pos (by simpa using h), List.length_cons] at hperm
  exact absurd (hlen.symm.trans hperm) (by simp [State.storedContent])

/-! ### The lowest empty slot (R51) -/

/-- The lowest number of the search that is not taken is the one found. -/
theorem lowestFree_eq_some {taken : List Nat} {fuel n k : Nat} (hlo : n ≤ k) (hhi : k < n + fuel) (hfree : k ∉ taken)
    (hleast : ∀ m, n ≤ m → m < k → m ∈ taken) : lowestFree taken fuel n = some k := by
  cases hfound : lowestFree taken fuel n with
  | none => exact absurd (lowestFree_eq_none hfound k hlo hhi) hfree
  | some j =>
    obtain ⟨hj, -, hjfree⟩ := lowestFree_spec hfound
    rcases Nat.lt_trichotomy j k with hlt | rfl | hlt
    · exact absurd (hleast j hj hlt) hjfree
    · rfl
    · exact absurd (lowestFree_least hfound k hlo hlt) hfree

section
variable {u : State}

theorem freeRequest_eq_some {n : Nat} (hlo : 1 ≤ n) (hhi : n ≤ 48) (hfree : n ∉ u.requests.map Request.number)
    (hleast : ∀ m, 1 ≤ m → m < n → m ∈ u.requests.map Request.number) : freeRequest u = some n :=
  lowestFree_eq_some hlo (show n < 1 + 48 by omega) hfree hleast

theorem freeRequest_eq_none (h : ∀ n, 1 ≤ n → n ≤ 48 → n ∈ u.requests.map Request.number) : freeRequest u = none := by
  cases hfound : freeRequest u with
  | none => rfl
  | some n =>
    obtain ⟨hlo, hhi, hfree⟩ := lowestFree_spec hfound
    exact absurd (h n hlo (Nat.le_of_lt_succ (show n < 48 + 1 by rw [Nat.add_comm]; exact hhi))) hfree

end

/-! ### REQ_ADD's owner (R54) -/

theorem arrive_settings (i : Instr) (d : Dest) (s : State) : (arrive i d s).settings = s.settings :=
  (arrive_present_clock_settings i d s).2.2

theorem arrive_singleEnded (i : Instr) (d : Dest) (s : State) (k : RequestKind) :
    singleEnded (arrive i d s) k = singleEnded s k := by
  obtain ⟨hpresent, hclock, -⟩ := arrive_present_clock_settings i d s
  cases k with
  | timed f => simp only [singleEnded, hpresent, hclock]
  | event f => rfl
  | series f => rfl

/-- The table's answer to a request that passes every test before the last (R54 test 6). -/
def enterRequest (q : AskedRequest) (u : State) : State × Answer :=
  match freeRequest u with
  | none => refuse u .full
  | some n => accept (settle (deriveAndPass (withRequests (insertBy requestBefore (q.request n) u.requests) u)))
    (.reqAdd n q.clamped (tierOf u.settings (q.request n)))

theorem enterRequest_full {u : State} (q : AskedRequest) (h : freeRequest u = none) :
    enterRequest q u = refuse u .full := by rw [enterRequest, h]

theorem enterRequest_free {u : State} {n : Nat} (q : AskedRequest) (h : freeRequest u = some n) : enterRequest q u =
    accept (settle (deriveAndPass (withRequests (insertBy requestBefore (q.request n) u.requests) u)))
      (.reqAdd n q.clamped (tierOf u.settings (q.request n))) := by rw [enterRequest, h]

theorem channelMissing_iff (s : State) (k : RequestKind) :
    channelMissing s k = true ↔ k.channel ≠ 0 ∧ s.hasService k.channel = false := by
  rw [channelMissing, Bool.and_eq_true, bne_iff_ne, Bool.not_eq_true']

section
variable {a : ReqAddArgs} {q : AskedRequest} {u : State}

theorem reqAddWork_busy (h : u.saving = true) : reqAddWork a u = refuse u .busy := if_pos h

theorem reqAddWork_range (h : u.saving = false) (ha : asked a = none) : reqAddWork a u = refuse u .range := by
  rw [reqAddWork, h, ha, if_neg Bool.false_ne_true]

/-- The tests of a request with its fields in range, in their order. -/
theorem reqAddWork_asked (h : u.saving = false) (ha : asked a = some q) : reqAddWork a u =
    if singleEnded u q.kind = true then refuse u .range
    else if q.kind.channel ≠ 0 ∧ u.hasService q.kind.channel = false then refuse u .unknown
    else if ∃ r ∈ u.requests, duplicates q.kind r.kind = true then refuse u .state
    else enterRequest q u := by
  rw [reqAddWork, h, ha, if_neg Bool.false_ne_true]
  simp only [channelMissing_iff, List.any_eq_true, changing_insertRequest]
  rfl

end

/-- Settles O26: the tests in their order, then the write (`withRequests`) with its derivation and pass. -/
theorem reqAddFillsTheLowestSlot : Obligations.ReqAddFillsTheLowestSlot := by
  intro d a s hr hk c u
  refine ⟨fun hbusy => exec_refused rfl hr hk (reqAddWork_busy hbusy),
    fun hsave hnone => exec_refused rfl hr hk (reqAddWork_range hsave hnone), fun q hsave hq => ?_⟩
  have hwork := reqAddWork_asked hsave hq
  rw [arrive_singleEnded, arrive_hasService] at hwork
  refine ⟨fun hended => ?ended, fun hahead hchannel hnone => ?missing, fun hahead hchannel => ?_⟩
  case ended => exact exec_refused rfl hr hk (hwork.trans (if_pos hended))
  all_goals replace hwork := hwork.trans (if_neg (Bool.eq_false_iff.mp hahead))
  case missing => exact exec_refused rfl hr hk (hwork.trans (if_pos ⟨hchannel, hnone⟩))
  replace hwork := hwork.trans (if_neg (not_and_or.mpr (hchannel.imp not_not_intro fun hhas => by simp [hhas])))
  refine ⟨fun hdup => exec_refused rfl hr hk (hwork.trans (if_pos hdup)), fun hnew => ?_⟩
  replace hwork := hwork.trans (if_neg (by simpa using hnew))
  refine ⟨fun hfull => ?_, fun n hlo hhi hfree hleast => ?_⟩
  · exact exec_refused rfl hr hk (hwork.trans (enterRequest_full q (freeRequest_eq_none hfull)))
  · replace hwork := hwork.trans (enterRequest_free q (freeRequest_eq_some hlo hhi hfree hleast))
    rw [arrive_settings] at hwork
    exact ⟨_, withRequests_requests _ _, insertRequest_notCurrent RequestState.noConfusion u, withRequests_standing _ _,
      withRequests_plan _ _, withRequests_guide _ _, exec_accepted rfl hr hk hwork⟩

end Sys2Proof.Machine

/-! PROOFS. REQ_EDIT (R59, R60), and requests named by their number. -/

namespace Sys2Proof.Machine

/-! ### A request named by its number (R59, R61) -/

theorem requestNumberOk_iff (n : Byte) : requestNumberOk n = true ↔ 1 ≤ n.toNat ∧ n.toNat ≤ 48 := by
  rw [requestNumberOk, Bool.and_eq_true, decide_eq_true_iff, decide_eq_true_iff]; rfl

theorem requestNumberOk_eq_false {n : Byte} (h : n.toNat = 0 ∨ 48 < n.toNat) : requestNumberOk n = false := by
  rw [Bool.eq_false_iff, Ne, requestNumberOk_iff]; omega

/-! ### The fields of a REQ_EDIT (R59, R60) -/

theorem padClamped_eq (w : Word16) : padClamped w = (decide (w.toNat ≠ 65535) && decide (3600 < w.toNat)) := by
  rw [Bool.eq_iff_iff, padClamped_iff, Bool.and_eq_true, decide_eq_true_iff, decide_eq_true_iff]

theorem commonClamped_eq (c : ReqCommon) : commonClamped c = (decide (15 < c.importance.toNat)
    || (decide (c.prePad.toNat ≠ 65535) && decide (3600 < c.prePad.toNat))
    || (decide (c.postPad.toNat ≠ 65535) && decide (3600 < c.postPad.toNat))) := by
  rw [← padClamped_eq, ← padClamped_eq]; rfl

theorem editTimesSame_timed (c : ReqCommon) (du : Word16) (days : Byte) (st : Word32) (f : TimedFields) :
    editTimesSame (.timed c du days st) (.timed f) = true ↔ st.toNat = f.start ∧ min du.toNat 43200 = f.duration := by
  rw [editTimesSame, Bool.and_eq_true, beq_iff_eq, beq_iff_eq]; rfl

theorem editDaysOk_timed (c : ReqCommon) (du : Word16) {days : Byte} (st : Word32) (f : TimedFields)
    (h : days.toNat < 128) : editDaysOk (.timed c du days st) (.timed f) = true ↔ (days = 0 ↔ f.days = 0) := by
  rw [editDaysOk, beq_iff_eq, Bool.eq_iff_iff, beq_iff_eq, beq_iff_eq, daysOf_eq_zero_iff h]

theorem singleRunning_iff (u : State) (r : Request) : singleRunning u r = true ↔
    r.isSingle = true ∧ ∃ x ∈ u.plan.bookings, x.request = r.number ∧ x.isRunning = true := by
  simp only [singleRunning, State.liveOf, Bool.and_eq_true, List.any_eq_true, List.mem_filter, beq_iff_eq, and_assoc]

theorem singleEnded_iff (s : State) (k : RequestKind) : singleEnded s k = true ↔
    ∃ f, k = .timed f ∧ f.days = 0 ∧ s.clockSet = true ∧ f.start + f.duration ≤ s.present := by
  cases k with
  | timed f =>
    simp only [singleEnded, Bool.and_eq_true, beq_iff_eq, decide_eq_true_eq, RequestKind.timed.injEq, and_assoc,
      exists_eq_left']
  | event f => simp [singleEnded]
  | series f => simp [singleEnded]

/-! ### REQ_EDIT's owner -/

/-- A request passes the STATE tests of an edit (R59 tests 4 to 7). -/
def EditFits (b : ReqEditBody) (r : Request) (u : State) : Prop :=
  r.state ≠ .dropping ∧ editKindOk b r.kind = true ∧ editDaysOk b r.kind = true
    ∧ (singleRunning u r = true → editTimesSame b r.kind = true)

section
variable {a : ReqEditArgs} {r : Request} {u : State}

theorem reqEditWork_busy (h : u.saving = true) : reqEditWork a u = refuse u .busy := if_pos h

theorem reqEditWork_range (h : u.saving = false)
    (ho : ¬ (requestNumberOk a.number = true ∧ editRangeOk a.body = true)) : reqEditWork a u = refuse u .range := by
  rw [reqEditWork, h, if_neg Bool.false_ne_true, if_pos (by simpa [imp_iff_not_or] using ho)]

theorem reqEditWork_unknown (h : u.saving = false) (hn : requestNumberOk a.number = true)
    (hb : editRangeOk a.body = true) (hreq : u.request? a.number.toNat = none) :
    reqEditWork a u = refuse u .unknown := by
  rw [reqEditWork, h, hn, hb, hreq]; rfl

/-- The tests of a request in the table, in their order. -/
theorem reqEditWork_found (h : u.saving = false) (hn : requestNumberOk a.number = true)
    (hb : editRangeOk a.body = true) (hreq : u.request? a.number.toNat = some r) : reqEditWork a u =
    if r.state = .dropping then refuse u .state
    else if editKindOk a.body r.kind = false then refuse u .state
    else if editDaysOk a.body r.kind = false then refuse u .state
    else if singleRunning u r = true ∧ editTimesSame a.body r.kind = false then refuse u .state
    else if editEnded u a.body r = true then refuse u .range
    else editAccepted a.body r u := by
  simp only [reqEditWork, h, hn, hb, hreq, Bool.not_eq_true', Bool.and_eq_true, Bool.not_true, Bool.or_self,
    Bool.false_eq_true, if_false]

theorem reqEditWork_fits (h : u.saving = false) (hn : requestNumberOk a.number = true)
    (hb : editRangeOk a.body = true) (hreq : u.request? a.number.toNat = some r) (hfits : EditFits a.body r u) :
    reqEditWork a u = if editEnded u a.body r = true then refuse u .range else editAccepted a.body r u := by
  obtain ⟨hdrop, hkind, hdays, htimes⟩ := hfits
  rw [reqEditWork_found h hn hb hreq, if_neg hdrop, if_neg (by simp [hkind]), if_neg (by simp [hdays]),
    if_neg fun ⟨hruns, hmoved⟩ => by simp [htimes hruns] at hmoved]

theorem reqEditWork_misfits (h : u.saving = false) (hn : requestNumberOk a.number = true)
    (hb : editRangeOk a.body = true) (hreq : u.request? a.number.toNat = some r) (hmis : ¬ EditFits a.body r u) :
    reqEditWork a u = refuse u .state := by
  rw [reqEditWork_found h hn hb hreq]
  by_cases hdrop : r.state = .dropping
  · exact if_pos hdrop
  rw [if_neg hdrop]
  by_cases hkind : editKindOk a.body r.kind = false
  · exact if_pos hkind
  rw [if_neg hkind]
  by_cases hdays : editDaysOk a.body r.kind = false
  · exact if_pos hdays
  rw [if_neg hdays]
  by_cases htimes : singleRunning u r = true ∧ editTimesSame a.body r.kind = false
  · exact if_pos htimes
  · exact absurd ⟨hdrop, by simpa using hkind, by simpa using hdays, by simpa using htimes⟩ hmis

theorem not_editFits {b : ReqEditBody} (h : editKindOk b r.kind = false) : ¬ EditFits b r u :=
  fun ⟨_, hkind, _, _⟩ => Bool.false_ne_true (h.symm.trans hkind)

theorem editFits_timed {x : ReqCommon} {du : Word16} {days : Byte} {st : Word32} {f : TimedFields}
    (hkind : r.kind = .timed f) (hdays : days.toNat < 128) : EditFits (.timed x du days st) r u ↔
      r.state ≠ .dropping ∧ (days = 0 ↔ f.days = 0) ∧ (f.days = 0 →
        (∃ b ∈ u.plan.bookings, b.request = r.number ∧ b.isRunning = true) →
          st.toNat = f.start ∧ min du.toNat 43200 = f.duration) := by
  have hsingle : r.isSingle = true ↔ f.days = 0 := by rw [Request.isSingle, hkind]; exact beq_iff_eq
  rw [EditFits, hkind, editDaysOk_timed x du st f hdays, singleRunning_iff, hsingle, editTimesSame_timed, and_imp]
  exact and_congr_right fun _ => ⟨And.right, fun h => ⟨rfl, h⟩⟩

theorem editFits_event {x : ReqCommon} {f : EventFields} (hkind : r.kind = .event f) :
    EditFits (.event x) r u ↔ r.state ≠ .dropping := by
  rw [EditFits, hkind]
  exact ⟨And.left, fun h => ⟨h, rfl, rfl, fun _ => rfl⟩⟩

theorem editFits_series {x : ReqCommon} {f : SeriesFields} (hkind : r.kind = .series f) :
    EditFits (.series x) r u ↔ r.state ≠ .dropping := by
  rw [EditFits, hkind]
  exact ⟨And.left, fun h => ⟨h, rfl, rfl, fun _ => rfl⟩⟩

theorem editAccepted_same {b : ReqEditBody} (h : editedRequest b r = r) : editAccepted b r u =
    accept u (.reqEdit false (editClamped b) (tierOf u.settings (editedRequest b r))) := if_pos h

theorem editAccepted_differs {b : ReqEditBody} (h : editedRequest b r ≠ r) : editAccepted b r u =
    accept (if r.state = .active then
        settle (deriveAndPass (withRequests (replacing r.number (fun _ => editedRequest b r) u.requests) u))
      else withRequests (replacing r.number (fun _ => editedRequest b r) u.requests) u)
      (.reqEdit true (editClamped b) (tierOf u.settings (editedRequest b r))) := if_neg h

end

/-- Settles O27: the tests in their order (`EditFits`, `editEnded`), then the edited request written. -/
theorem reqEditReplacesTheFields : Obligations.ReqEditReplacesTheFields := by
  refine ⟨fun d a s hr hk => ?tests, fun b => ?range, fun d a s r hr hk => ?found⟩
  case tests =>
    intro c u ok
    refine ⟨fun hbusy => exec_refused rfl hr hk (reqEditWork_busy hbusy), fun hsave hout => ?_,
      fun hsave ⟨hlo, hhi, hbody⟩ hnone => ?_⟩
    · exact exec_refused rfl hr hk (reqEditWork_range hsave fun ⟨hn, hbody⟩ =>
        hout ⟨((requestNumberOk_iff _).mp hn).1, ((requestNumberOk_iff _).mp hn).2, hbody⟩)
    · exact exec_refused rfl hr hk
        (reqEditWork_unknown hsave ((requestNumberOk_iff _).mpr ⟨hlo, hhi⟩) hbody hnone)
  case range =>
    cases b with
    | timed c du days st => exact timedRangeOk_iff du days st
    | event c => exact iff_of_true rfl trivial
    | series c => exact iff_of_true rfl trivial
    | other kind rest => exact iff_of_false Bool.false_ne_true id
  case found =>
    obtain ⟨n, body⟩ := a
    intro c u hsave hlo hhi hbody hreq common pad above q clamped timesStay fits ended tier
    have hn : requestNumberOk n = true := (requestNumberOk_iff n).mpr ⟨hlo, hhi⟩
    have hq : editedRequest body r = q := by
      obtain ⟨_, _, _, _, _, _, kind⟩ := r
      cases body <;> cases kind <;> rfl
    have hclamped : editClamped body = clamped := by
      cases body with
      | timed x du days st => exact congrArg (· || timedClamped du) (commonClamped_eq x)
      | event x => exact (commonClamped_eq x).trans (Bool.or_false _).symm
      | series x => exact (commonClamped_eq x).trans (Bool.or_false _).symm
      | other kind rest => exact absurd hbody Bool.false_ne_true
    have htimes : editTimesSame body r.kind = true ↔ timesStay := by
      obtain ⟨_, _, _, _, _, _, kind⟩ := r
      cases body with
      | timed x du days st =>
        cases kind with
        | timed f => exact editTimesSame_timed x du days st f
        | event f => exact iff_of_true rfl trivial
        | series f => exact iff_of_true rfl trivial
      | event x => exact iff_of_true rfl trivial
      | series x => exact iff_of_true rfl trivial
      | other kind rest => exact iff_of_true rfl trivial
    have hfits : EditFits body r u ↔ fits := by
      obtain ⟨_, _, _, _, _, _, kind⟩ := r
      cases body with
      | timed x du days st =>
        cases kind with
        | timed f => exact editFits_timed rfl ((timedRangeOk_iff du days st).mp hbody).2.1
        | event f => exact iff_of_false (not_editFits rfl) And.right
        | series f => exact iff_of_false (not_editFits rfl) And.right
      | event x =>
        cases kind with
        | timed f => exact iff_of_false (not_editFits rfl) And.right
        | event f => exact (editFits_event rfl).trans (iff_of_eq (and_true _).symm)
        | series f => exact iff_of_false (not_editFits rfl) And.right
      | series x =>
        cases kind with
        | timed f => exact iff_of_false (not_editFits rfl) And.right
        | event f => exact iff_of_false (not_editFits rfl) And.right
        | series f => exact (editFits_series rfl).trans (iff_of_eq (and_true _).symm)
      | other kind rest => exact absurd hbody Bool.false_ne_true
    have hended : editEnded u body r = true ↔ ended := by
      have hkind : editKind body r.kind = q.kind := congrArg Request.kind hq
      rw [editEnded, Bool.and_eq_true, Bool.not_eq_true', Bool.eq_false_iff, Ne, htimes, arrive_singleEnded,
        singleEnded_iff, hkind]
    refine ⟨fun hmis => ?_, fun hfit hend => ?_, fun hfit hahead => ⟨fun hsame => ?_, fun hdiff => ?_⟩⟩
    · exact exec_refused rfl hr hk (reqEditWork_misfits hsave hn hbody hreq (mt hfits.mp hmis))
    all_goals have hwork := reqEditWork_fits hsave hn hbody hreq (hfits.mpr hfit)
    · exact exec_refused rfl hr hk (hwork.trans (if_pos (hended.mpr hend)))
    all_goals replace hwork := hwork.trans (if_neg (mt hended.mp hahead))
    · replace hwork := hwork.trans (editAccepted_same (hq.trans hsame))
      rw [hq, hclamped, arrive_settings] at hwork
      exact exec_accepted rfl hr hk hwork
    · replace hwork := hwork.trans (editAccepted_differs (hq.trans_ne hdiff))
      rw [hq, hclamped, arrive_settings] at hwork
      refine ⟨_, withRequests_requests _ _, withRequests_standing _ _, withRequests_plan _ _, withRequests_guide _ _,
        fun hpaused => ?_, fun hactive => ?_⟩
      · rw [if_neg (by simp [hpaused])] at hwork
        exact exec_accepted rfl hr hk hwork
      · rw [if_pos hactive] at hwork
        exact exec_accepted rfl hr hk hwork

end Sys2Proof.Machine

/-! PROOFS. REQ_PAUSE, REQ_RESUME and REQ_DROP (R61 to R63). -/

namespace Sys2Proof.Machine

/-! ### The silent removal of waiting bookings (R61) -/

theorem pinDown_eq (s : State) (k : OccurrenceKey) : s.pinDown k = { s with guide := (s.pinDown k).guide } := by
  cases k <;> rfl

/-- Pins released one after another touch the guide store alone. -/
theorem foldl_pinDown_eq (bs : List Booking) (s : State) : bs.foldl (fun t b => t.pinDown b.key) s
    = { s with guide := (bs.foldl (fun t b => t.pinDown b.key) s).guide } := by
  induction bs generalizing s with
  | nil => rfl
  | cons b bs ih =>
    rw [List.foldl_cons, ih, pinDown_eq]

/-- The waiting bookings of a request. -/
def waits (n : Nat) (b : Booking) : Bool := b.request == n && b.isWaiting

theorem waitingOf_eq (n : Nat) (u : State) : waitingOf u n = u.plan.bookings.filter (waits n) := by
  rw [waitingOf, State.liveOf, List.filter_filter]
  exact List.filter_congr fun b _ => Bool.and_comm _ _

/-- A silent removal touches the Booking List and the guide store alone. -/
theorem removeWaiting_eq (n : Nat) (u : State) : removeWaiting n u =
    { u.withBookings (u.plan.bookings.filter fun b => !waits n b) with guide := (removeWaiting n u).guide } :=
  foldl_pinDown_eq _ _

section
variable (n : Nat) (u : State)

theorem removeWaiting_bookings :
    (removeWaiting n u).plan.bookings = u.plan.bookings.filter fun b => !waits n b := by rw [removeWaiting_eq]; rfl

theorem removeWaiting_requests : (removeWaiting n u).requests = u.requests := by rw [removeWaiting_eq]; rfl

theorem removeWaiting_directives : (removeWaiting n u).outbox.directives = u.outbox.directives := by
  rw [removeWaiting_eq]; rfl

/-- What is left of a request's bookings. -/
theorem removeWaiting_liveOf : (removeWaiting n u).liveOf n
    = u.plan.bookings.filter fun b => b.request == n && !b.isWaiting := by
  rw [State.liveOf, removeWaiting_bookings, List.filter_filter]
  refine List.filter_congr fun b _ => ?_
  rw [waits]
  cases b.request == n <;> rfl

end

/-! ### The tests of a message that names a request (R61 to R63) -/

/-- Work on the request a message names, after the tests that REQ_PAUSE, REQ_RESUME and REQ_DROP share. -/
def onRequest (f : Request → State → State × Answer) (n : Byte) (u : State) : State × Answer :=
  if u.saving then refuse u .busy
  else if !requestNumberOk n then refuse u .range
  else match u.request? n.toNat with
    | none => refuse u .unknown
    | some r => f r u

section
variable {f : Request → State → State × Answer} {n : Byte} {u : State}

theorem onRequest_busy (h : u.saving = true) : onRequest f n u = refuse u .busy := if_pos h

theorem onRequest_range (h : u.saving = false) (hn : requestNumberOk n = false) :
    onRequest f n u = refuse u .range := by
  rw [onRequest, h, hn]; rfl

theorem onRequest_unknown (h : u.saving = false) (hn : requestNumberOk n = true) (hreq : u.request? n.toNat = none) :
    onRequest f n u = refuse u .unknown := by
  rw [onRequest, h, hn, hreq]; rfl

theorem onRequest_found (h : u.saving = false) (hlo : 1 ≤ n.toNat) (hhi : n.toNat ≤ 48) {r : Request}
    (hreq : u.request? n.toNat = some r) : onRequest f n u = f r u := by
  rw [onRequest, h, (requestNumberOk_iff n).mpr ⟨hlo, hhi⟩, hreq]; rfl

/-- What such a message refuses before it looks at the request. -/
theorem exec_onRequest_refused {i : Instr} {d : Dest} {s : State}
    (hi : exec i s = .next (message i d (.fields n) (onRequest f) s)) (hr : s.running = true)
    (hk : s.line.state.takes = true) :
    let u := arrive i d s
    (u.saving = true → exec i s = .next (u.answering d (.refused (kindByte i) .busy [])))
    ∧ (u.saving = false → n.toNat = 0 ∨ 48 < n.toNat →
      exec i s = .next (u.answering d (.refused (kindByte i) .range [])))
    ∧ (u.saving = false → 1 ≤ n.toNat → n.toNat ≤ 48 → u.request? n.toNat = none →
      exec i s = .next (u.answering d (.refused (kindByte i) .unknown []))) :=
  ⟨fun hbusy => exec_refused hi hr hk (onRequest_busy hbusy),
    fun hsave hout => exec_refused hi hr hk (onRequest_range hsave (requestNumberOk_eq_false hout)),
    fun hsave hlo hhi hnone =>
      exec_refused hi hr hk (onRequest_unknown hsave ((requestNumberOk_iff n).mpr ⟨hlo, hhi⟩) hnone)⟩

end

/-! ### The owners of REQ_PAUSE, REQ_RESUME and REQ_DROP -/

/-- A request's state written, its waiting bookings gone. -/
def stateWritten (st : RequestState) (n : Nat) (u : State) : State :=
  withRequests (replacing n (fun r => { r with state := st }) u.requests) (removeWaiting n u)

theorem stateWritten_eq (st : RequestState) (n : Nat) (u : State) :
    (removeWaiting n u).changing (fun t => t.setRequestState n st) = stateWritten st n u := by
  rw [stateWritten, ← removeWaiting_requests n u]; rfl

/-- The table's act at a REQ_DROP: the request removed, or DROPPING while bookings of it remain (R63). -/
def dropped (n : Nat) (u : State) : State := (removeWaiting n u).changing (dropRequest n)

/-- REQ_PAUSE of a request in the table (R61). -/
def pauseFound (r : Request) (u : State) : State × Answer :=
  match r.state with
  | .dropping => refuse u .state
  | .paused => accept u (.reqPause none)
  | .active => accept (passIfRemoved (waitingOf u r.number).length
      ((removeWaiting r.number u).changing fun t => t.setRequestState r.number .paused))
    (.reqPause (some (waitingOf u r.number).length))

/-- REQ_RESUME of a request in the table (R62). -/
def resumeFound (r : Request) (u : State) : State × Answer :=
  match r.state with
  | .dropping => refuse u .state
  | .active => accept u (.reqResume false)
  | .paused => accept (settle (deriveAndPass (u.changing fun t => t.setRequestState r.number .active)))
    (.reqResume true)

/-- REQ_DROP of a request in the table (R63). -/
def dropFound (r : Request) (u : State) : State × Answer :=
  if r.state = .dropping then accept u (.reqDrop .alreadyDropping)
  else accept (passIfRemoved (waitingOf u r.number).length (dropped r.number u))
    (.reqDrop (dropResult r.number (removeWaiting r.number u)))

theorem reqPauseWork_eq : reqPauseWork = onRequest pauseFound := rfl

theorem reqResumeWork_eq : reqResumeWork = onRequest resumeFound := rfl

theorem reqDropWork_eq : reqDropWork = onRequest dropFound := rfl

section
variable {r : Request} (u : State)

theorem pauseFound_dropping (h : r.state = .dropping) : pauseFound r u = refuse u .state := by rw [pauseFound, h]

theorem pauseFound_paused (h : r.state = .paused) : pauseFound r u = accept u (.reqPause none) := by rw [pauseFound, h]

theorem pauseFound_active (h : r.state = .active) : pauseFound r u =
    accept (passIfRemoved (u.plan.bookings.filter (waits r.number)).length (stateWritten .paused r.number u))
      (.reqPause (some (u.plan.bookings.filter (waits r.number)).length)) := by
  rw [pauseFound, h, waitingOf_eq, stateWritten_eq]

theorem resumeFound_dropping (h : r.state = .dropping) : resumeFound r u = refuse u .state := by rw [resumeFound, h]

theorem resumeFound_active (h : r.state = .active) : resumeFound r u = accept u (.reqResume false) := by
  rw [resumeFound, h]

theorem resumeFound_paused (h : r.state = .paused) : resumeFound r u = accept
    (settle (deriveAndPass (withRequests (replacing r.number (fun x => { x with state := .active }) u.requests) u)))
    (.reqResume true) := by
  rw [resumeFound, h]; rfl

theorem dropFound_dropping (h : r.state = .dropping) : dropFound r u = accept u (.reqDrop .alreadyDropping) := if_pos h

theorem dropFound_live (h : r.state ≠ .dropping) : dropFound r u =
    accept (passIfRemoved (u.plan.bookings.filter (waits r.number)).length (dropped r.number u))
      (.reqDrop (dropResult r.number (removeWaiting r.number u))) := by
  rw [dropFound, if_neg h, waitingOf_eq]

end

/-! ### What the owners write -/

section
variable (n : Nat) (u : State)

theorem stateWritten_bookings (st : RequestState) :
    (stateWritten st n u).plan.bookings = u.plan.bookings.filter fun b => !waits n b := by
  rw [stateWritten, withRequests_plan, removeWaiting_bookings]

theorem stateWritten_standing (st : RequestState) : (stateWritten st n u).standing = u.standing :=
  (withRequests_standing _ _).trans (removeWaiting_works n u).standing

theorem stateWritten_directives (st : RequestState) :
    (stateWritten st n u).outbox.directives = u.outbox.directives := by
  rw [stateWritten, withRequests_directives, removeWaiting_directives]

theorem dropRequest_plan : (dropRequest n u).plan = u.plan := by
  unfold dropRequest; split <;> rfl

/-- With bookings left the request stays, DROPPING; with none it goes, and its number from every settled set (R31). -/
theorem dropRequest_tables :
    (u.liveOf n = [] → (dropRequest n u).requests = u.requests.filter (fun r => r.number != n)
      ∧ ∀ e ∈ (dropRequest n u).guide.entries, n ∉ e.settled)
    ∧ (u.liveOf n ≠ [] →
      (dropRequest n u).requests = replacing n (fun r => { r with state := .dropping }) u.requests) := by
  unfold dropRequest
  refine ⟨fun hnone => ?_, fun hsome => ?_⟩
  · rw [if_pos (List.isEmpty_iff.mpr hnone)]
    refine ⟨rfl, fun e he => ?_⟩
    obtain ⟨e', -, rfl⟩ := List.mem_map.mp he
    simp
  · rw [if_neg (mt List.isEmpty_iff.mp hsome)]; rfl

theorem dropped_bookings : (dropped n u).plan.bookings = u.plan.bookings.filter fun b => !waits n b := by
  rw [dropped, State.changing, noteChange_plan, dropRequest_plan, removeWaiting_bookings]

theorem dropped_standing : (dropped n u).standing = u.standing :=
  ((removeWaiting_works n u).trans (changing_works _ _ (dropRequest_works n _))).standing

/-- What is left of a request's bookings decides what a REQ_DROP writes and reports. -/
theorem dropped_tables {left : List Booking}
    (h : left = u.plan.bookings.filter fun b => b.request == n && !b.isWaiting) :
    (left = [] → (dropped n u).requests = u.requests.filter (fun r => r.number != n)
      ∧ ∀ e ∈ (dropped n u).guide.entries, n ∉ e.settled)
    ∧ (left ≠ [] → (dropped n u).requests = replacing n (fun r => { r with state := .dropping }) u.requests)
    ∧ dropResult n (removeWaiting n u) = if left = [] then .removed else .dropping left.length := by
  obtain ⟨hnone, hsome⟩ := dropRequest_tables n (removeWaiting n u)
  rw [removeWaiting_liveOf, ← h, removeWaiting_requests] at hnone hsome
  rw [dropped, State.changing, noteChange_requests, noteChange_guide, dropResult, removeWaiting_liveOf, ← h]
  exact ⟨hnone, hsome, by simp only [List.isEmpty_iff]⟩

end

/-- Settles O28: the tests the three messages share (`onRequest`), then each one's act on the request. -/
theorem requestsPauseResumeAndDrop : Obligations.RequestsPauseResumeAndDrop := by
  refine ⟨fun d n s hr hk p hp => ?shared, fun d n s r hr hk hlo hhi => ?_⟩
  case shared =>
    simp only [List.mem_cons, List.not_mem_nil, or_false] at hp
    rcases hp with rfl | rfl | rfl
    · exact exec_onRequest_refused (f := dropFound) rfl hr hk
    · exact exec_onRequest_refused (f := pauseFound) rfl hr hk
    · exact exec_onRequest_refused (f := resumeFound) rfl hr hk
  refine ⟨?pause, ?resume, ?drop⟩
  case pause =>
    intro c u hsave hreq
    have hwork : reqPauseWork n u = pauseFound r u := by
      rw [reqPauseWork_eq]; exact onRequest_found hsave hlo hhi hreq
    refine ⟨fun hst => ?_, fun hst => ?_, fun hst => ?_⟩
    · exact exec_refused rfl hr hk (hwork.trans (pauseFound_dropping u hst))
    · exact exec_accepted rfl hr hk (hwork.trans (pauseFound_paused u hst))
    · exact ⟨stateWritten .paused r.number u, withRequests_requests _ _, stateWritten_bookings _ _ _,
        stateWritten_standing _ _ _, stateWritten_directives _ _ _,
        exec_accepted rfl hr hk (hwork.trans (pauseFound_active u hst))⟩
  case resume =>
    intro c u hsave hreq
    have hwork : reqResumeWork n u = resumeFound r u := by
      rw [reqResumeWork_eq]; exact onRequest_found hsave hlo hhi hreq
    refine ⟨fun hst => ?_, fun hst => ?_, fun hst => ?_⟩
    · exact exec_refused rfl hr hk (hwork.trans (resumeFound_dropping u hst))
    · exact exec_accepted rfl hr hk (hwork.trans (resumeFound_active u hst))
    · exact ⟨_, withRequests_requests _ _, withRequests_plan _ _, withRequests_standing _ _,
        exec_accepted rfl hr hk (hwork.trans (resumeFound_paused u hst))⟩
  case drop =>
    intro c u left hsave hreq
    have hwork : reqDropWork n u = dropFound r u := by
      rw [reqDropWork_eq]; exact onRequest_found hsave hlo hhi hreq
    refine ⟨fun hst => ?_, fun hst => ?_⟩
    · exact exec_accepted rfl hr hk (hwork.trans (dropFound_dropping u hst))
    · obtain ⟨hnone, hsome, hresult⟩ := dropped_tables r.number u (left := left) rfl
      replace hwork := hwork.trans (dropFound_live u hst)
      rw [hresult] at hwork
      exact ⟨dropped r.number u, dropped_bookings _ _, dropped_standing _ _, hnone, hsome,
        exec_accepted rfl hr hk hwork⟩

end Sys2Proof.Machine

/-! PROOFS. REQ_READ (R64), and what a finish report writes into a request (R66 to R68). -/

namespace Sys2Proof.Machine

/-! ### REQ_READ (R64) -/

/-- A list already in order is left as it is. -/
theorem sortBy_of_pairwise {α : Type} {before : α → α → Bool} {xs : List α}
    (h : xs.Pairwise fun y z => before z y = false) : sortBy before xs = xs := by
  induction xs with
  | nil => rfl
  | cons x xs ih =>
    obtain ⟨hx, hxs⟩ := List.pairwise_cons.mp h
    rw [sortBy, ih hxs]
    cases xs with
    | nil => rfl
    | cons y ys => rw [sortBy.insertStable, hx y List.mem_cons_self, if_neg Bool.false_ne_true]

section
variable {a : ReqReadArgs} {u : State}

theorem mem_requestsFrom {n : Nat} {r : Request} : r ∈ requestsFrom u n ↔ r ∈ u.requests ∧ n ≤ r.number := by
  rw [requestsFrom, (sortBy_perm _ _).mem_iff, List.mem_filter, decide_eq_true_iff]

/-- The requests of an ordered table from a number on, in its order. -/
theorem requestsFrom_rising (h : requestsOk u.requests) (n : Nat) : rising ((requestsFrom u n).map Request.number) := by
  have hrising : rising ((u.requests.filter fun r => decide (n ≤ r.number)).map Request.number) :=
    rising_sublist h.1 (List.filter_sublist.map _)
  rw [requestsFrom, sortBy_of_pairwise]
  · exact hrising
  · exact (List.pairwise_map.mp hrising).imp fun hlt => decide_eq_false (Nat.not_lt.mpr hlt.le)

theorem reqReadWork_range (h : 48 < a.start.toNat ∨ 1 < a.part.toNat) : reqReadWork a u = refuse u .range :=
  if_pos (by rw [Bool.or_eq_true, decide_eq_true_iff, decide_eq_true_iff]; exact h)

theorem reqReadWork_inRange (hs : a.start.toNat ≤ 48) (hp : a.part.toNat ≤ 1) :
    (requestsFrom u a.start.toNat = [] → reqReadWork a u = accept u .reqReadNone)
    ∧ ∀ r rest, requestsFrom u a.start.toNat = r :: rest → reqReadWork a u =
      if a.part = 0 then accept u (.reqReadMain ((rest.head?.map Request.number).getD 0) r (tierOf u.settings r)
        (u.liveOf r.number).length)
      else accept u (.reqReadHistory ((rest.head?.map Request.number).getD 0) r) := by
  have hin : ¬ (decide (a.start.toNat > Config.maxRequests) || decide (a.part.toNat > 1)) = true := by
    rw [Bool.or_eq_true, decide_eq_true_iff, decide_eq_true_iff, Config.maxRequests]; omega
  unfold reqReadWork
  rw [if_neg hin]
  exact ⟨fun h => by rw [h], fun r rest h => by rw [h]⟩

end

section
variable {u : State} {n : Nat} {r : Request}

/-- The lowest request from a number on comes first. -/
theorem requestsFrom_of_lowest (hok : requestsOk u.requests) (hmem : r ∈ u.requests) (hfrom : n ≤ r.number)
    (hleast : ∀ q ∈ u.requests, n ≤ q.number → r.number ≤ q.number) : ∃ rest, requestsFrom u n = r :: rest := by
  have hin : r ∈ requestsFrom u n := mem_requestsFrom.mpr ⟨hmem, hfrom⟩
  have hrising := requestsFrom_rising hok n
  cases hlist : requestsFrom u n with
  | nil => rw [hlist] at hin; cases hin
  | cons x rest =>
    rw [hlist] at hin hrising
    rcases List.mem_cons.mp hin with rfl | hlater
    · exact ⟨rest, rfl⟩
    · obtain ⟨hx, hxfrom⟩ := mem_requestsFrom.mp (hlist ▸ List.mem_cons_self : x ∈ requestsFrom u n)
      have hlt : x.number < r.number := (List.pairwise_cons.mp hrising).1 _ (List.mem_map_of_mem hlater)
      exact absurd (hleast x hx hxfrom) (Nat.not_le.mpr hlt)

variable {rest : List Request}

/-- The others are those of a higher number. -/
theorem mem_rest_iff (hok : requestsOk u.requests) (hlist : requestsFrom u n = r :: rest) {q : Request} :
    q ∈ rest ↔ q ∈ u.requests ∧ r.number < q.number := by
  have hrising := requestsFrom_rising hok n
  rw [hlist] at hrising
  have hfrom : n ≤ r.number := (mem_requestsFrom.mp (hlist ▸ List.mem_cons_self : r ∈ requestsFrom u n)).2
  refine ⟨fun hq => ⟨(mem_requestsFrom.mp (hlist ▸ List.mem_cons_of_mem r hq)).1,
    (List.pairwise_cons.mp hrising).1 _ (List.mem_map_of_mem hq)⟩, fun ⟨hq, hlt⟩ => ?_⟩
  have hin : q ∈ r :: rest := hlist ▸ mem_requestsFrom.mpr ⟨hq, hfrom.trans hlt.le⟩
  exact (List.mem_cons.mp hin).resolve_left fun he => absurd (he ▸ hlt) (Nat.lt_irrefl _)

/-- The number named as the next is 0 where no higher one is occupied, and otherwise the lowest of the higher ones. -/
theorem next_spec (hok : requestsOk u.requests) (hlist : requestsFrom u n = r :: rest) :
    let next := (rest.head?.map Request.number).getD 0
    next = 0 ∧ (∀ q ∈ u.requests, q.number ≤ r.number)
      ∨ next ∈ u.requests.map Request.number ∧ r.number < next
        ∧ ∀ q ∈ u.requests, r.number < q.number → next ≤ q.number := by
  have hmem : ∀ {q}, q ∈ rest ↔ q ∈ u.requests ∧ r.number < q.number := mem_rest_iff hok hlist
  have hrising := requestsFrom_rising hok n
  rw [hlist] at hrising
  cases rest with
  | nil => exact .inl ⟨rfl, fun q hq => Nat.not_lt.mp fun hlt => absurd (hmem.mpr ⟨hq, hlt⟩) List.not_mem_nil⟩
  | cons x xs =>
    obtain ⟨hx, hlt⟩ := hmem.mp List.mem_cons_self
    have hfirst := (List.pairwise_cons.mp (List.pairwise_cons.mp hrising).2).1
    refine .inr ⟨List.mem_map_of_mem hx, hlt, fun q hq hqlt => ?_⟩
    rcases List.mem_cons.mp (hmem.mpr ⟨hq, hqlt⟩) with rfl | hq
    · exact Nat.le_refl _
    · exact (hfirst _ (List.mem_map_of_mem hq)).le

end

/-- Settles O29: the requests from a number on are a rising list: its first is reported, its second is the next. -/
theorem reqReadReports : Obligations.ReqReadReports := by
  intro d a s hr hk c u
  refine ⟨fun hout => exec_refused rfl hr hk (reqReadWork_range hout), fun hs hp => ?_⟩
  obtain ⟨hnone, hsome⟩ := reqReadWork_inRange (u := u) hs hp
  refine ⟨fun hbelow => ?_, fun r hmem hok hfrom hleast => ?_⟩
  · have hnil : requestsFrom u a.start.toNat = [] := List.eq_nil_iff_forall_not_mem.mpr fun r h =>
      absurd (hbelow r (mem_requestsFrom.mp h).1) (Nat.not_lt.mpr (mem_requestsFrom.mp h).2)
    exact exec_accepted rfl hr hk (hnone hnil)
  · obtain ⟨rest, hlist⟩ := requestsFrom_of_lowest hok hmem hfrom hleast
    have hwork := hsome r rest hlist
    rw [arrive_settings] at hwork
    refine ⟨_, next_spec hok hlist, fun hpart => ?_, fun hpart => ?_⟩
    · exact exec_accepted rfl hr hk (hwork.trans (if_pos hpart))
    · exact exec_accepted rfl hr hk (hwork.trans (if_neg (by rw [hpart]; decide)))

/-! ### The loss count (R66) -/

theorem lossAfter_clash (loss code : Nat) : lossAfter loss (.outcome .missed .clash code) = min (loss + 1) 15 := rfl

theorem lossAfter_done (loss : Nat) (reason : Reason) (code : Nat) :
    lossAfter loss (.outcome .done reason code) = 0 := rfl

theorem lossAfter_other (loss : Nat) {e : Ending} (hclash : ∀ code, e ≠ .outcome .missed .clash code)
    (hdone : ∀ reason code, e ≠ .outcome .done reason code) : lossAfter loss e = loss := by
  unfold lossAfter
  split
  · exact absurd rfl (hclash _)
  · exact absurd rfl (hdone _ _)
  · rfl

/-! ### Series credit (R67) -/

section
variable {b : Booking} {ended begun : Nat} {o : BookingOutcome} (reason : Reason) (code : Nat)

/-- At least half of the programme recorded earns the episode. -/
theorem creditOf_earned (hbegun : b.begun = some begun) (ho : o = .done ∨ o = .partly ∨ o = .truncated)
    (hhalf : b.progDuration ≤ 2 * (ended - begun)) : creditOf b ended (.outcome o reason code) = b.episode := by
  rw [creditOf, recordedSeconds, hbegun]
  exact if_pos ⟨ho, rfl, hhalf⟩

theorem creditOf_missed (hbegun : b.begun = some begun) (hless : 2 * (ended - begun) < b.progDuration) :
    creditOf b ended (.outcome o reason code) = none := by
  rw [creditOf, recordedSeconds, hbegun]
  exact if_neg fun ⟨_, _, hhalf⟩ => absurd hhalf (Nat.not_le.mpr hless)

end

/-- The history an episode id is added to: without the id, and without the oldest of twelve where it is new. -/
def roomFor (id : Nat) (history : List Nat) : List Nat :=
  if history.contains id then history.filter (fun x => x != id)
  else if 12 ≤ history.length then history.drop 1 else history

theorem creditHistory_eq (id : Nat) (history : List Nat) : creditHistory history id = roomFor id history ++ [id] := by
  unfold creditHistory roomFor
  split <;> rfl

section
variable {id : Nat} {history : List Nat}

theorem roomFor_sublist : (roomFor id history).Sublist history := by
  unfold roomFor
  split
  · exact List.filter_sublist
  · split
    · exact List.drop_sublist 1 history
    · exact .refl _

theorem not_mem_roomFor : id ∉ roomFor id history := by
  by_cases hheld : history.contains id = true
  · rw [roomFor, if_pos hheld]; simp
  · exact fun h => hheld (List.contains_iff_mem.mpr (roomFor_sublist.subset h))

theorem roomFor_length (h : history.length ≤ 12) : (roomFor id history).length ≤ 11 := by
  unfold roomFor
  split
  · rename_i hheld
    have hlt : (history.filter fun x => x != id).length < history.length :=
      List.length_filter_lt_length_iff_exists.mpr ⟨id, List.contains_iff_mem.mp hheld, by simp⟩
    omega
  · split
    · rw [List.length_drop]; omega
    · omega

theorem creditHistory_last : (creditHistory history id).getLast? = some id := by
  rw [creditHistory_eq, List.getLast?_concat]

/-- The history keeps its bound and holds no id twice. -/
theorem creditHistory_bounded (hlen : history.length ≤ 12) (hnodup : history.Nodup) :
    (creditHistory history id).length ≤ 12 ∧ (creditHistory history id).Nodup := by
  rw [creditHistory_eq]
  refine ⟨?_, ?_⟩
  · have := roomFor_length (id := id) hlen
    rw [List.length_append, List.length_singleton]; omega
  · exact (List.perm_append_singleton id _).nodup_iff.mpr
      (List.nodup_cons.mpr ⟨not_mem_roomFor, roomFor_sublist.nodup hnodup⟩)

end

/-! ### Skip list and settled day (R68) -/

theorem addSkip_spec (skip : List Int) (day : Int) :
    day ∈ addSkip skip day ∧ (skip.length ≤ 4 → (addSkip skip day).length ≤ 4) := by
  unfold addSkip
  split
  · rename_i hheld
    exact ⟨List.contains_iff_mem.mp hheld, id⟩
  · refine ⟨(insertBy_perm _ _ _).mem_iff.mpr List.mem_cons_self, fun hlen => ?_⟩
    rw [(insertBy_perm _ _ _).length_eq, List.length_cons]
    split
    · rw [List.length_drop]; omega
    · rename_i hroom
      exact Nat.lt_of_not_le hroom

section
variable {f : TimedFields} (day : Int) (hdays : f.days ≠ 0)
include hdays

theorem timedAfter_cancel : timedAfter f day .cancel = { f with skip := addSkip f.skip day } := if_neg hdays

theorem timedAfter_outcome (o : BookingOutcome) (reason : Reason) (code : Nat) :
    timedAfter f day (.outcome o reason code) = { f with settledDay := laterDay f.settledDay day } := if_neg hdays

end

/-! ### A request after a finish report -/

section
variable {r : Request} {b : Booking} (ended : Nat) (e : Ending)

theorem requestAfter_timed {f : TimedFields} {day : Int} (hkind : r.kind = .timed f) (hkey : b.key = .localDay day) :
    (requestAfter r b ended e).kind = .timed (timedAfter f day e) := by
  simp only [requestAfter, hkind, hkey]

theorem requestAfter_series_credited {f : SeriesFields} {id : Nat} (hkind : r.kind = .series f)
    (hcredit : creditOf b ended e = some id) :
    (requestAfter r b ended e).kind = .series { f with history := creditHistory f.history id } := by
  simp only [requestAfter, hkind, hcredit]

theorem requestAfter_series_uncredited {f : SeriesFields} (hkind : r.kind = .series f)
    (hcredit : creditOf b ended e = none) : (requestAfter r b ended e).kind = .series f := by
  simp only [requestAfter, hkind, hcredit]

end

/-- Settles O35: the loss count by the ending, the kind's fields by kind. -/
theorem finishReportOnARequest : Obligations.FinishReportOnARequest := by
  intro r b ended e q
  refine ⟨rfl, rfl, rfl, rfl, rfl, ?clash, ?done, fun hclash hdone => lossAfter_other _ hclash hdone, ?series, ?timed⟩
  case clash => rintro code rfl; exact lossAfter_clash r.loss code
  case done => rintro reason code rfl; exact lossAfter_done r.loss reason code
  case series =>
    rintro f o reason code id begun hkind rfl hepisode hbegun
    refine ⟨fun ho hhalf => ?_, fun hless => ?_⟩
    · have hcredit := (creditOf_earned reason code hbegun ho hhalf).trans hepisode
      exact ⟨_, requestAfter_series_credited ended _ hkind hcredit, creditHistory_last, creditHistory_bounded⟩
    · exact (requestAfter_series_uncredited ended _ hkind (creditOf_missed reason code hbegun hless)).trans hkind.symm
  case timed =>
    intro f day hkind hdays hkey
    have htimed := requestAfter_timed ended e hkind hkey
    refine ⟨?_, ?_⟩
    · rintro rfl
      rw [timedAfter_cancel day hdays] at htimed
      exact ⟨_, htimed, rfl, addSkip_spec f.skip day⟩
    · rintro o reason code rfl
      rw [timedAfter_outcome day hdays] at htimed
      refine ⟨_, htimed, rfl, ?_⟩
      cases f.settledDay <;> rfl

end Sys2Proof.Machine

/-! PROOFS. BOOK_READ (R87). -/

namespace Sys2Proof.Machine

theorem nextBooking_eq (bs : List Booking) : nextBooking bs = ((bs.drop 2).head?.map Booking.number).getD 0 := by
  unfold nextBooking
  cases bs.drop 2 <;> rfl

/-- Settles O32: the bookings from a number on, put in the order of their numbers. -/
theorem bookReadWalksByNumber : Obligations.BookReadWalksByNumber := by
  intro d w s hr hk c u
  have hfiltered : (bookingsFrom u w.toNat).Perm (u.plan.bookings.filter (fun b => w.toNat ≤ b.number)) :=
    sortBy_perm _ _
  have hwork : bookReadWork w u = accept u (.bookRead ((bookingsFrom u w.toNat).take 2)
      ((((bookingsFrom u w.toNat).drop 2).head?.map Booking.number).getD 0)) := by
    rw [bookReadWork, nextBooking_eq]
  exact ⟨_, hfiltered, sortBy_pairwise Booking.number _, exec_accepted rfl hr hk hwork⟩

end Sys2Proof.Machine

/-! PROOFS. Lists put in an order, and the lists the Booking List is kept in step with, rule by rule: the order itself (R70), pins
(R30), recordings and waiting BEGINs (R111, R112). -/

namespace Sys2Proof.Machine

/-! ### Lists in order -/

section
variable {α : Type} {before : α → α → Bool}

/-- A list is put in the order of `before`: nothing stands after what it comes before. -/
theorem sortBy_ordered (asymm : ∀ x y, before x y = true → before y x = false)
    (trans : ∀ x y z, before x y = false → before y z = false → before x z = false) (xs : List α) :
    (sortBy before xs).Pairwise (fun y z => before z y = false) := by
  have insert : ∀ (x : α) (ys : List α), ys.Pairwise (fun y z => before z y = false) →
      (sortBy.insertStable before x ys).Pairwise (fun y z => before z y = false) := by
    intro x ys h
    induction ys with
    | nil => exact List.pairwise_singleton _ _
    | cons y ys ih =>
      obtain ⟨hy, hys⟩ := List.pairwise_cons.mp h
      rw [sortBy.insertStable]
      split
      · rename_i hyx
        refine List.pairwise_cons.mpr ⟨fun z hz => ?_, ih hys⟩
        rcases List.mem_cons.mp ((insertStable_perm before x ys).mem_iff.mp hz) with rfl | hz
        · exact asymm _ _ hyx
        · exact hy z hz
      · rename_i hyx
        refine List.pairwise_cons.mpr ⟨fun z hz => ?_, h⟩
        rcases List.mem_cons.mp hz with rfl | hz
        · exact Bool.eq_false_iff.mpr hyx
        · exact trans _ y _ (hy z hz) (Bool.eq_false_iff.mpr hyx)
  induction xs with
  | nil => exact List.Pairwise.nil
  | cons x xs ih => exact insert x _ ih

/-- An element put in its place keeps the order. -/
theorem insertBy_ordered (asymm : ∀ x y, before x y = true → before y x = false)
    (trans : ∀ x y z, before x y = false → before y z = false → before x z = false) (x : α) {ys : List α}
    (h : ys.Pairwise (fun y z => before z y = false)) :
    (insertBy before x ys).Pairwise (fun y z => before z y = false) := by
  induction ys with
  | nil => exact List.pairwise_singleton _ _
  | cons y ys ih =>
    obtain ⟨hy, hys⟩ := List.pairwise_cons.mp h
    rw [insertBy]
    split
    · rename_i hxy
      refine List.pairwise_cons.mpr ⟨fun z hz => ?_, h⟩
      rcases List.mem_cons.mp hz with rfl | hz
      · exact asymm _ _ hxy
      · exact trans _ y _ (hy z hz) (asymm _ _ hxy)
    · rename_i hxy
      refine List.pairwise_cons.mpr ⟨fun z hz => ?_, ih hys⟩
      rcases List.mem_cons.mp ((insertBy_perm before x ys).mem_iff.mp hz) with rfl | hz
      · exact Bool.eq_false_iff.mpr hxy
      · exact hy z hz

end

/-! ### List order (R70) -/

theorem listBefore_iff (b c : Booking) :
    listBefore b c = true ↔ b.winStart < c.winStart ∨ b.winStart = c.winStart ∧ b.number < c.number := by
  simp [listBefore]

theorem listBefore_eq_false (b c : Booking) :
    listBefore b c = false ↔ c.winStart < b.winStart ∨ c.winStart = b.winStart ∧ c.number ≤ b.number := by
  rw [Bool.eq_false_iff, Ne, listBefore_iff]; omega

theorem listBefore_asymm (b c : Booking) (h : listBefore b c = true) : listBefore c b = false := by
  rw [listBefore_iff] at h; rw [listBefore_eq_false]; omega

theorem listBefore_negTrans (b c d : Booking) (h : listBefore b c = false) (k : listBefore c d = false) :
    listBefore b d = false := by
  rw [listBefore_eq_false] at h k ⊢; omega

/-- The list order is strict among bookings of different numbers. -/
theorem strictly_of_ordered {bs : List Booking} (hn : (bs.map Booking.number).Nodup)
    (h : bs.Pairwise (fun b c => listBefore c b = false)) :
    bs.Pairwise (fun b c => b.winStart < c.winStart ∨ b.winStart = c.winStart ∧ b.number < c.number) := by
  refine (h.and (List.pairwise_map.mp hn)).imp fun {b c} ⟨hbc, hne⟩ => ?_
  rw [listBefore_eq_false] at hbc; omega

theorem ordered_of_listOk {s : State} (h : ListOk s) :
    s.plan.bookings.Pairwise (fun b c => listBefore c b = false) :=
  h.imp fun {b c} hbc => (listBefore_eq_false c b).mpr (by omega)

theorem ListOk.of_sublist {s t : State} (h : ListOk s) (k : t.plan.bookings.Sublist s.plan.bookings) : ListOk t :=
  List.Pairwise.sublist k h

/-- The order speaks of window starts and numbers alone. -/
theorem ListOk.of_map {s t : State} (h : ListOk s) (f : Booking → Booking)
    (hf : ∀ b, (f b).winStart = b.winStart ∧ (f b).number = b.number)
    (k : t.plan.bookings = s.plan.bookings.map f) : ListOk t := by
  unfold ListOk
  rw [k, List.pairwise_map]
  refine List.Pairwise.imp (fun {b c} hbc => ?_) h
  rw [(hf b).1, (hf b).2, (hf c).1, (hf c).2]
  exact hbc

/-! ### Entry keys (R28) -/

theorem keysOk_iff (s : State) : KeysOk s ↔ (s.guide.entries.map fun e => (e.channel, e.eventId)).Nodup := by
  unfold KeysOk List.Nodup
  rw [List.pairwise_map]
  exact List.Pairwise.iff fun e f => by simp

/-! ### One booking among those of other numbers -/

/-- The bookings of other numbers. -/
def others (n : Nat) (bs : List Booking) : List Booking := bs.filter (fun c => c.number != n)

theorem not_mem_others (n : Nat) (bs : List Booking) : n ∉ (others n bs).map Booking.number := by
  simp [others]

theorem filter_number_eq {bs : List Booking} (hn : (bs.map Booking.number).Nodup) {b : Booking} (hb : b ∈ bs) :
    bs.filter (fun c => c.number == b.number) = [b] := by
  induction bs with
  | nil => cases hb
  | cons c cs ih =>
    obtain ⟨hc, hcs⟩ := List.nodup_cons.mp hn
    rcases List.mem_cons.mp hb with rfl | hb
    · have hnone : cs.filter (fun d => d.number == b.number) = [] := List.filter_eq_nil_iff.mpr fun d hd he =>
        hc (beq_iff_eq.mp he ▸ List.mem_map_of_mem hd)
      rw [List.filter_cons, if_pos (beq_self_eq_true _), hnone]
    · have hne : ¬ (c.number == b.number) = true := fun he => hc (beq_iff_eq.mp he ▸ List.mem_map_of_mem hb)
      rw [List.filter_cons, if_neg hne, ih hcs hb]

/-- A booking and those of other numbers are the whole list. -/
theorem perm_cons_others {bs : List Booking} (hn : (bs.map Booking.number).Nodup) {b : Booking} (hb : b ∈ bs) :
    bs.Perm (b :: others b.number bs) := by
  have h := List.filter_append_perm (fun c => c.number == b.number) bs
  rw [filter_number_eq hn hb] at h
  exact h.symm

/-- The same with that booking changed. -/
theorem mapped_perm_cons_others {bs : List Booking} (hn : (bs.map Booking.number).Nodup) {b : Booking} (hb : b ∈ bs)
    (f : Booking → Booking) :
    (bs.map (fun c => if c.number == b.number then f c else c)).Perm (f b :: others b.number bs) := by
  refine ((perm_cons_others hn hb).map _).trans ?_
  rw [List.map_cons, if_pos (beq_self_eq_true _)]
  refine (List.Perm.of_eq ?_).cons _
  refine (List.map_congr_left fun c hc => if_neg ?_).trans (List.map_id _)
  have := (List.mem_filter.mp hc).2
  simpa using this

/-! ### Pins (R30) -/

/-- `PinsOk` for a Booking List and the entries of a store. -/
structure PinsFor (bs : List Booking) (es : List GuideEntry) : Prop where
  count : ∀ e ∈ es, e.pins = (bs.filter (fun b => b.key == .guideSlot e.slot)).length
  named : ∀ b ∈ bs, ∀ n, b.key = .guideSlot n → n ∈ es.map GuideEntry.slot

theorem pinsOk_iff (s : State) : PinsOk s ↔ PinsFor s.plan.bookings s.guide.entries :=
  ⟨fun h => ⟨h.count, h.named⟩, fun h => ⟨h.count, h.named⟩⟩

/-- The entries of a store with the pins of the one that a key names changed by `f` (R30). -/
def repinned (f : Nat → Nat) (k : OccurrenceKey) (es : List GuideEntry) : List GuideEntry :=
  match k with
  | .guideSlot n => es.map (fun e => if e.slot == n then { e with pins := f e.pins } else e)
  | .localDay _ => es

theorem pinUp_entries (s : State) (k : OccurrenceKey) :
    (s.pinUp k).guide.entries = repinned (· + 1) k s.guide.entries := by
  cases k <;> rfl

theorem pinDown_entries (s : State) (k : OccurrenceKey) :
    (s.pinDown k).guide.entries = repinned (· - 1) k s.guide.entries := by
  cases k <;> rfl

/-- What is read of an entry beside its pins stays. -/
theorem map_repinned {α : Type} (read : GuideEntry → α) (h : ∀ e n, read { e with pins := n } = read e) (f : Nat → Nat)
    (k : OccurrenceKey) (es : List GuideEntry) : (repinned f k es).map read = es.map read := by
  cases k with
  | guideSlot n =>
    unfold repinned
    rw [List.map_map]
    refine List.map_congr_left fun e _ => ?_
    rw [Function.comp_apply]
    split
    · exact h e _
    · rfl
  | localDay d => rfl

theorem slots_repinned (f : Nat → Nat) (k : OccurrenceKey) (es : List GuideEntry) :
    (repinned f k es).map GuideEntry.slot = es.map GuideEntry.slot := map_repinned _ (fun _ _ => rfl) f k es

/-- What the invariants read of an entry: its slot, its key and its pins. -/
def GuideEntry.face (e : GuideEntry) : Nat × Nat × Nat × Nat := (e.slot, e.channel, e.eventId, e.pins)

theorem slots_of_faces {es fs : List GuideEntry} (h : fs.map GuideEntry.face = es.map GuideEntry.face) :
    fs.map GuideEntry.slot = es.map GuideEntry.slot := by
  simpa [GuideEntry.face, List.map_map, Function.comp_def] using congrArg (List.map Prod.fst) h

namespace PinsFor
variable {bs cs : List Booking} {es fs : List GuideEntry} {b : Booking}

theorem perm (h : PinsFor bs es) (k : bs.Perm cs) : PinsFor cs es :=
  ⟨fun e he => (h.count e he).trans (k.filter _).length_eq, fun b hb => h.named b (k.mem_iff.mpr hb)⟩

/-- Pins speak of the guide slots that bookings name alone. -/
theorem map (h : PinsFor bs es) {f : Booking → Booking} (hf : ∀ b ∈ bs, (f b).key.slot? = b.key.slot?) :
    PinsFor (bs.map f) es := by
  have hkey : ∀ (k : OccurrenceKey) (n : Nat), k = .guideSlot n ↔ k.slot? = some n := fun k n => by
    cases k <;> simp [OccurrenceKey.slot?]
  refine ⟨fun e he => (h.count e he).trans ?_, fun c hc n hn => ?_⟩
  · rw [List.filter_map, List.length_map]
    refine congrArg List.length (List.filter_congr fun b hb => ?_)
    rw [Bool.eq_iff_iff, Function.comp_apply, beq_iff_eq, beq_iff_eq, hkey, hkey, hf b hb]
  · obtain ⟨b, hb, rfl⟩ := List.mem_map.mp hc
    exact h.named b hb n ((hkey _ _).mpr ((hf b hb) ▸ (hkey _ _).mp hn))

theorem faces (h : PinsFor bs es) (k : fs.map GuideEntry.face = es.map GuideEntry.face) : PinsFor bs fs := by
  refine ⟨fun e he => ?_, fun b hb n hn => (slots_of_faces k).symm ▸ h.named b hb n hn⟩
  obtain ⟨d, hd, hde⟩ := List.mem_map.mp (k ▸ List.mem_map_of_mem (f := GuideEntry.face) he)
  simp only [GuideEntry.face, Prod.mk.injEq] at hde
  rw [← hde.1, ← hde.2.2.2]
  exact h.count d hd

/-- A booking that leaves takes its pin off. -/
theorem unpin (h : PinsFor (b :: bs) es) : PinsFor bs (repinned (· - 1) b.key es) := by
  refine ⟨fun e he => ?_, fun c hc n hn =>
    (slots_repinned (· - 1) b.key es).symm ▸ h.named c (List.mem_cons_of_mem b hc) n hn⟩
  cases hk : b.key with
  | guideSlot n =>
    rw [hk] at he
    obtain ⟨d, hd, rfl⟩ := List.mem_map.mp he
    have hcount := h.count d hd
    rw [List.filter_cons, hk] at hcount
    by_cases hdn : d.slot = n
    · simp [hdn] at hcount ⊢; omega
    · simp [hdn, Ne.symm hdn] at hcount ⊢; exact hcount
  | localDay day =>
    rw [hk] at he
    have hcount := h.count e he
    rw [List.filter_cons, hk] at hcount
    exact hcount

/-- A booking that enters pins the entry it names. -/
theorem pin (h : PinsFor bs es) (hb : ∀ n, b.key = .guideSlot n → n ∈ es.map GuideEntry.slot) :
    PinsFor (b :: bs) (repinned (· + 1) b.key es) := by
  refine ⟨fun e he => ?_, fun c hc n hn => ?_⟩
  · cases hk : b.key with
    | guideSlot n =>
      rw [hk] at he
      obtain ⟨d, hd, rfl⟩ := List.mem_map.mp he
      have hcount := h.count d hd
      rw [List.filter_cons, hk]
      by_cases hdn : d.slot = n
      · simp [hdn] at hcount ⊢; exact hcount
      · simp [hdn, Ne.symm hdn] at hcount ⊢; exact hcount
    | localDay day =>
      rw [hk] at he
      rw [List.filter_cons, hk]
      exact h.count e he
  · rw [slots_repinned]
    rcases List.mem_cons.mp hc with rfl | hc
    · exact hb n hn
    · exact h.named c hc n hn

/-- Several bookings that leave take their pins off. -/
theorem unpinAll (gone : List Booking) {es : List GuideEntry} (h : PinsFor (gone ++ bs) es) :
    PinsFor bs (gone.foldl (fun es b => repinned (· - 1) b.key es) es) := by
  induction gone generalizing es with
  | nil => exact h
  | cons b gone ih => exact ih h.unpin

/-- Unpinned entries that leave are named by no booking. -/
theorem filter (h : PinsFor bs es) {keep : GuideEntry → Bool} (hk : ∀ e ∈ es, keep e = false → e.pins = 0) :
    PinsFor bs (es.filter keep) := by
  refine ⟨fun e he => h.count e (List.mem_of_mem_filter he), fun b hb n hn => ?_⟩
  obtain ⟨e, he, rfl⟩ := List.mem_map.mp (h.named b hb n hn)
  refine List.mem_map_of_mem (List.mem_filter.mpr ⟨he, ?_⟩)
  by_contra hkeep
  have hzero := hk e he (Bool.eq_false_iff.mpr hkeep)
  rw [h.count e he, List.length_eq_zero_iff, List.filter_eq_nil_iff] at hzero
  exact hzero b hb (by rw [hn]; exact beq_self_eq_true _)

/-- A new entry in a free slot is named by no booking. -/
theorem insertEntry (h : PinsFor bs es) {x : GuideEntry} (hx : x.pins = 0) (hs : x.slot ∉ es.map GuideEntry.slot)
    (k : fs.Perm (x :: es)) : PinsFor bs fs := by
  refine ⟨fun e he => ?_, fun b hb n hn => (k.map GuideEntry.slot).mem_iff.mpr
    (List.mem_cons_of_mem _ (h.named b hb n hn))⟩
  rcases List.mem_cons.mp (k.mem_iff.mp he) with rfl | he
  · have hnone : bs.filter (fun b => b.key == .guideSlot e.slot) = [] := List.filter_eq_nil_iff.mpr fun b hb hkey =>
      hs (h.named b hb _ (beq_iff_eq.mp hkey))
    rw [hnone, hx]; rfl
  · exact h.count e he

end PinsFor

/-! ### Recordings and waiting BEGINs (R111, R112) -/

/-- The BEGINs for a booking number that wait in a queue. -/
def beginsIn (ds : List Directive) (n : Nat) : Nat := (ds.filter (fun d => d.isBeginFor n)).length

/-- A state that neither a BEGIN waits for nor the recording count counts. -/
def Quiet (st : Option BookingState) : Prop := st ≠ some .due ∧ st ≠ some .recording

/-- The queue without the BEGINs for a number (R153). -/
def withoutBegin (n : Nat) (ds : List Directive) : List Directive := ds.filter (fun d => !d.isBeginFor n)

theorem isBeginFor_unique {d : Directive} {m n : Nat} (h : d.isBeginFor m = true) (k : d.isBeginFor n = true) : m = n := by
  cases d with
  | beginRec f => exact (beq_iff_eq.mp h).symm.trans (beq_iff_eq.mp k)
  | endRec b p r => cases h
  | yieldTuner t b => cases h

theorem beginsIn_withoutBegin_same (n : Nat) (ds : List Directive) : beginsIn (withoutBegin n ds) n = 0 := by
  unfold beginsIn withoutBegin
  rw [List.filter_filter, List.length_eq_zero_iff, List.filter_eq_nil_iff]
  intro d _; simp

theorem beginsIn_withoutBegin_other {m n : Nat} (h : m ≠ n) (ds : List Directive) :
    beginsIn (withoutBegin n ds) m = beginsIn ds m := by
  unfold beginsIn withoutBegin
  rw [List.filter_filter]
  refine congrArg List.length (List.filter_congr fun d _ => ?_)
  cases hm : d.isBeginFor m with
  | false => rfl
  | true =>
    cases hn : d.isBeginFor n with
    | false => rfl
    | true => exact absurd (isBeginFor_unique hm hn) h

theorem beginsIn_append (ds es : List Directive) (n : Nat) : beginsIn (ds ++ es) n = beginsIn ds n + beginsIn es n := by
  simp [beginsIn]

/-- Directives that are no BEGIN leave the waiting BEGINs as they are. -/
theorem beginsIn_append_other {es : List Directive} (h : ∀ d ∈ es, ∀ n, d.isBeginFor n = false) (ds : List Directive)
    (n : Nat) : beginsIn (ds ++ es) n = beginsIn ds n := by
  have hnone : es.filter (fun d => d.isBeginFor n) = [] := List.filter_eq_nil_iff.mpr fun d hd => by simp [h d hd n]
  rw [beginsIn_append, beginsIn, beginsIn, hnone]; rfl

/-- A DUE booking of a number stands in a list. -/
def DueIn (bs : List Booking) (n : Nat) : Prop := ∃ b ∈ bs, b.number = n ∧ b.state = some .due

/-- `RunsOk` for a recording count, a directive queue and a Booking List. -/
structure RunsFor (count : Nat) (ds : List Directive) (bs : List Booking) : Prop where
  recordings : count = (bs.filter (fun b => b.state == some .recording)).length
  begun : ∀ n, DueIn bs n → beginsIn ds n = 1
  idle : ∀ n, ¬ DueIn bs n → beginsIn ds n = 0

theorem runsOk_iff (s : State) : RunsOk s ↔ RunsFor s.run.recordings s.outbox.directives s.plan.bookings := by
  have hdue : ∀ n, (s.plan.bookings.any fun b => b.number == n && b.state == some .due) = true
      ↔ DueIn s.plan.bookings n := fun n => by simp [DueIn]
  constructor
  · rintro ⟨hrec, hbegins⟩
    exact ⟨hrec, fun n hn => (hbegins n).trans (if_pos ((hdue n).mpr hn)),
      fun n hn => (hbegins n).trans (if_neg fun h => hn ((hdue n).mp h))⟩
  · rintro ⟨hrec, hbegun, hidle⟩
    refine ⟨hrec, fun n => ?_⟩
    split
    · rename_i h; exact hbegun n ((hdue n).mp h)
    · rename_i h; exact hidle n fun hn => h ((hdue n).mpr hn)

theorem dueIn_cons {b : Booking} {bs : List Booking} {n : Nat} :
    DueIn (b :: bs) n ↔ (b.number = n ∧ b.state = some .due) ∨ DueIn bs n := by
  simp [DueIn]

theorem not_dueIn {bs : List Booking} {n : Nat} (h : n ∉ bs.map Booking.number) : ¬ DueIn bs n :=
  fun ⟨_, hb, hn, _⟩ => h (hn ▸ List.mem_map_of_mem hb)

namespace RunsFor
variable {k : Nat} {ds es : List Directive} {bs cs : List Booking} {b c : Booking}

theorem perm (h : RunsFor k ds bs) (hp : bs.Perm cs) : RunsFor k ds cs := by
  have hdue : ∀ n, DueIn cs n ↔ DueIn bs n := fun n => by simp only [DueIn, hp.mem_iff]
  exact ⟨h.recordings.trans (hp.filter _).length_eq, fun n hn => h.begun n ((hdue n).mp hn),
    fun n hn => h.idle n fun hb => hn ((hdue n).mpr hb)⟩

theorem directives (h : RunsFor k ds bs) (he : ∀ n, beginsIn es n = beginsIn ds n) : RunsFor k es bs :=
  ⟨h.recordings, fun n hn => (he n).trans (h.begun n hn), fun n hn => (he n).trans (h.idle n hn)⟩

/-- Bookings that change keep their numbers, and their states where one of the two is DUE or RECORDING. -/
theorem map (h : RunsFor k ds bs) {f : Booking → Booking} (hf : ∀ b ∈ bs, (f b).number = b.number
    ∧ ((f b).state = b.state ∨ Quiet b.state ∧ Quiet (f b).state)) : RunsFor k ds (bs.map f) := by
  have hstate : ∀ b ∈ bs, ((f b).state = some .due ↔ b.state = some .due)
      ∧ ((f b).state = some .recording ↔ b.state = some .recording) := by
    intro b hb
    rcases (hf b hb).2 with he | ⟨hq, hq'⟩
    · rw [he]; exact ⟨Iff.rfl, Iff.rfl⟩
    · exact ⟨⟨fun hs => absurd hs hq'.1, fun hs => absurd hs hq.1⟩,
        ⟨fun hs => absurd hs hq'.2, fun hs => absurd hs hq.2⟩⟩
  have hdue : ∀ n, DueIn (bs.map f) n ↔ DueIn bs n := by
    intro n
    constructor
    · rintro ⟨c, hc, hn, hs⟩
      obtain ⟨b, hb, rfl⟩ := List.mem_map.mp hc
      exact ⟨b, hb, (hf b hb).1 ▸ hn, (hstate b hb).1.mp hs⟩
    · rintro ⟨b, hb, hn, hs⟩
      exact ⟨f b, List.mem_map_of_mem hb, (hf b hb).1.trans hn, (hstate b hb).1.mpr hs⟩
  refine ⟨h.recordings.trans ?_, fun n hn => h.begun n ((hdue n).mp hn), fun n hn => h.idle n fun hb => hn ((hdue n).mpr hb)⟩
  rw [List.filter_map, List.length_map]
  refine congrArg List.length (List.filter_congr fun b hb => ?_)
  rw [Bool.eq_iff_iff, Function.comp_apply, beq_iff_eq, beq_iff_eq]
  exact (hstate b hb).2.symm

/-- Bookings that are neither DUE nor RECORDING leave the list. -/
theorem filter (h : RunsFor k ds bs) {p : Booking → Bool} (hp : ∀ b ∈ bs, p b = false → Quiet b.state) :
    RunsFor k ds (bs.filter p) := by
  have hkept : ∀ b ∈ bs, ¬ Quiet b.state → p b = true := fun b hb hq => by
    by_contra hpb; exact hq (hp b hb (Bool.eq_false_iff.mpr hpb))
  have hdue : ∀ n, DueIn (bs.filter p) n ↔ DueIn bs n := fun n =>
    ⟨fun ⟨b, hb, hn, hs⟩ => ⟨b, List.mem_of_mem_filter hb, hn, hs⟩,
      fun ⟨b, hb, hn, hs⟩ => ⟨b, List.mem_filter.mpr ⟨hb, hkept b hb fun hq => hq.1 hs⟩, hn, hs⟩⟩
  refine ⟨h.recordings.trans ?_, fun n hn => h.begun n ((hdue n).mp hn), fun n hn => h.idle n fun hb => hn ((hdue n).mpr hb)⟩
  rw [List.filter_filter]
  refine congrArg List.length (List.filter_congr fun b hb => ?_)
  rw [Bool.eq_iff_iff, Bool.and_eq_true, beq_iff_eq]
  exact ⟨fun hs => ⟨hs, hkept b hb fun hq => hq.2 hs⟩, And.left⟩

/-- What a booking of a number of its own adds to a list: itself to the recording count, and its BEGIN to the queue. -/
theorem cons_iff (hb : b.number ∉ bs.map Booking.number) : RunsFor k ds (b :: bs) ↔
    ∃ j, k = (if b.state = some .recording then j + 1 else j)
      ∧ beginsIn ds b.number = (if b.state = some .due then 1 else 0) ∧ RunsFor j (withoutBegin b.number ds) bs := by
  have hfresh := not_dueIn hb
  have hother : ∀ n, n ≠ b.number → (DueIn (b :: bs) n ↔ DueIn bs n) := fun n hn => by
    rw [dueIn_cons]
    exact ⟨fun h => h.resolve_left fun he => hn he.1.symm, .inr⟩
  have hself : DueIn (b :: bs) b.number ↔ b.state = some .due := by
    rw [dueIn_cons]
    exact ⟨fun h => (h.resolve_right hfresh).2, fun h => .inl ⟨rfl, h⟩⟩
  constructor
  · intro h
    refine ⟨(bs.filter (fun b => b.state == some .recording)).length, ?_, ?_, rfl, fun n hn => ?_, fun n hn => ?_⟩
    · rw [h.recordings, List.filter_cons]
      by_cases hs : b.state = some .recording
      · simp [hs]
      · simp [hs]
    · split
      · rename_i hs; exact h.begun _ (hself.mpr hs)
      · rename_i hs; exact h.idle _ fun hd => hs (hself.mp hd)
    · have hne : n ≠ b.number := fun he => hfresh (he ▸ hn)
      rw [beginsIn_withoutBegin_other hne]
      exact h.begun n ((hother n hne).mpr hn)
    · by_cases hne : n = b.number
      · rw [hne]; exact beginsIn_withoutBegin_same _ _
      · rw [beginsIn_withoutBegin_other hne]
        exact h.idle n fun hd => hn ((hother n hne).mp hd)
  · rintro ⟨j, hk, hbegins, h⟩
    refine ⟨?_, fun n hn => ?_, fun n hn => ?_⟩
    · rw [hk, List.filter_cons, h.recordings]
      by_cases hs : b.state = some .recording
      · simp [hs]
      · simp [hs]
    · by_cases hne : n = b.number
      · rw [hne] at hn ⊢; rw [hbegins, if_pos (hself.mp hn)]
      · rw [← beginsIn_withoutBegin_other hne]; exact h.begun n ((hother n hne).mp hn)
    · by_cases hne : n = b.number
      · rw [hne] at hn ⊢; rw [hbegins, if_neg fun hs => hn (hself.mpr hs)]
      · rw [← beginsIn_withoutBegin_other hne]; exact h.idle n fun hd => hn ((hother n hne).mpr hd)

/-- A queue in which no BEGIN for the number waits is the same without them. -/
theorem withoutBegin_iff {n : Nat} (h : beginsIn ds n = 0) : RunsFor k (withoutBegin n ds) bs ↔ RunsFor k ds bs := by
  have hall : ∀ m, beginsIn (withoutBegin n ds) m = beginsIn ds m := fun m => by
    by_cases hm : m = n
    · rw [hm, beginsIn_withoutBegin_same, h]
    · exact beginsIn_withoutBegin_other hm ds
  exact ⟨fun r => r.directives fun m => (hall m).symm, fun r => r.directives hall⟩

/-- A booking that is neither DUE nor RECORDING adds nothing. -/
theorem cons_quiet_iff (hb : b.number ∉ bs.map Booking.number) (hq : Quiet b.state) :
    RunsFor k ds (b :: bs) ↔ RunsFor k ds bs := by
  rw [cons_iff hb, if_neg hq.1]
  constructor
  · rintro ⟨j, hk, hbegins, h⟩
    rw [if_neg hq.2] at hk
    rw [hk]; exact (withoutBegin_iff hbegins).mp h
  · intro h
    have hbegins := h.idle _ (not_dueIn hb)
    exact ⟨k, (if_neg hq.2).symm, hbegins, (withoutBegin_iff hbegins).mpr h⟩

/-- A booking leaves the list, with its BEGIN and its place in the recording count (R132). -/
theorem strike (h : RunsFor k ds (b :: bs)) (hb : b.number ∉ bs.map Booking.number) :
    RunsFor (if b.state = some .recording then k - 1 else k) (if b.state = some .due then withoutBegin b.number ds else ds) bs := by
  obtain ⟨j, hk, hbegins, hj⟩ := (cons_iff hb).mp h
  have hcount : (if b.state = some .recording then k - 1 else k) = j := by
    rw [hk]; split <;> rfl
  rw [hcount]
  split
  · exact hj
  · rename_i hs
    rw [if_neg hs] at hbegins
    exact (withoutBegin_iff hbegins).mp hj

/-- A booking becomes DUE, and its BEGIN joins the queue (R114). -/
theorem due (h : RunsFor k ds bs) (hb : b.number ∉ bs.map Booking.number) (hs : b.state = some .due) {x : Directive}
    (hx : x.isBeginFor b.number = true) : RunsFor k (ds ++ [x]) (b :: bs) := by
  have hone : ∀ n, beginsIn [x] n = if n = b.number then 1 else 0 := fun n => by
    split
    · rename_i hn; simp [beginsIn, hn, hx]
    · rename_i hn
      have : x.isBeginFor n = false := Bool.eq_false_iff.mpr fun hxn => hn (isBeginFor_unique hxn hx)
      simp [beginsIn, this]
  have hnone := h.idle _ (not_dueIn hb)
  rw [cons_iff hb, if_pos hs]
  refine ⟨k, by rw [hs]; rfl, by rw [beginsIn_append, hone, if_pos rfl, hnone], h.directives fun n => ?_⟩
  by_cases hn : n = b.number
  · rw [hn, beginsIn_withoutBegin_same, hnone]
  · rw [beginsIn_withoutBegin_other hn, beginsIn_append, hone, if_neg hn]; rfl

/-- A booking becomes RECORDING, and the recording count rises (R122). -/
theorem record (h : RunsFor k ds bs) (hb : b.number ∉ bs.map Booking.number) (hs : b.state = some .recording) :
    RunsFor (k + 1) ds (b :: bs) := by
  have hnone := h.idle _ (not_dueIn hb)
  exact (cons_iff hb).mpr ⟨k, (if_pos hs).symm, by rw [hnone, hs]; rfl, (withoutBegin_iff hnone).mpr h⟩

/-- A BEGIN taken from the queue is that of a DUE booking, which waits for none any more (R121). -/
theorem taken {x : Directive} (h : RunsFor k (x :: ds) (b :: bs)) (hb : b.number ∉ bs.map Booking.number)
    (hx : x.isBeginFor b.number = true) : RunsFor k ds bs := by
  obtain ⟨j, hk, hbegins, hj⟩ := (cons_iff hb).mp h
  have hcount : beginsIn (x :: ds) b.number = beginsIn ds b.number + 1 := by simp [beginsIn, hx]
  rw [hcount] at hbegins
  split at hbegins
  · rename_i hs
    have hnone : beginsIn ds b.number = 0 := by omega
    have hwithout : withoutBegin b.number (x :: ds) = withoutBegin b.number ds := by simp [withoutBegin, hx]
    rw [hs, if_neg (by decide)] at hk
    rw [hwithout, withoutBegin_iff hnone] at hj
    rw [hk]; exact hj
  · omega

end RunsFor

end Sys2Proof.Machine

/-! PROOFS. What every step keeps of the Booking List, the entry keys, the pins and the recordings, said once as a relation
(`KeepsLists`), with one rule for each operation of the state that touches them. -/

namespace Sys2Proof.Machine

/-- `t` has its list in order, its keys apart and its pins and counts right, where `s` has. -/
structure KeepsLists (s t : State) : Prop where
  keeps : Keeps s t
  list : NumbersOk s → ListOk s → ListOk t
  keys : KeysOk s → KeysOk t
  pins : InBounds s → NumbersOk s → PinsOk s → PinsOk t
  runs : NumbersOk s → RunsOk s → RunsOk t

namespace KeepsLists
variable {s t u : State}

theorem refl (s : State) : KeepsLists s s := ⟨.refl s, fun _ => id, id, fun _ _ => id, fun _ => id⟩

theorem trans (h : KeepsLists s t) (k : KeepsLists t u) : KeepsLists s u where
  keeps := h.keeps.trans k.keeps
  list n l := k.list (h.keeps.numbers n) (h.list n l)
  keys := k.keys ∘ h.keys
  pins i n p := k.pins (h.keeps.bounds i) (h.keeps.numbers n) (h.pins i n p)
  runs n r := k.runs (h.keeps.numbers n) (h.runs n r)

/-- Work done step by step over a list. -/
theorem foldl {α : Type} {f : State → α → State} (h : ∀ s a, KeepsLists s (f s a)) (xs : List α) (s : State) :
    KeepsLists s (xs.foldl f s) := by
  induction xs generalizing s with
  | nil => exact refl s
  | cons x xs ih => exact (h s x).trans (ih _)

/-- A test that refuses, before work that keeps the lists. -/
theorem orRefuse {c : Prop} [Decidable c] {r : RefuseReason} {w : State × Answer} (h : KeepsLists s w.1) :
    KeepsLists s (if c then refuse s r else w).1 := by
  split
  · exact refl s
  · exact h

end KeepsLists

/-! ### What the invariants do not read -/

/-- Two states alike in all that the invariants read: the entries' slots, keys and pins, the bookings, the waiting BEGINs and
the recording count. -/
structure SameLists (s t : State) : Prop where
  entries : t.guide.entries.map GuideEntry.face = s.guide.entries.map GuideEntry.face
  bookings : t.plan.bookings = s.plan.bookings
  begins : ∀ n, beginsIn t.outbox.directives n = beginsIn s.outbox.directives n
  recordings : t.run.recordings = s.run.recordings

/-- The fields that the invariants read. -/
def State.lists (s : State) : List GuideEntry × List Booking × List Directive × Nat :=
  (s.guide.entries, s.plan.bookings, s.outbox.directives, s.run.recordings)

theorem SameLists.of_eq {s t : State} (h : t.lists = s.lists) : SameLists s t := by
  simp only [State.lists, Prod.mk.injEq] at h
  obtain ⟨hentries, hbookings, hdirectives, hrecordings⟩ := h
  exact ⟨by rw [hentries], hbookings, fun n => by rw [hdirectives], hrecordings⟩

theorem SameLists.refl (s : State) : SameLists s s := .of_eq rfl

theorem SameLists.trans {s t u : State} (h : SameLists s t) (k : SameLists t u) : SameLists s u :=
  ⟨k.entries.trans h.entries, k.bookings.trans h.bookings, fun n => (k.begins n).trans (h.begins n),
    k.recordings.trans h.recordings⟩

theorem SameLists.after {s t u : State} (k : SameLists t u) (h : t.lists = s.lists) : SameLists s u :=
  (SameLists.of_eq h).trans k

theorem KeysOk.of_keys {s t : State} (h : KeysOk s)
    (k : t.guide.entries.map (fun e => (e.channel, e.eventId)) = s.guide.entries.map fun e => (e.channel, e.eventId)) :
    KeysOk t := by
  rw [keysOk_iff] at h ⊢
  rw [k]; exact h

theorem KeysOk.of_faces {s t : State} (h : KeysOk s)
    (k : t.guide.entries.map GuideEntry.face = s.guide.entries.map GuideEntry.face) : KeysOk t :=
  h.of_keys (by simpa [GuideEntry.face, List.map_map, Function.comp_def]
    using congrArg (List.map fun x => (x.2.1, x.2.2.1)) k)

theorem KeysOk.of_sublist {s t : State} (h : KeysOk s) (k : t.guide.entries.Sublist s.guide.entries) : KeysOk t :=
  List.Pairwise.sublist k h

theorem PinsOk.of_perm {s t : State} (h : PinsOk s) (k : s.plan.bookings.Perm t.plan.bookings)
    (he : t.guide.entries.map GuideEntry.face = s.guide.entries.map GuideEntry.face) : PinsOk t :=
  (pinsOk_iff t).mpr ((((pinsOk_iff s).mp h).perm k).faces he)

/-- What touches nothing the invariants read keeps them. -/
theorem Keeps.lists {s t : State} (h : Keeps s t) (k : SameLists s t) : KeepsLists s t where
  keeps := h
  list _ l := l.of_sublist (by rw [k.bookings])
  keys l := l.of_faces k.entries
  pins _ _ p := p.of_perm (by rw [k.bookings]) k.entries
  runs _ r := by
    rw [runsOk_iff] at r ⊢
    rw [k.bookings, k.recordings]
    exact r.directives k.begins

theorem Works.lists {s t : State} (h : Works s t) (k : SameLists s t) : KeepsLists s t := h.keeps.lists k

/-- A state in which nothing that the bounds, the numbers and the lists read has changed. -/
theorem untouched_lists {s t : State} (h : t.lists = s.lists) (hrest : (t.present, t.settings, t.services, t.requests,
      t.image.flash, t.image.capture, t.line.dropAddress, t.plan.counter)
    = (s.present, s.settings, s.services, s.requests, s.image.flash, s.image.capture, s.line.dropAddress, s.plan.counter)) :
    KeepsLists s t := by
  have hsame := SameLists.of_eq h
  simp only [State.lists, Prod.mk.injEq] at h hrest
  obtain ⟨hpresent, hsettings, hservices, hrequests, hflash, hcapture, hdrop, hcounter⟩ := hrest
  exact (SameTables.keeps ⟨hpresent, hsettings, hservices, hrequests, h.1, hflash, hcapture, hdrop, h.2.1, hcounter⟩).lists hsame

/-! ### Operations that touch nothing the invariants read -/

section
variable (s : State)

theorem joinNotice_same (n : Notice) : SameLists s (s.joinNotice n) := by rw [joinNotice_eq]; exact .of_eq rfl

theorem edgeEvent_same (n : Notice) : SameLists s (s.edgeEvent n) := by
  unfold State.edgeEvent
  split
  · exact .refl s
  · exact joinNotice_same s n

theorem edgeEvent_lists (n : Notice) (h : n.isEdge = true) : KeepsLists s (s.edgeEvent n) :=
  (edgeEvent_works s n h).lists (edgeEvent_same s n)

theorem sample_same (l : LevelSource) : SameLists s (s.sample l) := by rw [sample_eq]; exact .of_eq rfl

theorem reportClashes_lists (n : Nat) : KeepsLists s (s.reportClashes n) :=
  (reportClashes_works s n).lists ((sample_same _ _).after rfl)

theorem reportSpace_lists (n : Nat) : KeepsLists s (s.reportSpace n) :=
  (reportSpace_works s n).lists ((sample_same _ _).after rfl)

theorem setGuideFull_lists (v : Bool) : KeepsLists s (s.setGuideFull v) := by
  refine (setGuideFull_works s v).lists ?_
  unfold State.setGuideFull
  split
  · exact .refl s
  · exact (sample_same _ _).after rfl

theorem setListShort_same (v : Bool) : SameLists s (s.setListShort v) := by
  unfold State.setListShort
  split
  · exact .refl s
  · exact (sample_same _ _).after rfl

theorem noteChange_same (c : StoredContent) : SameLists s (State.noteChange c s) := by
  rw [noteChange_eq]; exact .of_eq rfl

theorem noteChange_lists (c : StoredContent) : KeepsLists s (State.noteChange c s) :=
  (noteChange_works c s).lists (noteChange_same s c)

theorem setImageState_same (st : ImageState) : SameLists s (s.setImageState st) := by rw [setImageState_eq]; exact .of_eq rfl

theorem atOnce_same (d : Due) (t : Nat) : SameLists s (s.atOnce d t) := by
  unfold State.atOnce
  split
  · exact .of_eq rfl
  · exact .refl s

theorem atOnce_lists (d : Due) (t : Nat) : KeepsLists s (s.atOnce d t) := (atOnce_works s d t).lists (atOnce_same s d t)

theorem agenda_lists (ds : List Due) : KeepsLists s { s with agenda := ds } := (agenda_works s ds).lists (.of_eq rfl)

theorem applyTrigger_same (t : Trigger) : SameLists s (s.applyTrigger t) := by
  unfold State.applyTrigger
  split
  · exact .of_eq rfl
  · exact .refl s

/-- The panel lines apart, a new recording count is written (R111). -/
theorem setRecordings_same (n : Nat) : SameLists { s with run := { s.run with recordings := n } } (s.setRecordings n) := by
  unfold State.setRecordings
  simp only []
  split
  · exact applyTrigger_same _ _
  · split
    · exact applyTrigger_same _ _
    · exact .refl _

theorem withTuner_same (t : TunerId) (x : Tuner) : SameLists s (s.withTuner t x) := by cases t <;> exact .of_eq rfl

theorem setWarning_same (t : TunerId) (h : ViewerHold) : SameLists s (s.setWarning t h) := by
  unfold State.setWarning
  simp only []
  split
  · exact (withTuner_same s t _).trans (atOnce_same _ _ _)
  · exact withTuner_same s t _

theorem writeYield_lists (t : TunerId) (y : Option (Nat × Nat)) : KeepsLists s (s.writeYield t y) := by
  refine (writeYield_works s t y).lists ?_
  unfold State.writeYield
  split
  · exact .refl s
  · simp only []
    split
    · exact withTuner_same s t _
    · exact setWarning_same s t _

theorem recomputeWake_same : SameLists s (recomputeWake s) := by
  unfold recomputeWake
  split
  · simp only []
    split
    · exact (atOnce_same _ _ _).after rfl
    · exact .of_eq rfl
  · exact .refl s

theorem recomputeWake_lists : KeepsLists s (recomputeWake s) := (recomputeWake_works s).lists (recomputeWake_same s)

theorem queueYield_same (t : TunerId) (n : Nat) : SameLists s (s.queueYield t n) := by
  refine ⟨rfl, rfl, fun m => (beginsIn_append_other (es := [.yieldTuner t n]) ?_ _ m).trans ?_, rfl⟩
  · intro x hx k; rw [List.mem_singleton.mp hx]; rfl
  · unfold beginsIn
    rw [List.filter_filter]
    refine congrArg List.length (List.filter_congr fun d _ => ?_)
    cases d <;> simp [Directive.isBeginFor, Directive.isYieldFor]

/-- Entries changed in place, each keeping its slot, its key and its pins. -/
theorem mapEntries_same (f : GuideEntry → GuideEntry) (h : ∀ e, (f e).face = e.face) :
    SameLists s (s.withEntries (s.guide.entries.map f)) :=
  ⟨(List.map_map ..).trans (List.map_congr_left fun e _ => h e), rfl, fun _ => rfl, rfl⟩

theorem mapEntry_same (n : Nat) (f : GuideEntry → GuideEntry) (h : ∀ e, (f e).face = e.face) :
    SameLists s (s.mapEntry n f) :=
  mapEntries_same s _ fun e => by split; exacts [h e, rfl]

theorem removeRequest_same (n : Nat) : SameLists s (s.removeRequest n) :=
  ⟨(List.map_map ..).trans (List.map_congr_left fun _ _ => rfl), rfl, fun _ => rfl, rfl⟩

theorem removeRequest_lists (n : Nat) : KeepsLists s (s.removeRequest n) :=
  (removeRequest_works s n).lists (removeRequest_same s n)

end

/-- A change of stored content keeps what the change keeps (R181). -/
theorem KeepsLists.changing {s : State} {f : State → State} (h : KeepsLists s (f s)) : KeepsLists s (s.changing f) :=
  h.trans (noteChange_lists _ _)

/-! ### Bookings changed in place -/

/-- What the invariants read of a booking. -/
def Booking.face (b : Booking) : Nat × Nat × OccurrenceKey × Option BookingState :=
  (b.number, b.winStart, b.key, b.state)

section
variable {bs cs : List Booking} (h : cs.map Booking.face = bs.map Booking.face)
include h

theorem count_of_faces (p : Nat × Nat × OccurrenceKey × Option BookingState → Bool) :
    (cs.filter fun b => p b.face).length = (bs.filter fun b => p b.face).length := by
  have hread : ∀ ds : List Booking, (ds.filter fun b => p b.face).length = ((ds.map Booking.face).filter p).length :=
    fun ds => by rw [List.filter_map, List.length_map]; rfl
  rw [hread, hread, h]

theorem exists_of_faces {c : Booking} (hc : c ∈ cs) : ∃ b ∈ bs, b.face = c.face :=
  List.mem_map.mp (h ▸ List.mem_map_of_mem hc)

theorem dueIn_of_faces {n : Nat} (hd : DueIn cs n) : DueIn bs n := by
  obtain ⟨c, hc, hn, hs⟩ := hd
  obtain ⟨b, hb, hbc⟩ := exists_of_faces h hc
  simp only [Booking.face, Prod.mk.injEq] at hbc
  exact ⟨b, hb, hbc.1.trans hn, hbc.2.2.2.trans hs⟩

end

/-- Bookings changed in what the invariants do not read keep the lists. -/
theorem sameFaces_lists {s : State} {bs : List Booking}
    (h : bs.map Booking.face = s.plan.bookings.map Booking.face) : KeepsLists s (s.withBookings bs) where
  keeps := (bookings_works s bs ⟨_, .refl _, by
    have hnumbers := congrArg (List.map Prod.fst) h
    rw [List.map_map, List.map_map] at hnumbers
    exact .of_eq hnumbers.symm⟩).keeps
  list _ l := by
    have hread : ∀ cs : List Booking, cs.Pairwise (fun b c => b.winStart < c.winStart ∨ b.winStart = c.winStart ∧ b.number < c.number)
        ↔ (cs.map Booking.face).Pairwise (fun x y => x.2.1 < y.2.1 ∨ x.2.1 = y.2.1 ∧ x.1 < y.1) :=
      fun cs => by rw [List.pairwise_map]; rfl
    exact (hread bs).mpr (h.symm ▸ (hread _).mp l)
  keys := id
  pins _ _ p := by
    refine ⟨fun e he => (p.count e he).trans (count_of_faces h fun x => x.2.2.1 == .guideSlot e.slot).symm,
      fun b hb n hn => ?_⟩
    obtain ⟨a, ha, hab⟩ := exists_of_faces h hb
    simp only [Booking.face, Prod.mk.injEq] at hab
    exact p.named a ha n (hab.2.2.1.trans hn)
  runs _ r := by
    rw [runsOk_iff] at r ⊢
    exact ⟨r.recordings.trans (count_of_faces h fun x => x.2.2.2 == some .recording).symm,
      fun n hn => r.begun n (dueIn_of_faces h hn), fun n hn => r.idle n fun hd => hn (dueIn_of_faces h.symm hd)⟩

/-- Bookings changed in place keep the lists where their states change at most from and to one that nothing counts. -/
theorem mapBookings_keepsLists {s : State} {f : Booking → Booking}
    (h : ∀ b, (f b).number = b.number ∧ (f b).winStart = b.winStart ∧ (f b).key = b.key)
    (hs : NumbersOk s → ∀ b ∈ s.plan.bookings, (f b).state = b.state ∨ Quiet b.state ∧ Quiet (f b).state) :
    KeepsLists s (s.withBookings (s.plan.bookings.map f)) where
  keeps := (mapBookings_works s f fun b => (h b).1).keeps
  list _ l := l.of_map f (fun b => ⟨(h b).2.1, (h b).1⟩) rfl
  keys := id
  pins _ _ p := (pinsOk_iff _).mpr (((pinsOk_iff s).mp p).map fun b _ => by rw [(h b).2.2])
  runs n r := (runsOk_iff _).mpr (((runsOk_iff s).mp r).map fun b hb => ⟨(h b).1, hs n b hb⟩)

theorem mapBookings_lists (s : State) (f : Booking → Booking) (h : ∀ b, (f b).face = b.face) :
    KeepsLists s (s.withBookings (s.plan.bookings.map f)) :=
  sameFaces_lists ((List.map_map ..).trans (List.map_congr_left fun b _ => h b))

theorem mapBooking_lists (s : State) (n : Nat) (f : Booking → Booking) (h : ∀ b, (f b).face = b.face) :
    KeepsLists s (s.mapBooking n f) :=
  mapBookings_lists s _ fun b => by split; exacts [h b, rfl]

/-- The booking of a number changed, its state at most from and to one that nothing counts. -/
theorem mapBooking_quiet (s : State) (n : Nat) (f : Booking → Booking)
    (h : ∀ b, (f b).number = b.number ∧ (f b).winStart = b.winStart ∧ (f b).key = b.key ∧ Quiet (f b).state)
    (hs : NumbersOk s → ∀ b ∈ s.plan.bookings, b.number = n → Quiet b.state) : KeepsLists s (s.mapBooking n f) := by
  refine mapBookings_keepsLists (fun b => ?_) fun k b hb => ?_
  · split
    · exact ⟨(h b).1, (h b).2.1, (h b).2.2.1⟩
    · exact ⟨rfl, rfl, rfl⟩
  · split
    · rename_i hn; exact .inr ⟨hs k b hb (beq_iff_eq.mp hn), (h b).2.2.2⟩
    · exact .inl rfl

/-- Bookings changed and put in list order again, each keeping its number, the guide slot it names and its state (R70). -/
theorem sortBookings_lists {s : State} {f : Booking → Booking} (h : ∀ b, (f b).number = b.number ∧ (f b).state = b.state)
    (hk : InBounds s → ∀ b ∈ s.plan.bookings, (f b).key.slot? = b.key.slot?) :
    KeepsLists s (s.withBookings (sortBy listBefore (s.plan.bookings.map f))) := by
  have hperm := sortBy_perm listBefore (s.plan.bookings.map f)
  have hworks := sortBookings_works s listBefore f fun b => (h b).1
  exact {
    keeps := hworks.keeps
    list := fun n _ => strictly_of_ordered (hworks.numbers n).distinct
      (sortBy_ordered listBefore_asymm listBefore_negTrans _)
    keys := id
    pins := fun i _ p => (pinsOk_iff _).mpr ((((pinsOk_iff s).mp p).map (hk i)).perm hperm.symm)
    runs := fun _ r => (runsOk_iff _).mpr
      ((((runsOk_iff s).mp r).map fun b _ => ⟨(h b).1, .inl (h b).2⟩).perm hperm.symm) }

/-! ### Bookings that leave and enter -/

/-- Pins released one after another, as the entries of the store have it. -/
theorem foldl_pinDown_entries (gone : List Booking) (s : State) :
    (gone.foldl (fun t b => t.pinDown b.key) s).guide.entries
      = gone.foldl (fun es b => repinned (· - 1) b.key es) s.guide.entries := by
  induction gone generalizing s with
  | nil => rfl
  | cons b gone ih => rw [List.foldl_cons, ih, pinDown_entries]; rfl

/-- Bookings removed silently keep the lists where none of them is DUE or RECORDING (R61, R83). -/
theorem removeSilently_lists (s : State) (p : Booking → Bool) (h : ∀ b, p b = true → Quiet b.state) :
    KeepsLists s (s.removeSilently p) := by
  have hread : s.removeSilently p = { s.withBookings (s.plan.bookings.filter fun b => !p b) with
      guide := (s.removeSilently p).guide } := foldl_pinDown_eq _ _
  have hentries : (s.removeSilently p).guide.entries
      = (s.plan.bookings.filter p).foldl (fun es b => repinned (· - 1) b.key es) s.guide.entries := foldl_pinDown_entries _ _
  have hbookings : (s.removeSilently p).plan.bookings = s.plan.bookings.filter fun b => !p b := by rw [hread]; rfl
  have hkeys : ∀ (gone : List Booking) (es : List GuideEntry),
      (gone.foldl (fun es b => repinned (· - 1) b.key es) es).map (fun e => (e.channel, e.eventId))
        = es.map fun e => (e.channel, e.eventId) := by
    intro gone
    induction gone with
    | nil => exact fun _ => rfl
    | cons b gone ih => exact fun es => (ih _).trans (map_repinned _ (fun _ _ => rfl) _ b.key es)
  exact {
    keeps := (removeSilently_works s p).keeps
    list := fun _ l => l.of_sublist (hbookings ▸ List.filter_sublist)
    keys := fun k => k.of_keys (by rw [hentries]; exact hkeys _ _)
    pins := fun _ _ k => by
      rw [pinsOk_iff] at k ⊢
      rw [hbookings, hentries]
      exact (k.perm (List.filter_append_perm p s.plan.bookings).symm).unpinAll _
    runs := fun _ r => by
      rw [runsOk_iff] at r ⊢
      rw [hread]
      exact r.filter fun b _ hb => h b (by simpa using hb) }

/-- A booking of a fresh number that is neither DUE nor RECORDING enters, the entry it names being in the store (R30, R70). -/
theorem enterBooking_lists {s t : State} {b : Booking} (h : KeepsLists s t) (hkeeps : Keeps s (t.enterBooking b))
    (hs : Quiet b.state) (hslot : InBounds s → NumbersOk s → PinsOk s → ∀ n, b.key = .guideSlot n → n ∈ t.guide.entries.map GuideEntry.slot)
    (hfresh : NumbersOk s → b.number ∉ t.plan.bookings.map Booking.number) : KeepsLists s (t.enterBooking b) := by
  have hplan : (t.pinUp b.key).plan = t.plan := by cases b.key <;> rfl
  have hrest : (t.enterBooking b).run = t.run ∧ (t.enterBooking b).outbox = t.outbox := by
    unfold State.enterBooking; cases b.key <;> exact ⟨rfl, rfl⟩
  have hbookings : (t.enterBooking b).plan.bookings = insertBy listBefore b t.plan.bookings := by
    show insertBy listBefore b (t.pinUp b.key).plan.bookings = _
    rw [hplan]
  have hentries : (t.enterBooking b).guide.entries = repinned (· + 1) b.key t.guide.entries := pinUp_entries t b.key
  have hperm := insertBy_perm listBefore b t.plan.bookings
  exact {
    keeps := hkeeps
    list := fun n l => by
      have hordered := insertBy_ordered listBefore_asymm listBefore_negTrans b (ordered_of_listOk (h.list n l))
      rw [← hbookings] at hordered
      exact strictly_of_ordered (hkeeps.numbers n).distinct hordered
    keys := fun k => (h.keys k).of_keys (by rw [hentries]; exact map_repinned _ (fun _ _ => rfl) _ _ _)
    pins := fun i n k => by
      have hpins := (pinsOk_iff t).mp (h.pins i n k)
      rw [pinsOk_iff, hbookings, hentries]
      exact (hpins.pin (hslot i n k)).perm hperm.symm
    runs := fun n r => by
      have hruns := (runsOk_iff t).mp (h.runs n r)
      rw [runsOk_iff, hbookings, hrest.1, hrest.2]
      exact ((RunsFor.cons_quiet_iff (hfresh n) hs).mpr hruns).perm hperm.symm }

/-! ### Entries that leave and enter -/

/-- Unpinned entries leave the store (R41, R46, R48). -/
theorem filterEntries_lists (s : State) (keep : GuideEntry → Bool)
    (h : InBounds s → ∀ e ∈ s.guide.entries, keep e = false → e.pins = 0) :
    KeepsLists s (s.withEntries (s.guide.entries.filter keep)) where
  keeps := (entries_works s _ (List.filter_sublist.map _)).keeps
  list _ := id
  keys k := k.of_sublist List.filter_sublist
  pins i _ p := (pinsOk_iff _).mpr (((pinsOk_iff s).mp p).filter (h i))
  runs _ r := ⟨r.recordings, r.begins⟩

theorem dropEntries_lists (s : State) (keep : GuideEntry → Bool) (h : ∀ e, keep e = false → e.pins = 0) :
    KeepsLists s (s.dropEntries keep) := by
  have hfiltered := filterEntries_lists s keep fun _ e _ => h e
  unfold State.dropEntries
  simp only []
  split
  · exact hfiltered.trans (setGuideFull_lists _ _)
  · exact hfiltered

end Sys2Proof.Machine

/-! PROOFS. The wanted set, kind by kind (R76 to R82). -/

namespace Sys2Proof.Machine

theorem mem_dedupe {α : Type} [DecidableEq α] {x : α} {xs : List α} : x ∈ dedupe xs ↔ x ∈ xs := by
  induction xs with
  | nil => rfl
  | cons y ys ih =>
    rw [dedupe, List.mem_cons, List.mem_cons, List.mem_filter, decide_eq_true_iff, ih]
    by_cases h : x = y <;> simp [h]

theorem firstBy_mem {α : Type} {before : α → α → Bool} {l : List α} {x : α} (h : firstBy before l = some x) : x ∈ l := by
  induction l generalizing x with
  | nil => cases h
  | cons a l ih =>
    simp only [firstBy] at h
    split at h
    · cases h; exact List.mem_cons_self
    · rename_i y hy
      split at h <;> cases h
      · exact List.mem_cons_of_mem _ (ih hy)
      · exact List.mem_cons_self

section
variable {s : State} {n : Nat} {o : Occurrence}

theorem withinReach_iff (s : State) (start duration : Nat) : withinReach s start duration = true ↔
    s.present < start + duration ∧ start < horizonEnd s := by
  simp [withinReach]

/-! ### TIMED requests (R78, R79) -/

/-- The occurrence of a single TIMED request. -/
def singleOccurrence (s : State) (n : Nat) (f : TimedFields) : Occurrence :=
  ⟨n, .localDay (localDay s.settings f.start), f.start, f.duration, f.channel, none⟩

theorem mem_wantedSingle {f : TimedFields} : o ∈ wantedSingle s n f ↔
    withinReach s f.start f.duration = true ∧ o = singleOccurrence s n f := by
  unfold wantedSingle
  split
  · rename_i h; simp [h, singleOccurrence]
  · rename_i h; simp [h]

theorem mem_daysExamined {d : Int} : d ∈ daysExamined s ↔
    localDay s.settings s.present - 1 ≤ d ∧ d ≤ localDay s.settings (horizonEnd s) := by
  simp only [daysExamined, List.mem_map, List.mem_range]
  constructor
  · rintro ⟨i, hi, rfl⟩; omega
  · rintro ⟨hlo, hhi⟩
    exact ⟨(d - (localDay s.settings s.present - 1)).toNat, by omega, by omega⟩

theorem wantsDay_iff (f : TimedFields) (d : Int) : wantsDay f d = true ↔
    f.days.getLsbD (weekday d) = true ∧ d ∉ f.skip ∧ ∀ sd, f.settledDay = some sd → sd < d := by
  unfold wantsDay
  cases f.settledDay <;> simp [and_assoc]

/-- The occurrence of a repeating TIMED request on a local day. -/
def dayOccurrence (s : State) (n : Nat) (f : TimedFields) (d : Int) : Occurrence :=
  ⟨n, .localDay d, dayInstant s.settings d f.start, f.duration, f.channel, none⟩

theorem mem_wantedRepeating {f : TimedFields} : o ∈ wantedRepeating s n f ↔ ∃ d ∈ daysExamined s,
    wantsDay f d = true ∧ withinReach s (dayInstant s.settings d f.start) f.duration = true
      ∧ o = dayOccurrence s n f d := by
  simp only [wantedRepeating, List.mem_filterMap, Option.ite_none_right_eq_some, Bool.and_eq_true, Option.some.injEq,
    and_assoc, eq_comm (a := o)]
  rfl

/-! ### EVENT requests (R80) -/

theorem entry_eq_of_key (h : KeysOk s) {d e : GuideEntry} (hd : d ∈ s.guide.entries) (he : e ∈ s.guide.entries)
    (hchannel : d.channel = e.channel) (hevent : d.eventId = e.eventId) : d = e :=
  List.inj_on_of_nodup_map ((keysOk_iff s).mp h) hd he (Prod.ext hchannel hevent)

/-- With the keys apart, the entry found by a key is the one that has it (R28). -/
theorem entry?_eq_some (h : KeysOk s) {e : GuideEntry} (he : e ∈ s.guide.entries) :
    s.entry? e.channel e.eventId = some e := by
  cases hfound : s.entry? e.channel e.eventId with
  | none =>
    have := List.find?_eq_none.mp hfound e he
    simp at this
  | some d =>
    have hkey : d.channel = e.channel ∧ d.eventId = e.eventId := by simpa using List.find?_some hfound
    rw [entry_eq_of_key h (List.mem_of_find?_eq_some hfound) he hkey.1 hkey.2]

theorem entry?_spec {c i : Nat} {e : GuideEntry} (h : s.entry? c i = some e) :
    e ∈ s.guide.entries ∧ e.channel = c ∧ e.eventId = i :=
  ⟨List.mem_of_find?_eq_some h, by simpa using List.find?_some h⟩

/-- An entry stands for an occurrence that a request has not settled (R31, R80, R81). -/
def Current (n : Nat) (e : GuideEntry) : Prop := e.withdrawn = false ∧ n ∉ e.settled

theorem mem_wantedEvent {f : EventFields} : o ∈ wantedEvent s n f ↔ ∃ e, s.entry? f.channel f.eventId = some e
    ∧ Current n e ∧ s.hasService e.channel = true ∧ withinReach s e.start e.duration = true
    ∧ o = entryOccurrence n e := by
  unfold wantedEvent
  cases s.entry? f.channel f.eventId with
  | none => simp
  | some e =>
    by_cases h : (!e.withdrawn && !e.settled.contains n && s.hasService e.channel && withinReach s e.start e.duration) = true
    · simp only [if_pos h, List.mem_singleton]
      simp only [Bool.and_eq_true, Bool.not_eq_true', List.contains_eq_mem, decide_eq_false_iff_not] at h
      simp [Current, h]
    · simp only [if_neg h, List.not_mem_nil, false_iff]
      rintro ⟨d, hd, ⟨hw, hset⟩, hserv, hreach, -⟩
      cases hd
      simp [hw, hset, hserv, hreach] at h

/-! ### SERIES requests (R81, R82) -/

theorem mem_qualifying {f : SeriesFields} {e : GuideEntry} : e ∈ qualifying s n f ↔ e ∈ s.guide.entries
    ∧ e.series = some f.seriesId ∧ (if f.channel = 0 then s.hasService e.channel = true else e.channel = f.channel)
    ∧ Current n e ∧ withinReach s e.start e.duration = true := by
  by_cases h : f.channel = 0 <;> simp [qualifying, Current, h, and_assoc]

theorem mem_wantedSeries {f : SeriesFields} : o ∈ wantedSeries s n f ↔ ∃ e ∈ qualifying s n f, o = entryOccurrence n e
    ∧ ∀ id, e.episode = some id →
      wantedOfGroup s n f ((qualifying s n f).filter (fun e => e.episode == some id)) id = some e := by
  have hgroup : ∀ id e, wantedOfGroup s n f ((qualifying s n f).filter (fun e => e.episode == some id)) id = some e →
      e ∈ qualifying s n f ∧ e.episode = some id := by
    intro id e he
    have hmem : e ∈ (qualifying s n f).filter (fun e => e.episode == some id) := by
      unfold wantedOfGroup at he
      simp only [] at he
      split at he
      · cases he
      · split at he
        · cases he
        · split at he
          · exact firstBy_mem he
          · exact List.mem_of_mem_filter (firstBy_mem he)
    simpa using hmem
  simp only [wantedSeries, List.mem_map, List.mem_append, List.mem_filter, List.mem_filterMap, mem_dedupe, beq_iff_eq]
  constructor
  · rintro ⟨e, ⟨hq, hnone⟩ | ⟨id, -, he⟩, rfl⟩
    · exact ⟨e, hq, rfl, fun id hid => by rw [hnone] at hid; cases hid⟩
    · obtain ⟨hq, hep⟩ := hgroup id e he
      refine ⟨e, hq, rfl, fun id' hid' => ?_⟩
      rw [hep] at hid'; cases hid'
      exact he
  · rintro ⟨e, hq, rfl, hwanted⟩
    refine ⟨e, ?_, rfl⟩
    cases hep : e.episode with
    | none => exact .inl ⟨hq, rfl⟩
    | some id => exact .inr ⟨id, ⟨e, hq, hep⟩, hwanted id hep⟩

/-- An open booking of the request names the entry (R82). -/
def Named (s : State) (n : Nat) (e : GuideEntry) : Prop :=
  ∃ b ∈ s.plan.bookings, b.request = n ∧ b.isOpen = true ∧ b.key = .guideSlot e.slot

theorem airsBefore_iff (e f : GuideEntry) : airsBefore e f = true ↔ e.start < f.start ∨ (e.start = f.start
    ∧ (e.channel < f.channel ∨ (e.channel = f.channel ∧ e.eventId < f.eventId))) := by
  simp [airsBefore]

/-- With the keys apart, the first of some entries is the one that no other comes before. -/
theorem firstAiring_iff (hkeys : KeysOk s) {l : List GuideEntry} (hl : ∀ e ∈ l, e ∈ s.guide.entries) {e : GuideEntry} :
    firstBy airsBefore l = some e ↔ e ∈ l ∧ ∀ x ∈ l, ¬ airsBefore x e = true := by
  have hfirst : ∀ {x}, firstBy airsBefore l = some x → x ∈ l ∧ ∀ y ∈ l, airsBefore y x = false := by
    refine fun h => firstBy_spec (fun x => ?_) (fun x y hxy => ?_) (fun x y z hxy hyz => ?_) h <;>
      (simp only [Bool.eq_false_iff, ne_eq, airsBefore_iff] at *; omega)
  constructor
  · intro h
    exact ⟨(hfirst h).1, fun x hx => Bool.eq_false_iff.mp ((hfirst h).2 x hx)⟩
  · rintro ⟨hmem, hleast⟩
    cases hx : firstBy airsBefore l with
    | none => rw [firstBy_eq_none] at hx; rw [hx] at hmem; cases hmem
    | some x =>
      obtain ⟨hxmem, hxleast⟩ := hfirst hx
      have hxe := hleast x hxmem
      have hex := Bool.eq_false_iff.mp (hxleast e hmem)
      rw [airsBefore_iff] at hxe
      rw [Ne, airsBefore_iff] at hex
      rw [entry_eq_of_key hkeys (hl x hxmem) (hl e hmem) (by omega) (by omega)]

/-- The entry wanted of a group of one episode (R82). -/
theorem wantedOfGroup_iff (hkeys : KeysOk s) {f : SeriesFields} {group : List GuideEntry}
    (hgroup : ∀ e ∈ group, e ∈ s.guide.entries) {id : Nat} {e : GuideEntry} :
    wantedOfGroup s n f group id = some e ↔ ¬ (f.newOnly = true ∧ id ∈ f.history)
      ∧ (∀ b ∈ s.plan.bookings, b.request = n → b.isHeld = true → b.episode ≠ some id)
      ∧ e ∈ group ∧ (Named s n e ∨ ∀ x ∈ group, ¬ Named s n x)
      ∧ ∀ x ∈ group, (Named s n e → Named s n x) → ¬ airsBefore x e = true := by
  have hheld : ((s.liveOf n).any fun b => b.isHeld && b.episode == some id) = true ↔
      ¬ ∀ b ∈ s.plan.bookings, b.request = n → b.isHeld = true → b.episode ≠ some id := by
    simp [State.liveOf]
  have hnamed : ∀ e : GuideEntry, ((s.liveOf n).any fun b => b.isOpen && b.key == .guideSlot e.slot) = true ↔
      Named s n e := fun e => by simp [State.liveOf, Named]
  have hseen : (f.newOnly && f.history.contains id) = true ↔ f.newOnly = true ∧ id ∈ f.history := by simp
  unfold wantedOfGroup
  simp only []
  split
  · rename_i h; rw [hseen] at h; simp [h]
  · rename_i hnew
    rw [hseen] at hnew
    split
    · rename_i h; rw [hheld] at h; simp [h]
    · rename_i hfree
      rw [hheld, not_not] at hfree
      split
      · rename_i hnone
        have hnone' : ∀ x ∈ group, ¬ Named s n x := fun x hx hxn => by
          rw [List.isEmpty_iff, List.filter_eq_nil_iff] at hnone
          exact hnone x hx ((hnamed x).mpr hxn)
        rw [firstAiring_iff hkeys hgroup]
        exact ⟨fun ⟨hmem, hleast⟩ => ⟨hnew, hfree, hmem, .inr hnone', fun x hx _ => hleast x hx⟩,
          fun ⟨_, _, hmem, _, hleast⟩ => ⟨hmem, fun x hx => hleast x hx fun he => absurd he (hnone' e hmem)⟩⟩
      · rename_i hsome
        rw [firstAiring_iff hkeys fun x hx => hgroup x (List.mem_of_mem_filter hx)]
        simp only [List.mem_filter, hnamed]
        constructor
        · rintro ⟨⟨hmem, hn⟩, hleast⟩
          exact ⟨hnew, hfree, hmem, .inl hn, fun x hx hxn => hleast x ⟨hx, hxn hn⟩⟩
        · rintro ⟨-, -, hmem, hn | hnone, hleast⟩
          · exact ⟨⟨hmem, hn⟩, fun x hx => hleast x hx.1 fun _ => hx.2⟩
          · rw [List.isEmpty_iff, List.filter_eq_nil_iff] at hsome
            exact absurd (fun x hx hxn => hnone x hx ((hnamed x).mp hxn)) hsome

end

/-! ### What a request wants (R76) -/

section
variable {s : State} {r : Request} {o : Occurrence}

/-- Where an occurrence wanted of a request comes from: its one occurrence, one of its days, or an entry. -/
inductive WantedFrom (s : State) (r : Request) : Occurrence → Prop
  | single (f : TimedFields) (hkind : r.kind = .timed f) (hdays : f.days = 0) :
      WantedFrom s r (singleOccurrence s r.number f)
  | day (f : TimedFields) (hkind : r.kind = .timed f) (hdays : f.days ≠ 0) (d : Int) :
      WantedFrom s r (dayOccurrence s r.number f d)
  | entry (hkind : r.isSingle = false) (e : GuideEntry) (he : e ∈ s.guide.entries) :
      WantedFrom s r (entryOccurrence r.number e)

theorem isSingle_timed {f : TimedFields} (h : r.kind = .timed f) : r.isSingle = (f.days == 0) := by
  simp only [Request.isSingle, h]

theorem wantedFrom (h : o ∈ wantedOf s r) : WantedFrom s r o := by
  unfold wantedOf at h
  split at h
  · split at h
    · rename_i f hkind
      split at h
      · rename_i hdays
        rw [(mem_wantedSingle.mp h).2]; exact .single f hkind hdays
      · rename_i hdays
        obtain ⟨d, -, -, -, rfl⟩ := mem_wantedRepeating.mp h
        exact .day f hkind hdays d
    · rename_i f hkind
      obtain ⟨e, he, -, -, -, rfl⟩ := mem_wantedEvent.mp h
      exact .entry (by simp only [Request.isSingle, hkind]) e (entry?_spec he).1
    · rename_i f hkind
      obtain ⟨e, he, rfl, -⟩ := mem_wantedSeries.mp h
      exact .entry (by simp only [Request.isSingle, hkind]) e (mem_qualifying.mp he).1
  · cases h

theorem WantedFrom.request (h : WantedFrom s r o) : o.request = r.number := by cases h <;> rfl

/-- The entry that an occurrence names is in the store. -/
theorem WantedFrom.slot_mem (h : WantedFrom s r o) {n : Nat} (hn : o.key = .guideSlot n) :
    n ∈ s.guide.entries.map GuideEntry.slot := by
  cases h with
  | single f hkind hdays => cases hn
  | day f hkind hdays d => cases hn
  | entry hkind e he => cases hn; exact List.mem_map_of_mem he

/-- A single TIMED request names no entry. -/
theorem WantedFrom.slot?_of_single (h : WantedFrom s r o) (hr : r.isSingle = true) : o.key.slot? = none := by
  cases h with
  | single f hkind hdays => rfl
  | day f hkind hdays d => rfl
  | entry hkind e he => rw [hkind] at hr; cases hr

end

/-! ### The request a number names -/

theorem request?_spec {s : State} {n : Nat} {r : Request} (h : s.request? n = some r) : r ∈ s.requests ∧ r.number = n :=
  ⟨List.mem_of_find?_eq_some h, by simpa using List.find?_some h⟩

theorem request_eq_of_number {rs : List Request} (h : requestsOk rs) {q r : Request} (hq : q ∈ rs) (hr : r ∈ rs)
    (hn : q.number = r.number) : q = r :=
  List.inj_on_of_nodup_map (h.1.imp fun hlt => Nat.ne_of_lt hlt) hq hr hn

theorem request?_of_mem {s : State} (h : requestsOk s.requests) {r : Request} (hr : r ∈ s.requests) :
    s.request? r.number = some r := by
  cases hq : s.request? r.number with
  | none =>
    have := List.find?_eq_none.mp hq r hr
    simp at this
  | some q => rw [request_eq_of_number h (request?_spec hq).1 hr (request?_spec hq).2]

theorem mem_wantedSet {s : State} {o : Occurrence} : o ∈ wantedSet s ↔ ∃ r ∈ s.requests, o ∈ wantedOf s r := by
  simp [wantedSet]

end Sys2Proof.Machine

/-! PROOFS. Derivations (R76) and plan passes (R89) keep the lists. -/

namespace Sys2Proof.Machine

theorem quiet_of_open {b : Booking} (h : b.isOpen = true) : Quiet b.state := by
  unfold Booking.isOpen at h
  constructor <;> (intro hs; rw [hs] at h; exact absurd h (by decide))

/-! ### Derivations (R76) -/

/-- The keys of two stores are the same. -/
def SameKeys (s t : State) : Prop :=
  t.guide.entries.map (fun e => (e.channel, e.eventId)) = s.guide.entries.map fun e => (e.channel, e.eventId)

theorem SameLists.sameKeys {s t : State} (h : SameLists s t) : SameKeys s t := by
  simpa [SameKeys, GuideEntry.face, List.map_map, Function.comp_def] using congrArg (List.map fun x => (x.2.1, x.2.2.1)) h.entries

/-- What keeps the lists while the numbers are apart, and the keys in any case. -/
theorem KeepsLists.ofNumbers {s t : State} (hkeeps : Keeps s t) (hkeys : SameKeys s t)
    (h : NumbersOk s → KeepsLists s t) : KeepsLists s t where
  keeps := hkeeps
  list n := (h n).list n
  keys k := k.of_keys hkeys
  pins i n := (h n).pins i n
  runs n := (h n).runs n

theorem pinUp_keys (s : State) (k : OccurrenceKey) : SameKeys s (s.pinUp k) := by
  unfold SameKeys; rw [pinUp_entries]; exact map_repinned _ (fun _ _ => rfl) _ _ _

theorem pinDown_keys (s : State) (k : OccurrenceKey) : SameKeys s (s.pinDown k) := by
  unfold SameKeys; rw [pinDown_entries]; exact map_repinned _ (fun _ _ => rfl) _ _ _

/-- The slots of two stores are the same. -/
def SameSlots (s t : State) : Prop := t.guide.entries.map GuideEntry.slot = s.guide.entries.map GuideEntry.slot

theorem pinUp_slots (s : State) (k : OccurrenceKey) : SameSlots s (s.pinUp k) := by
  unfold SameSlots; rw [pinUp_entries]; exact slots_repinned _ _ _

theorem pinDown_slots (s : State) (k : OccurrenceKey) : SameSlots s (s.pinDown k) := by
  unfold SameSlots; rw [pinDown_entries]; exact slots_repinned _ _ _

theorem removeSilently_slots (s : State) (p : Booking → Bool) : SameSlots s (s.removeSilently p) := by
  have hfold : ∀ (gone : List Booking) (t : State), SameSlots t (gone.foldl (fun t b => t.pinDown b.key) t) := by
    intro gone
    induction gone with
    | nil => exact fun _ => rfl
    | cons b gone ih => exact fun t => (ih _).trans (pinDown_slots t b.key)
  exact hfold _ (s.withBookings _)

theorem pruneSkips_lists (s : State) : KeepsLists s (pruneSkips s) :=
  (pruneSkips_works s).lists ((noteChange_same _ _).after rfl)

theorem removeUnwanted_lists (w : List Occurrence) (s : State) : KeepsLists s (removeUnwanted w s) :=
  removeSilently_lists s _ fun _ hb => quiet_of_open (Bool.and_eq_true_iff.mp hb).1

/-- Open bookings updated keep the lists while no occurrence wanted of a single TIMED request names an entry. -/
theorem updateOpen_lists (w : List Occurrence) (s : State)
    (h : InBounds s → ∀ o ∈ w, ∀ r, s.request? o.request = some r → r.isSingle = true → o.key.slot? = none) :
    KeepsLists s (updateOpen w s) := by
  refine sortBookings_lists (fun b => ?_) fun hbounds b _ => ?_
  · split
    · split <;> exact ⟨rfl, rfl⟩
    · exact ⟨rfl, rfl⟩
  · split
    · split
      · rename_i o r ho hr
        show o.key.slot? = b.key.slot?
        have hserves := List.find?_some ho
        simp only [serves, Bool.and_eq_true, Bool.or_eq_true, beq_iff_eq, Option.isNone_iff_eq_none] at hserves
        obtain ⟨hreq, hkey | ⟨hnone, hsingle⟩⟩ := hserves
        · rw [hkey]
        · rw [← hreq, hr] at hsingle
          rw [hnone, h hbounds o (List.mem_of_find?_eq_some ho) r (hreq ▸ hr) hsingle]
      · rfl
    · rfl

theorem enterBooking_slots (s : State) (b : Booking) : SameSlots s (s.enterBooking b) := pinUp_slots s b.key

theorem createOne_lists (s : State) (o : Occurrence) (hc : s.clockSet = true)
    (ho : ∀ n, o.key = .guideSlot n → n ∈ s.guide.entries.map GuideEntry.slot) :
    KeepsLists s (createOne s o) ∧ SameSlots s (createOne s o) := by
  have hkeeps := (createOne_works s o hc).keeps
  unfold createOne at hkeeps ⊢
  split
  · rename_i hroom
    rw [if_pos hroom] at hkeeps
    split
    · rename_i r hr
      rw [hr] at hkeeps
      exact ⟨enterBooking_lists (.refl s) hkeeps ⟨by rintro ⟨⟩, by rintro ⟨⟩⟩ (fun _ _ _ => ho)
        fun k => (newNumber_spec k).1, enterBooking_slots s _⟩
    · exact ⟨.refl s, rfl⟩
  · exact ⟨.refl s, rfl⟩

theorem foldl_createOne_lists (os : List Occurrence) (s : State) (hc : s.clockSet = true)
    (ho : ∀ o ∈ os, ∀ n, o.key = .guideSlot n → n ∈ s.guide.entries.map GuideEntry.slot) :
    KeepsLists s (os.foldl createOne s) := by
  induction os generalizing s with
  | nil => exact .refl s
  | cons o os ih =>
    obtain ⟨hone, hslots⟩ := createOne_lists s o hc (ho o List.mem_cons_self)
    exact hone.trans (ih _ ((createOne_works s o hc).clockSet.trans hc) fun p hp n hn =>
      hslots.symm ▸ ho p (List.mem_cons_of_mem o hp) n hn)

theorem mem_unserved {w : List Occurrence} {s : State} {o : Occurrence} :
    o ∈ unserved w s ↔ o ∈ w ∧ ∀ b ∈ s.plan.bookings, serves s b o = false := by
  unfold unserved
  rw [(sortBy_perm _ _).mem_iff]
  simp

theorem createWanted_lists (w : List Occurrence) (s : State) (hc : s.clockSet = true)
    (ho : ∀ o ∈ w, ∀ n, o.key = .guideSlot n → n ∈ s.guide.entries.map GuideEntry.slot) :
    KeepsLists s (createWanted w s) :=
  (foldl_createOne_lists _ s hc fun o h => ho o (mem_unserved.mp h).1).trans
    ((setListShort_works _ _).lists (setListShort_same _ _))

theorem derive_lists (s : State) (hc : s.clockSet = true) : KeepsLists s (derive s) := by
  have hpruned := pruneSkips_lists s
  have hworks := pruneSkips_works s
  unfold derive
  generalize pruneSkips s = u at hpruned hworks
  have hremoved := removeUnwanted_lists (wantedSet u) u
  have hremoveds := removeUnwanted_works (wantedSet u) u
  have hupdated := updateOpen_lists (wantedSet u) (removeUnwanted (wantedSet u) u) (by
    intro hb o ho r hr hsingle
    obtain ⟨q, hq, hqo⟩ := mem_wantedSet.mp ho
    have hfrom := wantedFrom hqo
    obtain ⟨hrmem, hrn⟩ := request?_spec hr
    have hrequests : (removeUnwanted (wantedSet u) u).requests = u.requests := by
      unfold removeUnwanted State.removeSilently; rw [foldl_pinDown_eq]; rfl
    have hqr : q = r := request_eq_of_number hb.requests (hrequests ▸ hq) hrmem (hrn.trans hfrom.request).symm
    exact hfrom.slot?_of_single (hqr ▸ hsingle))
  have hclock := (hworks.trans (hremoveds.trans (updateOpen_works (wantedSet u) _))).clockSet.trans hc
  refine ((hpruned.trans hremoved).trans hupdated).trans (createWanted_lists _ _ hclock fun o ho n hn => ?_)
  obtain ⟨q, -, hqo⟩ := mem_wantedSet.mp ho
  have hslots : SameSlots u (removeUnwanted (wantedSet u) u) := removeSilently_slots u _
  exact hslots.symm ▸ (wantedFrom hqo).slot_mem hn

/-! ### Step 4 of a pass: what is placed (R97 to R105) -/

theorem formWindows_lists (s : State) : KeepsLists s (formWindows s) := by
  have hrefresh : ∀ b, (refreshBooking s b).number = b.number ∧ (refreshBooking s b).state = b.state
      ∧ (refreshBooking s b).key = b.key := by
    intro b
    unfold refreshBooking
    split
    · exact ⟨rfl, rfl, rfl⟩
    · split
      · exact ⟨rfl, rfl, rfl⟩
      · split <;> exact ⟨rfl, rfl, rfl⟩
  exact sortBookings_lists (fun b => ⟨(hrefresh b).1, (hrefresh b).2.1⟩) fun _ b _ => by rw [(hrefresh b).2.2]

/-- The booking of a number and key leaves the list, nothing counting it, and takes its pin off. -/
theorem removeOne_lists (s : State) {b : Booking} (hb : b ∈ s.plan.bookings) (hq : Quiet b.state) :
    KeepsLists s ((s.withBookings (others b.number s.plan.bookings)).pinDown b.key) := by
  have hworks := (filterBookings_works s (fun c => c.number != b.number)).trans (pinDown_works _ b.key)
  generalize ht : (s.withBookings (others b.number s.plan.bookings)).pinDown b.key = t
  have hentries : t.guide.entries = repinned (· - 1) b.key s.guide.entries := by
    rw [← ht, pinDown_entries]; rfl
  have hbookings : t.plan.bookings = others b.number s.plan.bookings := by rw [← ht]; cases b.key <;> rfl
  have hrest : t.run = s.run ∧ t.outbox = s.outbox := by rw [← ht]; cases b.key <;> exact ⟨rfl, rfl⟩
  exact {
    keeps := ht ▸ hworks.keeps
    list := fun _ l => l.of_sublist (hbookings ▸ List.filter_sublist)
    keys := fun k => k.of_keys (by rw [hentries]; exact map_repinned _ (fun _ _ => rfl) _ _ _)
    pins := fun _ n p => by
      rw [pinsOk_iff] at p ⊢
      rw [hbookings, hentries]
      exact (p.perm (perm_cons_others n.distinct hb)).unpin
    runs := fun n r => by
      rw [runsOk_iff] at r ⊢
      rw [hbookings, hrest.1, hrest.2]
      exact (RunsFor.cons_quiet_iff (not_mem_others _ _) hq).mp (r.perm (perm_cons_others n.distinct hb)) }

theorem pinUp_plan (s : State) (k : OccurrenceKey) : (s.pinUp k).plan = s.plan := by cases k <;> rfl

theorem pinDown_plan (s : State) (k : OccurrenceKey) : (s.pinDown k).plan = s.plan := by cases k <;> rfl

/-- The state of a pass when a clashed booking has left, its replacement still to enter (R105). -/
def withoutClashed (s : State) (b : Booking) : State :=
  State.edgeEvent ((s.withBookings (others b.number s.plan.bookings)).pinDown b.key)
    (.bookingEnd ⟨b.number, b.request, .replaced, .replaced, 0, b.begun, s.present, some s.newNumber⟩)

theorem bookAlternate_state (w : Pass) (r : Request) (b : Booking) (e : GuideEntry) (p : Place) (n : Need) :
    (bookAlternate w r b e p n).state = (withoutClashed w.state b).enterBooking
      { newBooking w.state.settings r (entryOccurrence r.number e) w.state.newNumber with
        state := some .planned, place := some p, alternate := true } := rfl

theorem withoutClashed_bookings (s : State) (b : Booking) :
    (withoutClashed s b).plan.bookings = others b.number s.plan.bookings := by
  unfold withoutClashed
  rw [(edgeEvent_same _ _).bookings, pinDown_plan]; rfl

theorem withoutClashed_slots (s : State) (b : Booking) : SameSlots s (withoutClashed s b) :=
  (slots_of_faces (edgeEvent_same _ _).entries).trans (pinDown_slots _ b.key)

theorem bookAlternate_keys (w : Pass) (r : Request) (b : Booking) (e : GuideEntry) (p : Place) (n : Need) :
    SameKeys w.state (bookAlternate w r b e p n).state :=
  (pinUp_keys _ _).trans ((edgeEvent_same _ _).sameKeys.trans (pinDown_keys _ b.key))

theorem bookAlternate_lists (w : Pass) (r : Request) (b : Booking) (e : GuideEntry) (p : Place) (n : Need)
    (hc : w.state.clockSet = true) {c : Booking} (hmem : c ∈ w.state.plan.bookings) (hq : Quiet c.state)
    (hnumber : c.number = b.number) (hkey : c.key = b.key) (he : e ∈ w.state.guide.entries) :
    KeepsLists w.state (bookAlternate w r b e p n).state := by
  have hkeeps := (bookAlternate_works w r b e p n hc (hnumber ▸ List.mem_map_of_mem hmem)).keeps
  have hremoved := removeOne_lists w.state hmem hq
  rw [hnumber, hkey] at hremoved
  rw [bookAlternate_state] at hkeeps ⊢
  refine enterBooking_lists (hremoved.trans (edgeEvent_lists _ _ rfl)) hkeeps ⟨by rintro ⟨⟩, by rintro ⟨⟩⟩
    (fun _ _ _ m hm => ?_) fun k hn => ?_
  · cases hm
    have hslots : _ = _ := withoutClashed_slots w.state b
    exact hslots.symm ▸ List.mem_map_of_mem he
  · have hsub : ((withoutClashed w.state b).plan.bookings.map Booking.number).Sublist
        (w.state.plan.bookings.map Booking.number) := by
      rw [withoutClashed_bookings]; exact List.filter_sublist.map _
    exact (newNumber_spec k).1 (hsub.subset hn)

theorem findAiring_mem {s : State} {laid claims : List Extent} {r : Request} {es : List GuideEntry} {e : GuideEntry}
    {p : Place} {n : Need} (h : findAiring s laid claims r es = some (e, p, n)) : e ∈ es := by
  induction es with
  | nil => cases h
  | cons x xs ih =>
    simp only [findAiring] at h
    split at h
    · cases h; exact List.mem_cons_self
    · exact List.mem_cons_of_mem _ (ih h)

theorem candidateAirings_mem {s : State} {r : Request} {f : SeriesFields} {id : Nat} {e : GuideEntry}
    (h : e ∈ candidateAirings s r f id) : e ∈ s.guide.entries :=
  List.mem_of_mem_filter ((sortBy_perm _ _).mem_iff.mp h)

/-- Nothing counts a booking of the number. -/
def QuietAt (s : State) (n : Nat) : Prop := ∀ b ∈ s.plan.bookings, b.number = n → Quiet b.state

theorem mapBooking_quietAt {s : State} {m : Nat} (h : QuietAt s m) (n : Nat) {f : Booking → Booking}
    (hf : ∀ b, (f b).number = b.number ∧ ((f b).state = b.state ∨ Quiet (f b).state)) : QuietAt (s.mapBooking n f) m := by
  intro c hc hm
  obtain ⟨b, hb, rfl⟩ := List.mem_map.mp hc
  have hnumber : b.number = m := by
    rw [← hm]; split
    · exact (hf b).1.symm
    · rfl
  split
  · exact (hf b).2.elim (fun hs => hs ▸ h b hb hnumber) id
  · exact h b hb hnumber

theorem bookAlternate_quietAt {w : Pass} {m : Nat} (h : QuietAt w.state m) (r : Request) (b : Booking) (e : GuideEntry)
    (p : Place) (n : Need) : QuietAt (bookAlternate w r b e p n).state m := by
  intro c hc hm
  rw [bookAlternate_state] at hc
  simp only [State.enterBooking, pinUp_plan, withoutClashed_bookings] at hc
  rcases List.mem_cons.mp ((insertBy_perm _ _ _).mem_iff.mp hc) with rfl | hc
  · exact ⟨by rintro ⟨⟩, by rintro ⟨⟩⟩
  · exact h c (List.mem_of_mem_filter hc) hm

/-- Candidates taken, as the lists see it: the keys stay and what nothing counted nothing counts; and, where `p` holds, the
lists are kept. -/
structure Placing (p : Prop) (s t : State) : Prop where
  keys : SameKeys s t
  quiet : ∀ n, QuietAt s n → QuietAt t n
  lists : p → KeepsLists s t

theorem Placing.refl (p : Prop) (s : State) : Placing p s s := ⟨rfl, fun _ => id, fun _ => .refl s⟩

theorem Placing.trans {p q : Prop} {s t u : State} (h : Placing p s t) (k : Placing q t u) (hpq : p → q) :
    Placing p s u :=
  ⟨Eq.trans k.keys h.keys, fun n => k.quiet n ∘ h.quiet n, fun hp => (h.lists hp).trans (k.lists (hpq hp))⟩

theorem mapBooking_placing (s : State) (n : Nat) {f : Booking → Booking}
    (h : ∀ b, (f b).number = b.number ∧ (f b).winStart = b.winStart ∧ (f b).key = b.key ∧ Quiet (f b).state) :
    Placing (QuietAt s n) s (s.mapBooking n f) where
  keys := rfl
  quiet _ hm := mapBooking_quietAt hm n fun b => ⟨(h b).1, .inr (h b).2.2.2⟩
  lists hn := mapBooking_quiet s n f h fun _ => hn

theorem clashBooking_placing (w : Pass) (b : Booking) (n : Need) (hc : w.state.clockSet = true)
    (hb : b ∈ w.state.plan.bookings) : Placing (QuietAt w.state b.number) w.state (clashBooking w b n).state := by
  have hclashed := mapBooking_placing w.state b.number (f := fun c => { c with
    state := some .clashed, place := none, partners := partnersOf w.state w.laid n })
    fun _ => ⟨rfl, rfl, rfl, by rintro ⟨⟩, by rintro ⟨⟩⟩
  unfold clashBooking
  simp only []
  split
  · split
    · split
      · rename_i e p n' hfound
        refine hclashed.trans (q := True) ⟨bookAlternate_keys (Pass.mk _ _ _ _ _ _) _ b e p n',
          fun _ h => bookAlternate_quietAt (w := Pass.mk _ _ _ _ _ _) h _ b e p n', fun _ =>
          bookAlternate_lists (Pass.mk _ _ _ _ _ _) _ b e p n' hc
            (List.mem_map.mpr ⟨b, hb, if_pos (beq_self_eq_true _)⟩) ⟨by rintro ⟨⟩, by rintro ⟨⟩⟩ rfl rfl
            (candidateAirings_mem (findAiring_mem hfound))⟩ fun _ => trivial
      · exact hclashed
    · exact hclashed
  · exact hclashed

/-- A candidate taken keeps the lists where nothing counts the booking it names to be placed. -/
theorem takeCandidate_placing (w : Pass) (c : Ranked) (hc : w.state.clockSet = true) :
    Placing (∀ n, c.candidate = .booking n → QuietAt w.state n) w.state (takeCandidate w c).state := by
  unfold takeCandidate
  split
  · rename_i n hn
    have hquiet : (∀ m, c.candidate = .booking m → QuietAt w.state m) → QuietAt w.state n := fun h => h n hn
    unfold placeBooking
    split
    · exact .refl _ _
    · rename_i b hb
      obtain ⟨hmem, hnumber⟩ := booking?_mem hb
      simp only []
      split
      · exact Placing.trans (.refl _ _) (mapBooking_placing _ n fun _ => ⟨rfl, rfl, rfl, by rintro ⟨⟩, by rintro ⟨⟩⟩) hquiet
      · exact Placing.trans (.refl _ _) (clashBooking_placing w b _ hc hmem) (hnumber ▸ hquiet)
  · rename_i n hn
    unfold settleOverrun
    split
    · exact .refl _ _
    · split
      · exact .refl _ _
      · simp only []
        split
        · exact .refl _ _
        · exact ⟨rfl, fun m hm => mapBooking_quietAt hm n fun _ => ⟨rfl, .inl rfl⟩,
            fun _ => mapBooking_lists _ _ _ fun _ => rfl⟩
  · unfold settleHold
    split
    · exact .refl _ _
    · simp only []
      split
      · exact .refl _ _
      · split <;> exact .refl _ _

theorem rankedCandidates_open {s : State} {c : Ranked} {n : Nat} (hc : c ∈ rankedCandidates s)
    (hn : c.candidate = .booking n) : ∃ b ∈ s.plan.bookings, b.number = n ∧ b.isOpen = true := by
  have hmem := (sortBy_perm _ _).mem_iff.mp hc
  have hhold : ∀ t, c ∉ holdCandidate s t := by
    intro t ht
    unfold holdCandidate at ht
    split at ht
    · rw [List.mem_singleton.mp ht] at hn; cases hn
    · cases ht
  simp only [List.mem_append, hhold, or_false, List.mem_flatten, List.mem_map] at hmem
  obtain ⟨_, ⟨b, hb, rfl⟩, hcb⟩ := hmem
  rcases List.mem_append.mp hcb with hbooking | hoverrun
  · split at hbooking
    · rename_i hcand
      rw [List.mem_singleton.mp hbooking] at hn
      cases hn
      exact ⟨b, hb, rfl, (Bool.and_eq_true_iff.mp hcand).1⟩
    · cases hbooking
  · split at hoverrun
    · rw [List.mem_singleton.mp hoverrun] at hn; cases hn
    · cases hoverrun

theorem foldl_takeCandidate_placing (cs : List Ranked) (w : Pass) (hc : w.state.clockSet = true) :
    Placing (∀ c ∈ cs, ∀ n, c.candidate = .booking n → QuietAt w.state n) w.state (cs.foldl takeCandidate w).state := by
  induction cs generalizing w with
  | nil => exact .refl _ _
  | cons c cs ih =>
    have hone := takeCandidate_placing w c hc
    have hrest := ih _ ((takeCandidate_works w c hc).clockSet.trans hc)
    exact (Placing.trans (.refl _ _) hone fun h => h c List.mem_cons_self).trans hrest fun h d hd n hn =>
      hone.quiet n (h d (List.mem_cons_of_mem c hd) n hn)

/-- With the numbers apart, nothing counts the bookings that are candidates to be placed. -/
theorem rankedCandidates_quiet {s : State} (k : NumbersOk s) :
    ∀ c ∈ rankedCandidates s, ∀ n, c.candidate = .booking n → QuietAt s n := by
  intro c hc n hn b hb hbn
  obtain ⟨d, hd, hdn, hopen⟩ := rankedCandidates_open hc hn
  have hbd : b = d := List.inj_on_of_nodup_map k.distinct hb hd (hbn.trans hdn.symm)
  exact hbd ▸ quiet_of_open hopen

theorem placeAll_lists (s : State) (hc : s.clockSet = true) : KeepsLists s (placeAll s).state := by
  have hplaced : Placing (∀ c ∈ rankedCandidates s, ∀ n, c.candidate = .booking n → QuietAt s n) s (placeAll s).state :=
    foldl_takeCandidate_placing _ (Pass.mk s _ _ _ _ _) hc
  exact .ofNumbers (placeAll_works s hc).keeps hplaced.keys fun k => hplaced.lists (rankedCandidates_quiet k)

/-! ### Steps 5 to 7 of a pass -/

theorem flagSpace_faces (s : State) (n : Nat) (bs : List Booking) :
    (flagSpace s n bs).map Booking.face = bs.map Booking.face := by
  induction bs generalizing n with
  | nil => rfl
  | cons b bs ih =>
    simp only [flagSpace, List.map_cons, ih]
    congr 1
    split
    · rfl
    · split <;> rfl

theorem clashEvent_lists (s : State) (n : Nat) : KeepsLists s (clashEvent s n) := by
  unfold clashEvent
  split
  · exact edgeEvent_lists s _ rfl
  · exact .refl s

theorem spacePart_lists (s : State) : KeepsLists s (spacePart s) :=
  (sameFaces_lists (flagSpace_faces s 0 _)).trans (reportSpace_lists _ _)

theorem reportPass_lists (w : Pass) : KeepsLists w.state (reportPass w).state :=
  ((((occupancy_works w.state w.laid).lists (.of_eq rfl)).trans (KeepsLists.foldl clashEvent_lists _ _)).trans
    (reportClashes_lists _ _)).trans (spacePart_lists _)

theorem alignExpiries_lists (s : State) : KeepsLists s (alignExpiries s) :=
  (mapBookings_lists s (alignBooking s.settings) fun b => by unfold alignBooking; split <;> rfl).trans
    (agenda_lists _ _)

theorem handOn_lists (w : Pass) : KeepsLists w.state (handOn w) :=
  (((((alignExpiries_lists w.state).trans (agenda_lists _ [])).trans (writeYield_lists _ _ _)).trans
    (writeYield_lists _ _ _)).trans (recomputeWake_lists _)).trans (agenda_lists _ _)

theorem planPass_lists (s : State) (hc : s.clockSet = true) : KeepsLists s (planPass s) :=
  (((formWindows_lists s).trans (placeAll_lists _ ((formWindows_works s).clockSet.trans hc))).trans
    (reportPass_lists _)).trans (handOn_lists _)

theorem passIfSet_lists (s : State) : KeepsLists s (passIfSet s) := by
  unfold passIfSet
  split
  · rename_i h; exact planPass_lists s h
  · exact .refl s

theorem deriveAndPass_lists (s : State) : KeepsLists s (deriveAndPass s) := by
  unfold deriveAndPass
  split
  · rename_i h; exact (derive_lists s h).trans (planPass_lists _ ((derive_works s h).clockSet.trans h))
  · exact .refl s

end Sys2Proof.Machine

/-! PROOFS. Scans, finishes, expiries, the work of Run Control and the close of a stream keep the lists. -/

namespace Sys2Proof.Machine

/-! ### Scans and saves (R47, R48, R184) -/

theorem runScan_lists (s : State) : KeepsLists s (runScan s) := by
  refine (dropEntries_lists s (fun e => !agedOut s e) fun e he => ?_).trans (untouched_lists rfl rfl)
  simp only [Bool.not_eq_false', agedOut, Bool.and_eq_true, beq_iff_eq] at he
  exact he.1

theorem scanNow_lists (s : State) : KeepsLists s (scanNow s) := (runScan_lists s).trans (deriveAndPass_lists _)

theorem releaseScan_lists (s : State) : KeepsLists s (releaseScan s) := by
  unfold releaseScan
  split
  · split
    · exact untouched_lists rfl rfl
    · refine KeepsLists.trans ?_ (scanNow_lists _)
      exact untouched_lists rfl rfl
  · exact .refl s

theorem stopSave_lists (c : AbandonCause) (s : State) : KeepsLists s (stopSave c s) := by
  refine (stopSave_works c s).lists ?_
  unfold stopSave
  split
  · exact (setImageState_same _ _).after rfl
  · exact .refl s

theorem abandonSave_lists (s : State) : KeepsLists s (abandonSave s) := by
  unfold abandonSave
  split
  · exact (stopSave_lists _ s).trans (releaseScan_lists _)
  · exact .refl s

theorem scanWork_lists (s : State) : KeepsLists s (scanWork s) := by
  unfold scanWork
  simp only []
  split
  · exact untouched_lists rfl rfl
  · split
    · exact untouched_lists rfl rfl
    · refine KeepsLists.trans ?_ (scanNow_lists _)
      exact untouched_lists rfl rfl

/-! ### Finishes (R132) -/

/-- A booking is in the list, as far as its finish reads it. -/
def Live (s : State) (b : Booking) : Prop :=
  ∃ c ∈ s.plan.bookings, c.number = b.number ∧ c.key = b.key ∧ c.state = b.state

theorem Live.of_mem {s : State} {b : Booking} (h : b ∈ s.plan.bookings) : Live s b := ⟨b, h, rfl, rfl, rfl⟩

/-- What a finish does to the lists: the booking leaves, with its pin, its waiting BEGIN and its place in the recording
count (R132). -/
def struck (b : Booking) (s : State) : State :=
  let t := (s.withBookings (others b.number s.plan.bookings)).pinDown b.key
  { t with
    outbox := { t.outbox with
      directives := if b.state = some .due then withoutBegin b.number s.outbox.directives else s.outbox.directives }
    run := { t.run with recordings := if b.state = some .recording then s.run.recordings - 1 else s.run.recordings } }

theorem struck_bookings (b : Booking) (s : State) : (struck b s).plan.bookings = others b.number s.plan.bookings := by
  unfold struck
  simp only [pinDown_plan]
  rfl

theorem struck_entries (b : Booking) (s : State) :
    (struck b s).guide.entries = repinned (· - 1) b.key s.guide.entries := pinDown_entries _ _

theorem beginsIn_withoutBegin {ds es : List Directive} (h : ∀ n, beginsIn es n = beginsIn ds n) (m n : Nat) :
    beginsIn (withoutBegin m es) n = beginsIn (withoutBegin m ds) n := by
  by_cases hn : n = m
  · rw [hn, beginsIn_withoutBegin_same, beginsIn_withoutBegin_same]
  · rw [beginsIn_withoutBegin_other hn, beginsIn_withoutBegin_other hn, h]

theorem releaseEntry_same (b : Booking) (e : Ending) (s : State) : SameLists (s.pinDown b.key) (releaseEntry b e s) := by
  unfold releaseEntry
  simp only []
  split
  · split
    · exact mapEntry_same _ _ _ fun _ => rfl
    · exact .refl _
  · exact .refl _

theorem applyReport_same (b : Booking) (e : Ending) (s : State) : SameLists s (applyReport b e s) := by
  unfold applyReport
  split
  · exact .refl s
  · refine SameLists.trans ?_ (noteChange_same _ _)
    simp only []
    split
    · split
      · exact removeRequest_same s _
      · exact .refl s
    · split
      · exact SameLists.trans (t := s.mapRequest _ _) (.of_eq rfl) (removeRequest_same _ _)
      · exact .of_eq rfl

theorem announceEnd_same (b : Booking) (e : Ending) (s : State) : SameLists s (announceEnd b e s) := by
  unfold announceEnd
  split
  · exact edgeEvent_same s _
  · exact .refl s

theorem queueEnd_eq (b : Booking) (r : Option Reason) (s : State) : ∃ ds, queueEnd b r s = s.withDirectives ds
    ∧ ∀ n, beginsIn ds n = beginsIn s.outbox.directives n := by
  unfold queueEnd
  split
  · exact ⟨_, rfl, beginsIn_append_other (fun x hx n => by rw [List.mem_singleton.mp hx]; rfl) _⟩
  · exact ⟨s.outbox.directives, rfl, fun _ => rfl⟩

/-- Steps 1 and 2 of a finish act on the directive queue alone. -/
theorem withdrawn_eq (r : Option Reason) (b : Booking) (s : State) : ∃ ds,
    (if b.state = some .due then (queueEnd b r s).withdrawBegin b.number else queueEnd b r s) = s.withDirectives ds
    ∧ ∀ n, beginsIn ds n = beginsIn
      (if b.state = some .due then withoutBegin b.number s.outbox.directives else s.outbox.directives) n := by
  obtain ⟨ds, hds, hbegins⟩ := queueEnd_eq b r s
  rw [hds]
  split
  · exact ⟨withoutBegin b.number ds, rfl, beginsIn_withoutBegin hbegins _⟩
  · exact ⟨ds, rfl, hbegins⟩

/-- A booking that was RECORDING gives up its place in the recording count. -/
theorem lowerRecordings_same (c : Prop) [Decidable c] {s t : State} (h : SameLists s t) :
    SameLists { s with run := { s.run with recordings := if c then s.run.recordings - 1 else s.run.recordings } }
      (if c then t.setRecordings (t.run.recordings - 1) else t) := by
  split
  · exact SameLists.trans (t := { t with run := { t.run with recordings := t.run.recordings - 1 } })
      ⟨h.entries, h.bookings, h.begins, congrArg (· - 1) h.recordings⟩ (setRecordings_same t _)
  · exact ⟨h.entries, h.bookings, h.begins, h.recordings⟩

/-- Steps 1 to 7 of a finish, as the lists see it. -/
theorem finishBooking_same (e : Ending) (r : Option Reason) (b : Booking) (s : State) :
    SameLists (struck b s) (finishBooking e r b s) := by
  obtain ⟨ds, hds, hbegins⟩ := withdrawn_eq r b s
  unfold finishBooking
  simp only []
  rw [hds]
  have hreported := (releaseEntry_same b e ((s.withDirectives ds).withBookings (others b.number s.plan.bookings))).trans
    (applyReport_same b e _)
  refine SameLists.trans ?_ ((lowerRecordings_same (b.state = some .recording) hreported).trans (announceEnd_same b e _))
  unfold struck
  cases b.key <;> exact ⟨rfl, rfl, hbegins, rfl⟩

theorem finishBooking_keys (e : Ending) (r : Option Reason) (b : Booking) (s : State) :
    SameKeys s (finishBooking e r b s) :=
  Eq.trans (finishBooking_same e r b s).sameKeys (pinDown_keys (s.withBookings _) b.key)

theorem finishBooking_bookings (e : Ending) (r : Option Reason) (b : Booking) (s : State) :
    (finishBooking e r b s).plan.bookings = others b.number s.plan.bookings :=
  (finishBooking_same e r b s).bookings.trans (struck_bookings b s)

theorem finishBooking_lists (e : Ending) (r : Option Reason) {b : Booking} {s : State} (hb : Live s b) :
    KeepsLists s (finishBooking e r b s) := by
  obtain ⟨c, hc, hnumber, hkey, hstate⟩ := hb
  have hsame := finishBooking_same e r b s
  have hstruck : ∀ n : NumbersOk s, s.plan.bookings.Perm (c :: (struck b s).plan.bookings) := fun n => by
    rw [struck_bookings, ← hnumber]; exact perm_cons_others n.distinct hc
  exact {
    keeps := (finishBooking_works e r b s).keeps
    list := fun _ l => l.of_sublist (by rw [finishBooking_bookings]; exact List.filter_sublist)
    keys := fun k => k.of_keys (finishBooking_keys e r b s)
    pins := fun _ n p => by
      have hpins : PinsOk (struck b s) := by
        rw [pinsOk_iff] at p ⊢
        rw [struck_entries, ← hkey]
        exact (p.perm (hstruck n)).unpin
      exact hpins.of_perm (by rw [hsame.bookings]) hsame.entries
    runs := fun n k => by
      rw [runsOk_iff] at k ⊢
      have hfresh : c.number ∉ (struck b s).plan.bookings.map Booking.number := by
        rw [struck_bookings, ← hnumber]; exact not_mem_others _ _
      have hruns := (k.perm (hstruck n)).strike hfresh
      rw [hnumber, hstate] at hruns
      rw [hsame.bookings, hsame.recordings]
      exact hruns.directives hsame.begins }

theorem afterFinish_lists (v : Bool) (s : State) : KeepsLists s (afterFinish v s) := by
  unfold afterFinish
  split
  · exact deriveAndPass_lists s
  · exact passIfSet_lists s

theorem finishOne_lists (e : Ending) (r : Option Reason) {b : Booking} {s : State} (hb : Live s b) :
    KeepsLists s (finishOne e r b s) :=
  (finishBooking_lists e r hb).trans (afterFinish_lists _ _)

theorem finishEach_keys (e : Ending) (r : Option Reason) (bs : List Booking) (s : State) :
    SameKeys s (finishEach e r bs s) := by
  induction bs generalizing s with
  | nil => rfl
  | cons b bs ih => exact Eq.trans (ih _) (finishBooking_keys e r b s)

/-- Bookings of the list, finished one after another. -/
theorem finishEach_lists (e : Ending) (r : Option Reason) {bs : List Booking} {s : State}
    (h : bs.Sublist s.plan.bookings) : KeepsLists s (finishEach e r bs s) := by
  have hfold : ∀ (bs : List Booking) (s : State), (∀ b ∈ bs, Live s b) → (bs.map Booking.number).Nodup →
      KeepsLists s (finishEach e r bs s) := by
    intro bs
    induction bs with
    | nil => exact fun s _ _ => .refl s
    | cons b bs ih =>
      intro s hlive hnodup
      obtain ⟨hb, hbs⟩ := List.nodup_cons.mp hnodup
      refine (finishBooking_lists e r (hlive b List.mem_cons_self)).trans (ih _ (fun d hd => ?_) hbs)
      obtain ⟨c, hc, hnumber, hrest⟩ := hlive d (List.mem_cons_of_mem b hd)
      refine ⟨c, ?_, hnumber, hrest⟩
      rw [finishBooking_bookings]
      refine List.mem_filter.mpr ⟨hc, bne_iff_ne.mpr fun hcb => hb ?_⟩
      rw [← hcb, hnumber]; exact List.mem_map_of_mem hd
  exact .ofNumbers (finishEach_works e r bs s).keeps (finishEach_keys e r bs s) fun n =>
    hfold bs s (fun b hb => .of_mem (h.subset hb)) ((h.map _).nodup n.distinct)

end Sys2Proof.Machine

/-! PROOFS. Expiries, the work of Run Control and the close of a stream keep the lists. -/

namespace Sys2Proof.Machine

/-! ### Becoming DUE or LATE (R26, R114) -/

theorem displaceViewer_same (b : Booking) (p : Place) (s : State) : SameLists s (displaceViewer b p s) := by
  unfold displaceViewer
  split
  · split
    · exact (withTuner_same s _ _).trans (queueYield_same _ _ _)
    · exact .refl s
  · exact .refl s

/-- What two states have in common stays so when the same directive joins both queues. -/
theorem SameLists.queue {s t : State} (h : SameLists s t) (d : Directive) :
    SameLists (s.queueDirective d) (t.queueDirective d) :=
  ⟨h.entries, h.bookings, fun n => by
    show beginsIn (_ ++ [d]) n = beginsIn (_ ++ [d]) n
    rw [beginsIn_append, beginsIn_append, h.begins], h.recordings⟩

/-- Work whose outcome is like that of work that keeps the lists keeps them. -/
theorem KeepsLists.same {s t u : State} (h : KeepsLists s t) (hkeeps : Keeps s u) (k : SameLists t u) :
    KeepsLists s u where
  keeps := hkeeps
  list n l := (h.list n l).of_sublist (by rw [k.bookings])
  keys l := (h.keys l).of_faces k.entries
  pins i n p := (h.pins i n p).of_perm (by rw [k.bookings]) k.entries
  runs n r := by
    have hr := h.runs n r
    rw [runsOk_iff] at hr ⊢
    rw [k.bookings, k.recordings]
    exact hr.directives k.begins

/-- One booking changed in place, with what the queue and the recording count hold of it. -/
theorem changeBooking_lists {s t : State} {b : Booking} (hb : b ∈ s.plan.bookings) (f : Booking → Booking)
    (hkeeps : Keeps s t) (h : ∀ c, (f c).number = c.number ∧ (f c).winStart = c.winStart ∧ (f c).key = c.key)
    (hbookings : t.plan.bookings = (s.mapBooking b.number f).plan.bookings)
    (hentries : t.guide.entries = s.guide.entries)
    (hruns : RunsFor s.run.recordings s.outbox.directives (b :: others b.number s.plan.bookings) →
      RunsFor t.run.recordings t.outbox.directives (f b :: others b.number s.plan.bookings)) : KeepsLists s t := by
  have hkept : ∀ c : Booking, (if c.number == b.number then f c else c).number = c.number
      ∧ (if c.number == b.number then f c else c).winStart = c.winStart
      ∧ (if c.number == b.number then f c else c).key = c.key := by
    intro c
    split
    · exact h c
    · exact ⟨rfl, rfl, rfl⟩
  exact {
    keeps := hkeeps
    list := fun _ l => l.of_map _ (fun c => ⟨(hkept c).2.1, (hkept c).1⟩) hbookings
    keys := fun k => k.of_faces (by rw [hentries])
    pins := fun _ _ p => by
      rw [pinsOk_iff] at p ⊢
      rw [hbookings, hentries]
      exact p.map fun c _ => by rw [(hkept c).2.2]
    runs := fun n r => by
      rw [runsOk_iff] at r ⊢
      rw [hbookings]
      exact (hruns (r.perm (perm_cons_others n.distinct hb))).perm (mapped_perm_cons_others n.distinct hb f).symm }

/-- A booking made DUE (R114). -/
def dueBooking (s : State) (b c : Booking) : Booking :=
  { c with
    state := some .due, dueAt := some s.present, windowExpiry := none, lateExpiry := none
    takeExpiry := some (takeDeadlineOf s.settings b s.present) }

theorem becomeDue_eq {b : Booking} {p : Place} (h : b.place = some p) (s : State) :
    ∃ u, u = displaceViewer b p (s.mapBooking b.number (dueBooking s b)) ∧ becomeDue b s
      = recomputeWake ((u.queueDirective (.beginRec (beginFields u b p))).atOnce (.takeDeadline b.number)
        (takeDeadlineOf s.settings b s.present)) := by
  refine ⟨_, rfl, ?_⟩
  unfold becomeDue
  rw [h]; rfl

theorem becomeDue_lists {b : Booking} {s : State} (hb : b ∈ s.plan.bookings) (hq : Quiet b.state) :
    KeepsLists s (becomeDue b s) := by
  have hkeeps := (becomeDue_works b s).keeps
  have hfresh := not_mem_others b.number s.plan.bookings
  cases hp : b.place with
  | none => unfold becomeDue; rw [hp]; exact .refl s
  | some p =>
    obtain ⟨u, hu, hdue⟩ := becomeDue_eq hp s
    have hqueued : KeepsLists s ((s.mapBooking b.number (dueBooking s b)).queueDirective (.beginRec (beginFields u b p))) :=
      changeBooking_lists hb (dueBooking s b) ((mapBooking_works s _ (dueBooking s b) fun _ => rfl).trans
        (queueDirective_works _ (.beginRec _) fun _ => rfl)).keeps
        (fun _ => ⟨rfl, rfl, rfl⟩) rfl rfl
        fun r => RunsFor.due (b := dueBooking s b b) (x := .beginRec (beginFields u b p))
          ((RunsFor.cons_quiet_iff hfresh hq).mp r) hfresh rfl (beq_self_eq_true b.number)
    rw [hdue] at hkeeps ⊢
    refine hqueued.same hkeeps (SameLists.trans (SameLists.queue ?_ _)
      ((atOnce_same _ _ _).trans (recomputeWake_same _)))
    rw [hu]; exact displaceViewer_same b p _

/-- A booking that nothing counts. -/
theorem quietAt_of_mem {s : State} (k : NumbersOk s) {b : Booking} (hb : b ∈ s.plan.bookings) (hq : Quiet b.state) :
    QuietAt s b.number :=
  fun _ hc hn => (List.inj_on_of_nodup_map k.distinct hc hb hn) ▸ hq

theorem becomeLate_lists {b : Booking} {s : State} (hb : b ∈ s.plan.bookings) (hq : Quiet b.state) :
    KeepsLists s (becomeLate b s) := by
  unfold becomeLate
  refine KeepsLists.trans ?_ (atOnce_lists _ _ _)
  refine KeepsLists.trans ?_ (recomputeWake_lists _)
  exact mapBooking_quiet s _ _ (fun _ => ⟨rfl, rfl, rfl, by rintro ⟨⟩, by rintro ⟨⟩⟩) fun k => quietAt_of_mem k hb hq

/-! ### Expiries taken -/

theorem Live.of_booking? {s : State} {n : Nat} {b : Booking} (h : s.booking? n = some b) : Live s b :=
  .of_mem (booking?_mem h).1

theorem setProvEnd_lists (n t : Nat) (c : Option CutReason) (s : State) : KeepsLists s (setProvEnd n t c s) :=
  mapBooking_lists s n _ fun _ => rfl

theorem moveProvEnd_lists (n t : Nat) (c : Option CutReason) (s : State) : KeepsLists s (moveProvEnd n t c s) :=
  (setProvEnd_lists n t c s).trans (atOnce_lists _ _ _)

theorem endOrExtend_lists {b : Booking} {s : State} (hb : b ∈ s.plan.bookings) : KeepsLists s (endOrExtend b s) := by
  have hmarked := fun v : Bool => mapBooking_lists s b.number (fun c => { c with accurate := v }) fun _ => rfl
  have hlive : ∀ (v : Bool) (c : Option CutReason),
      Live (s.mapBooking b.number (fun c => { c with accurate := v })) { b with accurate := v, cut := c } := fun v c =>
    ⟨_, List.mem_map.mpr ⟨b, hb, if_pos (beq_self_eq_true _)⟩, rfl, rfl, rfl⟩
  unfold endOrExtend
  simp only []
  split
  all_goals
    split
    · split
      · refine KeepsLists.trans ?_ (passIfSet_lists _)
        exact (hmarked _).trans (moveProvEnd_lists _ _ _ _)
      · exact (hmarked _).trans (finishOne_lists _ _ (hlive _ _))
    · exact (hmarked _).trans (finishOne_lists _ _ (hlive _ _))

theorem provEndWork_lists (n : Nat) (s : State) : KeepsLists s (provEndWork n s) := by
  unfold provEndWork
  split
  · exact .refl s
  · rename_i b hb
    split
    · exact finishOne_lists _ _ (.of_booking? hb)
    · exact endOrExtend_lists (booking?_mem hb).1
    · exact .refl s

theorem openWindow_lists {b : Booking} {s : State} (hb : b ∈ s.plan.bookings) (hq : Quiet b.state) :
    KeepsLists s (openWindow b s) := by
  unfold openWindow
  split
  · exact finishOne_lists _ _ (.of_mem hb)
  · split
    · split
      · exact finishOne_lists _ _ (.of_mem hb)
      · exact becomeDue_lists hb hq
    · exact becomeLate_lists hb hq

theorem windowWork_lists {n : Nat} {s : State} (h : isDue (.windowStart n) s = true) : KeepsLists s (windowWork n s) := by
  unfold windowWork
  split
  · exact .refl s
  · rename_i b hb
    have hplanned : b.state = some .planned := by
      simp only [isDue, hb, Bool.and_eq_true, beq_iff_eq] at h; exact h.1
    split
    · exact (provEndWork_lists _ s).trans (agenda_lists _ _)
    · exact openWindow_lists (booking?_mem hb).1 (hplanned ▸ ⟨by rintro ⟨⟩, by rintro ⟨⟩⟩)

theorem limitWork_lists (n : Nat) (s : State) : KeepsLists s (limitWork n s) := by
  unfold limitWork
  split
  · exact .refl s
  · rename_i b hb
    split
    · exact finishOne_lists _ _ (.of_booking? hb)
    · exact .refl s

theorem confirmWork_lists (n : Nat) (s : State) : KeepsLists s (confirmWork n s) := by
  unfold confirmWork
  split
  · exact .refl s
  · rename_i b hb
    exact finishOne_lists _ _ (.of_booking? hb)

theorem applyTrigger_lists (s : State) (t : Trigger) : KeepsLists s (s.applyTrigger t) :=
  (applyTrigger_works s t).lists (applyTrigger_same s t)

theorem host_lists (s : State) (h : HostRecord) : KeepsLists s { s with host := h } := untouched_lists rfl rfl

theorem wakeWork_lists (c : WakeCause) (s : State) : KeepsLists s (wakeWork c s) :=
  ((host_lists s _).trans (applyTrigger_lists _ .wake)).trans (host_lists _ _)

theorem wakeTimeoutWork_lists (s : State) : KeepsLists s (wakeTimeoutWork s) := by
  unfold wakeTimeoutWork
  exact ((host_lists s _).trans (edgeEvent_lists _ _ rfl)).trans (recomputeWake_lists _)

theorem warningWork_lists (t : TunerId) (s : State) : KeepsLists s (warningWork t s) := by
  refine (warningWork_works t s).lists ?_
  unfold warningWork
  split
  · exact .refl s
  · exact (withTuner_same s t _).trans (edgeEvent_same _ _)

theorem abandoning_lists (d : Due) (work : State → State) {s : State} (h : KeepsLists s (work s)) :
    KeepsLists s (abandoning d work s) := by
  unfold abandoning
  split
  · exact (abandonSave_lists s).trans (agenda_lists _ _)
  · exact h

theorem takeDue_lists (d : Due) (s : State) : KeepsLists s (takeDue d s) := by
  unfold takeDue
  split
  · rename_i hdue
    split
    · exact abandoning_lists _ _ (windowWork_lists hdue)
    · exact abandoning_lists _ _ (limitWork_lists _ s)
    · exact abandoning_lists _ _ (limitWork_lists _ s)
    · exact abandoning_lists _ _ (confirmWork_lists _ s)
    · exact abandoning_lists _ _ (provEndWork_lists _ s)
    · exact (abandonSave_lists s).trans (wakeWork_lists _ _)
    · exact wakeTimeoutWork_lists s
    · exact warningWork_lists _ s
    · exact scanWork_lists s
  · exact .refl s

theorem settle_lists (s : State) : KeepsLists s (settle s) := by
  have hfrom : ∀ fuel s, KeepsLists s (settleFrom fuel s) := by
    intro fuel
    induction fuel with
    | zero => exact fun s => agenda_lists s []
    | succ fuel ih =>
      intro s
      simp only [settleFrom]
      split
      · exact .refl s
      · exact (((agenda_lists s []).trans (takeDue_lists _ _)).trans (agenda_lists _ _)).trans (ih _)
  unfold settle
  exact hfrom _ s

theorem expire_lists (d : Due) (s : State) : KeepsLists s (expire d s) := by
  unfold expire
  split
  · exact (takeDue_lists d s).trans (settle_lists _)
  · exact .refl s

/-! ### LATE bookings and early ends (R115, R128) -/

theorem clearWay_lists (fuel n : Nat) (s : State) : KeepsLists s (clearWay fuel n s) := by
  induction fuel generalizing s with
  | zero => exact .refl s
  | succ fuel ih =>
    simp only [clearWay]
    split
    · exact .refl s
    · split
      · exact ((takeDue_lists _ s).trans (settle_lists _)).trans (ih _)
      · exact .refl s

theorem takeLate_lists (w : LateWork) (n : Nat) : KeepsLists w.state (takeLate w n).state := by
  have hcleared := clearWay_lists 6 n w.state
  unfold takeLate
  simp only []
  split
  · rename_i b hb
    split
    · rename_i hlate
      split
      · exact hcleared.trans (finishBooking_lists (.outcome .skipped .noSpace 0) none (.of_booking? hb))
      · exact hcleared.trans (becomeDue_lists (booking?_mem hb).1 (hlate ▸ ⟨by rintro ⟨⟩, by rintro ⟨⟩⟩))
    · exact hcleared
  · exact hcleared

theorem takeLates_lists (s : State) : KeepsLists s (takeLates s).state := by
  have hfold : ∀ (ns : List Nat) (w : LateWork), KeepsLists w.state (ns.foldl takeLate w).state := by
    intro ns
    induction ns with
    | nil => exact fun w => .refl _
    | cons n ns ih => exact fun w => (takeLate_lists w n).trans (ih _)
  unfold takeLates
  split
  · exact hfold _ ⟨s, 0, 0, false⟩
  · exact .refl s

theorem earlyEnd_lists (n : Nat) (s : State) : KeepsLists s (earlyEnd n s) := by
  unfold earlyEnd
  split
  · exact .refl s
  · simp only []
    split
    · exact .refl s
    · split
      · exact (moveProvEnd_lists _ _ _ s).trans (passIfSet_lists _)
      · exact moveProvEnd_lists _ _ _ s

/-! ### The finishes of one message (R133) -/

theorem clearSave_lists (s : State) : KeepsLists s (clearSave s) := (abandonSave_lists s).trans (settle_lists _)

theorem finishOf_lists (en : State → Booking → Option (Ending × Option Reason)) (w : GroupWork) (n : Nat) :
    KeepsLists w.state (finishOf en w n).state := by
  unfold finishOf
  split
  · exact .refl _
  · rename_i b hb
    split
    · exact .refl _
    · exact finishBooking_lists _ _ (.of_booking? hb)

theorem GroupWork.close_lists (w : GroupWork) : KeepsLists w.state w.close := by
  unfold GroupWork.close
  split
  · exact afterFinish_lists _ _
  · exact .refl _

theorem finishGroup_lists (en : State → Booking → Option (Ending × Option Reason)) (ns : List Nat) (s : State) :
    KeepsLists s (finishGroup en ns s) := by
  have hfold : ∀ (ns : List Nat) (w : GroupWork), KeepsLists w.state (ns.foldl (finishOf en) w).state := by
    intro ns
    induction ns with
    | nil => exact fun w => .refl _
    | cons n ns ih => exact fun w => (finishOf_lists en w n).trans (ih _)
  unfold finishGroup
  split
  · exact .refl s
  · exact ((clearSave_lists s).trans (hfold ns ⟨clearSave s, false, false⟩)).trans (GroupWork.close_lists _)

/-! ### A change of running status handed on (R45, R128) -/

theorem endEarly_lists (w : GroupWork) (b : Booking) (x : Nat) (c : Option CutReason) :
    KeepsLists w.state (endEarly w b x c).state := by
  unfold endEarly
  refine KeepsLists.trans ?_ (finishOf_lists _ _ _)
  refine KeepsLists.trans ?_ (clearSave_lists _)
  have hmoved := setProvEnd_lists b.number x c w.state
  split
  · exact hmoved.trans (passIfSet_lists _)
  · exact hmoved

theorem handStatus_lists (w : GroupWork) (n : Nat) : KeepsLists w.state (handStatus w n).state := by
  unfold handStatus
  split
  · exact .refl _
  · split
    · split
      · exact .refl _
      · split
        · exact endEarly_lists _ _ _ _
        · exact (earlyEnd_lists _ _).trans (settle_lists _)
    · exact .refl _

theorem handRunning_lists (slot : Nat) (s : State) : KeepsLists s (handRunning slot s) := by
  have hfold : ∀ (ns : List Nat) (w : GroupWork), KeepsLists w.state (ns.foldl handStatus w).state := by
    intro ns
    induction ns with
    | nil => exact fun w => .refl _
    | cons n ns ih => exact fun w => (handStatus_lists w n).trans (ih _)
  have hhanded := hfold ((s.plan.bookings.filter (fun b => b.key == .guideSlot slot)).map Booking.number) ⟨s, false, false⟩
  unfold handRunning
  simp only []
  split
  · exact (hhanded.trans (GroupWork.close_lists _)).trans (settle_lists _)
  · exact hhanded

/-! ### The close of a stream (R40 to R42) -/

theorem sweepStore_lists (w : StreamWindow) (s : State) : KeepsLists s (sweepStore w s) := by
  have hmarked : KeepsLists s (s.withEntries (s.guide.entries.map fun e =>
      if sweepWithdraws w e then { e with withdrawn := true } else e)) :=
    (mapEntries_works s _ fun e => by split <;> rfl).lists (mapEntries_same s _ fun e => by split <;> rfl)
  have hdropped := hmarked.trans (dropEntries_lists _ (fun e => !sweepRemoves w e) fun e he => by
    simp only [Bool.not_eq_false', sweepRemoves, Bool.and_eq_true, beq_iff_eq] at he; exact he.2)
  unfold sweepStore
  simp only []
  split
  · exact hdropped.trans (untouched_lists rfl rfl)
  · exact hdropped

theorem finishWithdrawn_lists (ns : List Nat) (s : State) : KeepsLists s (finishWithdrawn ns s) := by
  unfold finishWithdrawn
  simp only []
  split
  · exact .refl s
  · exact ((finishEach_lists _ _ List.filter_sublist).trans (afterFinish_lists _ _)).trans (settle_lists _)

theorem closeRecord_lists (s : State) : KeepsLists s (closeRecord s) := untouched_lists rfl rfl

theorem closeStream_lists (s : State) : KeepsLists s (closeStream s) := by
  unfold closeStream
  split
  · exact .refl s
  · rename_i w _
    have hswept : KeepsLists s (sweepStream w s) := by
      unfold sweepStream
      split
      · exact (sweepStore_lists w s).trans (finishWithdrawn_lists _ _)
      · exact .refl s
    have hmarks : ∀ u, KeepsLists u (clearMarks u) := fun u =>
      (clearMarks_works u).lists (mapEntries_same u _ fun _ => rfl)
    have hscan : ∀ u, KeepsLists u (postponedScan u) := fun u => by
      unfold postponedScan
      split
      · split
        · exact untouched_lists rfl rfl
        · exact runScan_lists u
      · exact .refl u
    have hpostponed := (hswept.trans (hmarks _)).trans (hscan _)
    refine KeepsLists.trans ?_ (settle_lists _)
    refine KeepsLists.trans ?_ (closeRecord_lists _)
    split
    · exact hpostponed.trans (deriveAndPass_lists _)
    · exact hpostponed

theorem arrive_lists (i : Instr) (d : Dest) (s : State) : KeepsLists s (arrive i d s) := by
  have hstarted : KeepsLists s (startWork i d s) := untouched_lists rfl rfl
  unfold arrive
  simp only []
  split
  · exact hstarted.trans (closeStream_lists _)
  · exact hstarted

end Sys2Proof.Machine

/-! PROOFS. Every owner's work keeps the lists, family by family in the order of the model's files, and so does every step. -/

namespace Sys2Proof.Machine

/-! ### Starting and stopping (R167, R178, R186) -/

/-- A state without entries, bookings and directives has everything in order. -/
theorem emptied_lists {s t : State} (h : Keeps s t) (hentries : t.guide.entries = []) (hbookings : t.plan.bookings = [])
    (hdirectives : t.outbox.directives = []) (hcount : t.run.recordings = 0) : KeepsLists s t where
  keeps := h
  list _ _ := by unfold ListOk; rw [hbookings]; exact .nil
  keys _ := by unfold KeysOk; rw [hentries]; exact .nil
  pins _ _ _ := by
    rw [pinsOk_iff, hbookings, hentries]
    exact ⟨fun _ he => absurd he List.not_mem_nil, fun _ hb => absurd hb List.not_mem_nil⟩
  runs _ _ := by
    rw [runsOk_iff, hbookings, hdirectives, hcount]
    exact ⟨rfl, fun _ ⟨_, hb, _⟩ => absurd hb List.not_mem_nil, fun _ _ => rfl⟩

theorem blank_lists (s : State) (powered resetLow : Bool) : KeepsLists s (s.blank powered resetLow) :=
  emptied_lists (blank_keeps s _ _) rfl rfl rfl rfl

theorem sampleAll_same (s : State) : SameLists s s.sampleAll :=
  (((sample_same s _).trans (sample_same _ _)).trans (sample_same _ _)).trans (sample_same _ _)

theorem start_lists (s : State) (p : Straps) : KeepsLists s (s.start p) := by
  refine (emptied_lists (t := { s.blank true false with line := ⟨dropOf p, rateOf p, .idle, none⟩ }) ?_ rfl rfl rfl rfl).same
    (start_keeps s p) (SameLists.trans ?_ (sampleAll_same _))
  · exact (blank_keeps s true false).trans (sampleStraps_keeps _ p)
  · unfold State.loadImage
    split <;> exact .of_eq rfl

theorem powerUp_lists (p : Straps) (s : State) : KeepsLists s (powerUp p s) := by
  unfold powerUp
  split
  · exact blank_lists s _ _
  · exact start_lists s p

theorem resetPinWork_lists (e : ResetPinEvent) (s : State) : KeepsLists s (resetPinWork e s) := by
  cases e with
  | low => exact blank_lists s _ _
  | release p =>
    simp only [resetPinWork]
    split
    · split
      · exact start_lists s p
      · exact blank_lists s _ _
    · exact .refl s

theorem advance_lists (s : State) : KeepsLists s (advance s) := by
  refine (advance_keeps s).lists ?_
  unfold advance
  split
  · exact .of_eq rfl
  · exact .refl s

/-! ### The line (R169 to R172) -/

theorem line_lists (s : State) (l : LineInterface) (h : l.dropAddress = s.line.dropAddress) :
    KeepsLists s { s with line := l } := (line_keeps s l h).lists (.of_eq rfl)

theorem onLine_lists (s : State) {f : LineInterface → LineInterface} (h : (f s.line).dropAddress = s.line.dropAddress) :
    KeepsLists s (s.onLine f) := by
  refine (onLine_keeps s h).lists ?_
  unfold State.onLine
  split
  · exact .of_eq rfl
  · exact .refl s

theorem respond_lists (kind : Byte) (d : Dest) (w : State × Answer) : KeepsLists w.1 (respond kind d w) := by
  cases d <;> exact line_lists w.1 _ rfl

/-- A message keeps what its owner's work keeps. -/
theorem message_lists {α : Type} {owner : α → State → State × Answer} (h : ∀ a u, KeepsLists u (owner a u).1)
    (i : Instr) (d : Dest) (b : Body α) (s : State) : KeepsLists s (message i d b owner s) := by
  unfold message
  split
  · cases b with
    | fields a => exact ((arrive_lists i d s).trans (h a _)).trans (respond_lists _ _ _)
    | badLength p => exact (arrive_lists i d s).trans (respond_lists _ _ (arrive i d s, .refuse .length []))
  · exact .refl s

/-! ### Settings, QUERY and RESET -/

theorem overrunChanged_lists (b : Nat) (s : State) : KeepsLists s (overrunChanged b s) := by
  unfold overrunChanged
  split
  · have hpulled := mapBookings_lists s (pullDown s) fun b => by unfold pullDown; simp only []; split <;> rfl
    simp only []
    exact (((hpulled.trans (finishGroup_lists _ _ _)).trans (settle_lists _)).trans (passIfSet_lists _)).trans
      (settle_lists _)
  · exact .refl s

theorem lateChanged_lists (s : State) : KeepsLists s (lateChanged s) :=
  ((mapBookings_lists s (relimit s.settings) fun b => by unfold relimit; split <;> rfl).trans
    (finishGroup_lists _ _ _)).trans (settle_lists _)

theorem rewarn_lists (t : TunerId) (s : State) : KeepsLists s (rewarn t s) := by
  refine (rewarn_works t s).lists ?_
  unfold rewarn
  split
  · split
    · exact setWarning_same s t _
    · exact .refl s
  · exact .refl s

theorem settle_deriveAndPass_lists (s : State) : KeepsLists s (settle (deriveAndPass s)) :=
  (deriveAndPass_lists s).trans (settle_lists _)

theorem settle_passIfSet_lists (s : State) : KeepsLists s (settle (passIfSet s)) :=
  (passIfSet_lists s).trans (settle_lists _)

theorem settle_recomputeWake_lists (s : State) : KeepsLists s (settle (recomputeWake s)) :=
  (recomputeWake_lists s).trans (settle_lists _)

theorem settingEffect_lists (id : Nat) (b : Settings) (s : State) : KeepsLists s (settingEffect id b s) := by
  unfold settingEffect
  split
  · exact settle_deriveAndPass_lists s
  · exact settle_deriveAndPass_lists s
  · exact settle_deriveAndPass_lists s
  · exact overrunChanged_lists _ s
  · exact lateChanged_lists s
  · exact settle_recomputeWake_lists s
  · exact ((rewarn_lists _ s).trans (rewarn_lists _ _)).trans (settle_lists _)
  · exact (deriveAndPass_lists s).trans (settle_recomputeWake_lists _)
  · exact settle_recomputeWake_lists s
  · exact settle_recomputeWake_lists s
  · exact settle_passIfSet_lists s
  · exact settle_passIfSet_lists s
  · exact settle_passIfSet_lists s
  · exact spacePart_lists s
  · exact spacePart_lists s
  · exact .refl s

theorem setSetting_lists {id : Nat} {r : SettingRow} {v : List Int} (hr : settingRow id = some r)
    (hl : v.length = r.entries) (hv : r.admits v = true) (s : State) : KeepsLists s (setSetting id v s) := by
  unfold setSetting
  split
  · exact .refl s
  · exact (KeepsLists.changing ((settings_keeps s _ fun k => put_inRange k hr hl hv).lists (.of_eq rfl))).trans
      (settingEffect_lists _ _ _)

theorem paramSetWork_lists (a : ParamSetArgs) (s : State) : KeepsLists s (paramSetWork a s).1 := by
  unfold paramSetWork
  refine KeepsLists.orRefuse ?_
  split
  · exact .refl s
  · rename_i r hr
    split
    · exact .refl s
    · rename_i v hv
      obtain ⟨hl, hadm⟩ := acceptedValue_spec (settingRow_range hr).1 (decode_length r _) hv
      exact setSetting_lists hr hl hadm s

theorem paramGetWork_lists (a : Byte) (s : State) : KeepsLists s (paramGetWork a s).1 := by
  unfold paramGetWork
  split <;> exact .refl s

theorem queryWork_lists (d : Dest) (x : Unit) (s : State) : KeepsLists s (queryWork d x s).1 := by
  cases d with
  | own => exact untouched_lists rfl rfl
  | broadcast => exact .refl s

theorem resetOutbox_keeps (s : State) : Keeps s (resetOutbox s) :=
  ⟨fun k => ⟨k.1, k.2, k.3, k.4, k.5, k.6, k.7, k.8⟩, fun k => ⟨k.1, k.2, k.3, k.4⟩⟩

theorem markChanged_same (s : State) : SameLists s s.markChanged := by
  unfold State.markChanged
  split
  · exact setImageState_same s _
  · exact .of_eq rfl
  · exact .of_eq rfl
  · exact .refl s
  · exact .refl s
  · exact .refl s

theorem resetWork_lists (defaults : Bool) (s : State) : KeepsLists s (resetWork defaults s) := by
  have hcleared : KeepsLists s (resetOutbox (resetTables (resetStreamAndSave s))) :=
    emptied_lists (((resetStreamAndSave_keeps s).trans (resetTables_keeps _)).trans (resetOutbox_keeps _)) rfl rfl rfl rfl
  have hsampled : ∀ u, KeepsLists u u.sampleAll := fun u => (sampleAll_works u).lists (sampleAll_same u)
  cases defaults with
  | false => exact (hcleared.trans (hsampled _)).trans (settle_deriveAndPass_lists _)
  | true =>
    have hdefaults : ∀ u, KeepsLists u (resetDefaults u) := fun u =>
      (resetDefaults_keeps u).lists (SameLists.trans (SameLists.trans (t := u.withContent StoredContent.defaults) (.of_eq rfl)
        (markChanged_same _)) (.of_eq rfl))
    exact ((hcleared.trans (hdefaults _)).trans (hsampled _)).trans (settle_deriveAndPass_lists _)

theorem resetMessage_lists (d : Dest) (b : Body Byte) (s : State) : KeepsLists s (resetMessage d b s) := by
  unfold resetMessage
  split
  · split
    · unfold resetAccepted
      simp only []
      refine KeepsLists.trans (KeepsLists.trans (line_lists s _ ?_) (resetWork_lists _ _)) (line_lists _ _ ?_)
      · rfl
      · rfl
    · exact .refl s
  · exact message_lists (fun _ u => .refl u) _ d b s

/-! ### Bookings -/

theorem settle_finishOne_lists (e : Ending) (r : Option Reason) {b : Booking} {s : State} (hb : Live s b) :
    KeepsLists s (settle (finishOne e r b s)) := (finishOne_lists e r hb).trans (settle_lists _)

theorem bookCancelWork_lists (w : Word16) (s : State) : KeepsLists s (bookCancelWork w s).1 := by
  unfold bookCancelWork
  refine KeepsLists.orRefuse ?_
  split
  · exact .refl s
  · rename_i b hb
    exact KeepsLists.orRefuse (settle_finishOne_lists _ _ (.of_booking? hb))

theorem bookStopWork_lists (w : Word16) (s : State) : KeepsLists s (bookStopWork w s).1 := by
  unfold bookStopWork
  refine KeepsLists.orRefuse ?_
  split
  · exact .refl s
  · rename_i b hb
    split
    · exact settle_finishOne_lists _ _ (.of_booking? hb)
    · exact .refl s

theorem spaceWork_lists (w : Word32) (s : State) : KeepsLists s (spaceWork w s).1 :=
  KeepsLists.trans (t := { s with plan := { s.plan with freeSpace := some w.toNat } }) (untouched_lists rfl rfl)
    (spacePart_lists _)

/-! ### HOLD (R120) -/

/-- A DUE booking goes back to LATE, and its BEGIN out of the queue. -/
theorem holdBack_lists {s : State} {n : Nat} (h : DueIn s.plan.bookings n) : KeepsLists s (holdBack n s) := by
  obtain ⟨b, hb, rfl, hdue⟩ := h
  refine changeBooking_lists hb (fun c => { c with
    state := some .late, dueAt := none, takeExpiry := none, lateExpiry := some (lateLimitOf s.settings c) })
    (holdBack_works _ s).keeps (fun _ => ⟨rfl, rfl, rfl⟩) rfl rfl fun r => ?_
  have hfresh := not_mem_others b.number s.plan.bookings
  have hstruck := r.strike hfresh
  rw [hdue] at hstruck
  refine (RunsFor.cons_quiet_iff ?_ ⟨?_, ?_⟩).mpr hstruck
  · exact hfresh
  · rintro ⟨⟩
  · rintro ⟨⟩

theorem holdBack_dueIn {s : State} {m n : Nat} (h : DueIn s.plan.bookings m) (hne : m ≠ n) :
    DueIn (holdBack n s).plan.bookings m := by
  obtain ⟨b, hb, hm, hdue⟩ := h
  have hn : ¬ (b.number == n) = true := fun he => hne (hm ▸ beq_iff_eq.mp he)
  exact ⟨b, List.mem_map.mpr ⟨b, hb, if_neg hn⟩, hm, hdue⟩

theorem foldl_holdBack_lists (ns : List Nat) (s : State) (h : ∀ n ∈ ns, DueIn s.plan.bookings n) (hn : ns.Nodup) :
    KeepsLists s (ns.foldl (fun u n => holdBack n u) s) := by
  induction ns generalizing s with
  | nil => exact .refl s
  | cons n ns ih =>
    obtain ⟨hnew, hns⟩ := List.nodup_cons.mp hn
    exact (holdBack_lists (h n List.mem_cons_self)).trans (ih _ (fun m hm =>
      holdBack_dueIn (h m (List.mem_cons_of_mem n hm)) fun he => hnew (he ▸ hm)) hns)

theorem foldl_holdBack_keys (ns : List Nat) (s : State) : SameKeys s (ns.foldl (fun u n => holdBack n u) s) := by
  induction ns generalizing s with
  | nil => rfl
  | cons n ns ih => exact ih (holdBack n s)

theorem holdOn_lists (s : State) : KeepsLists s (holdOn s) := by
  have hheld : ∀ u : State, KeepsLists u (((u.inState .due).map Booking.number).foldl (fun u n => holdBack n u) u) := by
    intro u
    refine .ofNumbers (Works.foldl (fun u n => holdBack_works n u) _ u).keeps (foldl_holdBack_keys _ u) fun k => ?_
    refine foldl_holdBack_lists _ u (fun n hn => ?_) ((List.filter_sublist.map _).nodup k.distinct)
    obtain ⟨b, hb, rfl⟩ := List.mem_map.mp hn
    obtain ⟨hmem, hdue⟩ := List.mem_filter.mp hb
    exact ⟨b, hmem, rfl, beq_iff_eq.mp hdue⟩
  have hset : KeepsLists s { s with run := { s.run with hold := true } } := untouched_lists rfl rfl
  exact ((hset.trans (hheld _)).trans (finishGroup_lists _ _ _)).trans (settle_lists _)

theorem holdOff_lists (s : State) : KeepsLists s (holdOff s).state := by
  have hset : KeepsLists s { s with run := { s.run with hold := false } } := untouched_lists rfl rfl
  refine ((hset.trans (takeLates_lists _)).trans ?_).trans (settle_lists _)
  split
  · exact .refl _
  · exact afterFinish_lists _ _

theorem holdWork_lists (b : Byte) (s : State) : KeepsLists s (holdWork b s).1 := by
  unfold holdWork
  split
  · exact .refl s
  · split
    · exact .refl s
    · split
      · exact holdOn_lists s
      · exact holdOff_lists s

/-! ### CONFIRM (R122) -/

theorem earlyEndAtConfirm_lists (n : Nat) (s : State) : KeepsLists s (earlyEndAtConfirm n s) := by
  unfold earlyEndAtConfirm
  split
  · split
    · exact (earlyEnd_lists n s).trans (settle_lists _)
    · exact .refl s
  · exact .refl s

/-- A STARTING booking becomes RECORDING, and the recording count rises. -/
theorem startRecording_lists {b : Booking} {s : State} (hb : b ∈ s.plan.bookings) (hq : Quiet b.state) :
    KeepsLists s ((s.mapBooking b.number (startRecording s)).setRecordings
      ((s.mapBooking b.number (startRecording s)).run.recordings + 1)) := by
  have hworks := mapBooking_works s b.number (startRecording s) fun _ => rfl
  have hfresh := not_mem_others b.number s.plan.bookings
  refine KeepsLists.same ?_ (hworks.trans (setRecordings_works _ _)).keeps (setRecordings_same _ _)
  exact changeBooking_lists hb (startRecording s) (hworks.trans (recordings_works _ _)).keeps (fun _ => ⟨rfl, rfl, rfl⟩) rfl rfl
    fun r => RunsFor.record (b := startRecording s b) ((RunsFor.cons_quiet_iff hfresh hq).mp r) hfresh rfl

theorem confirmed_lists {b : Booking} {s : State} (hb : b ∈ s.plan.bookings) (hq : Quiet b.state) :
    KeepsLists s (confirmed b s) := by
  have hstarted := startRecording_lists hb hq
  refine KeepsLists.trans (KeepsLists.trans ?_ (settle_lists _)) (earlyEndAtConfirm_lists _ _)
  split
  · exact hstarted.trans (atOnce_lists _ _ _)
  · exact hstarted

theorem confirmMessage_lists (a : ConfirmArgs) (s : State) : KeepsLists s (confirmMessage a s).1 := by
  unfold confirmMessage
  refine KeepsLists.orRefuse ?_
  split
  · exact .refl s
  · rename_i b hb
    split
    · rename_i hstarting
      split
      · exact confirmed_lists (booking?_mem hb).1 (hstarting ▸ ⟨by rintro ⟨⟩, by rintro ⟨⟩⟩)
      · exact settle_finishOne_lists _ _ (.of_booking? hb)
    · exact .refl s

/-! ### CLOCK -/

theorem setClock_lists {v : Nat} (s : State) (h : v ≤ Config.clockMax) : KeepsLists s (s.setClock v) :=
  (setClock_keeps s h).lists (.of_eq rfl)

theorem replanIf_lists (large : Prop) [Decidable large] (s : State) : KeepsLists s (replanIf large s) := by
  unfold replanIf
  split
  · exact settle_deriveAndPass_lists s
  · exact .refl s

theorem clockStep_lists {v : Nat} (s : State) (h : v ≤ Config.clockMax) : KeepsLists s (clockStep v s) := by
  cases hc : stepClass s.clockSet s.present v with
  | none => rw [clockStep_none hc]; exact .refl s
  | first =>
    rw [clockStep_first hc]
    refine ((firstSet_keeps s h).lists ?_).trans (settle_deriveAndPass_lists _)
    exact (mapEntries_same s (fun e => { e with refreshedAt := some (e.refreshedAt.getD v) }) fun _ => rfl).trans (.of_eq rfl)
  | forward =>
    rw [clockStep_forward hc]
    exact (((setClock_lists s h).trans (agenda_lists _ _)).trans (settle_lists _)).trans (replanIf_lists _ _)
  | backward =>
    rw [clockStep_backward hc]
    refine KeepsLists.trans ?_ (replanIf_lists _ _)
    refine ((setClock_lists s h).trans (mapBookings_lists _ (fun b => { b with
      confirmExpiry := b.confirmExpiry.map (fun x => min x (v + s.settings.confirmTimeout)) }) fun _ => rfl)).same
      (steppedBack_keeps s h) (.of_eq rfl)

theorem clockWork_lists (w : Word32) (s : State) : KeepsLists s (clockWork w s).1 := by
  unfold clockWork
  split
  · rename_i h
    exact clockStep_lists s ((clockAccepts_iff _).mp h).2
  · exact .refl s

end Sys2Proof.Machine

/-! PROOFS. The owners of the guide, host power, the image, the outbox, requests, services and tuners keep the lists, and so does
every step. -/

namespace Sys2Proof.Machine

/-! ### The guide -/

theorem guideOpenWork_lists (a : GuideOpenArgs) (s : State) : KeepsLists s (guideOpenWork a s).1 := by
  unfold guideOpenWork
  split
  · exact (closeStream_lists s).trans (untouched_lists rfl rfl)
  · exact .refl s

/-- A new entry takes the lowest free slot, its key being that of none (R29, R37). -/
theorem insertEntry_lists (e : GuidePutEntry) {s : State} (h : s.entry? e.channel.toNat e.eventId.toNat = none) :
    KeepsLists s (insertEntry e s) := by
  have hkeeps := insertEntry_keeps e s
  unfold insertEntry at hkeeps ⊢
  split
  · rename_i n hn
    rw [hn] at hkeeps
    have hperm := insertBy_perm slotBefore (putNew s e n) s.guide.entries
    exact {
      keeps := hkeeps
      list := fun _ => id
      keys := fun k => by
        rw [keysOk_iff] at k ⊢
        refine (hperm.map _).nodup_iff.mpr (List.nodup_cons.mpr ⟨fun hmem => ?_, k⟩)
        obtain ⟨d, hd, hkey⟩ := List.mem_map.mp hmem
        simp only [putNew, Prod.mk.injEq] at hkey
        have hnone := List.find?_eq_none.mp h d hd
        simp [hkey] at hnone
      pins := fun _ _ p => (pinsOk_iff _).mpr
        (((pinsOk_iff s).mp p).insertEntry rfl (lowestFree_spec hn).2.2 hperm)
      runs := fun _ r => ⟨r.recordings, r.begins⟩ }
  · exact .refl s

/-- The unpinned entry that gives way leaves the store (R38). -/
theorem evict_lists {s : State} {x : GuideEntry} (h : evictable s = some x) :
    KeepsLists s (s.withEntries (s.guide.entries.filter fun y => y.slot != x.slot)) := by
  obtain ⟨hmem, hpins, -⟩ := evictable_spec h
  refine filterEntries_lists s _ fun k y hy hslot => ?_
  have hyx : y = x := List.inj_on_of_nodup_map (k.entries.1.imp fun hlt => Nat.ne_of_lt hlt) hy hmem (by simpa using hslot)
  rw [hyx, hpins]

theorem putEntry_lists (w : StreamWindow) (e : GuidePutEntry) (s : State) : KeepsLists s (putEntry w e s).1 := by
  unfold putEntry
  split
  · exact .refl s
  · split
    · exact .refl s
    · split
      · exact .refl s
      · split
        · rename_i old _
          have hput : KeepsLists s (s.mapEntry old.slot (putUpdate s e)) :=
            (mapEntry_works s old.slot (putUpdate s e) fun _ => rfl).lists (mapEntry_same s _ _ fun _ => rfl)
          simp only []
          split
          · exact hput.trans (untouched_lists rfl rfl)
          · exact hput
        · rename_i hnone
          split
          · exact insertEntry_lists e hnone
          · split
            · rename_i x hx
              split
              · refine (evict_lists hx).trans (insertEntry_lists e (List.find?_eq_none.mpr fun d hd => ?_))
                exact List.find?_eq_none.mp hnone d (List.mem_of_mem_filter hd)
              · exact setGuideFull_lists s true
            · exact setGuideFull_lists s true

theorem putEntries_lists (w : StreamWindow) (es : List GuidePutEntry) (s : State) (c : PutCounts) :
    KeepsLists s (putEntries w es s c).1 := by
  induction es generalizing s c with
  | nil => exact .refl s
  | cons e es ih => exact (putEntry_lists w e s).trans (ih _ _)

theorem guidePutWork_lists (a : GuidePutArgs) (s : State) : KeepsLists s (guidePutWork a s).1 := by
  unfold guidePutWork
  split
  · exact .refl s
  · exact putEntries_lists _ _ s _

theorem guideFlushWork_lists (a : GuideFlushArgs) (s : State) : KeepsLists s (guideFlushWork a s).1 := by
  unfold guideFlushWork
  refine KeepsLists.orRefuse ?_
  simp only [accept]
  split
  · exact .refl s
  · refine (dropEntries_lists s _ fun e he => ?_).trans (settle_deriveAndPass_lists _)
    simp only [Bool.not_eq_false', Bool.and_eq_true, beq_iff_eq] at he
    exact he.2

theorem changeStatus_lists (st : RunningStatus) (e : GuideEntry) (s : State) : KeepsLists s (changeStatus st e s) := by
  have hput : KeepsLists s (s.mapEntry e.slot (writeStatus st)) :=
    (mapEntry_works s e.slot (writeStatus st) fun _ => rfl).lists (mapEntry_same s _ _ fun _ => rfl)
  unfold changeStatus
  simp only []
  split
  · exact hput
  · exact hput.trans (handRunning_lists _ _)

theorem runningWork_lists (a : RunningArgs) (s : State) : KeepsLists s (runningWork a s).1 := by
  unfold runningWork
  split
  · exact .refl s
  · refine KeepsLists.orRefuse ?_
    split
    · exact .refl s
    · split
      · exact .refl s
      · exact changeStatus_lists _ _ s

/-! ### Host power -/

theorem freeHolds_lists (s : State) : KeepsLists s s.freeHolds := (freeHolds_works s).lists (.of_eq rfl)

theorem greetWork_lists (x : Unit) (s : State) : KeepsLists s (greetWork x s).1 := by
  have hrestart : (restartBookings s).Sublist s.freeHolds.plan.bookings := by
    unfold restartBookings
    split
    · exact List.filter_sublist
    · exact List.nil_sublist _
  have hended := (freeHolds_lists s).trans (finishEach_lists (.outcome .truncated .hostRestart 0) none hrestart)
  have htaken := (hended.trans (host_lists _ (finishEach (.outcome .truncated .hostRestart 0) none
    (restartBookings s) s.freeHolds).host.greeted)).trans (takeLates_lists _)
  unfold greetWork
  refine KeepsLists.trans (KeepsLists.trans ?_ (settle_lists _)) (host_lists _ _)
  split
  · exact htaken.trans (afterFinish_lists _ _)
  · exact htaken

theorem restAccepted_lists (s : State) : KeepsLists s (restAccepted s).1 := by
  have hfreed : KeepsLists s (if s.holdsViewer then settle (passIfSet s.freeHolds) else s.freeHolds) := by
    split
    · exact (freeHolds_lists s).trans (settle_passIfSet_lists _)
    · exact freeHolds_lists s
  exact ((hfreed.trans (host_lists _ _)).trans (applyTrigger_lists _ _)).trans (settle_recomputeWake_lists _)

theorem restWork_lists (x : Unit) (s : State) : KeepsLists s (restWork x s).1 := by
  unfold restWork
  exact KeepsLists.orRefuse (KeepsLists.orRefuse (restAccepted_lists s))

/-! ### The stored image -/

theorem storeSaveWork_lists (x : Unit) (s : State) : KeepsLists s (storeSaveWork x s).1 := by
  unfold storeSaveWork
  exact KeepsLists.orRefuse ((beginSave_keeps s).lists ((setImageState_same _ _).after rfl))

theorem eraseDone_lists (s : State) : KeepsLists s (eraseDone s) := by
  refine (eraseDone_keeps s).lists ?_
  unfold eraseDone
  split
  · exact (setImageState_same _ _).after rfl
  · exact .refl s

theorem writeDone_lists (s : State) : KeepsLists s (writeDone s) := by
  have hwritten : KeepsLists s (writeImage s) :=
    (writeImage_keeps s).lists ((setImageState_same _ _).after rfl)
  unfold writeDone
  split
  · exact (hwritten.trans (releaseScan_lists _)).trans (settle_lists _)
  · exact .refl s

/-! ### TAKE (R121, R157) -/

theorem withDirectives_keeps (s : State) (ds : List Directive) : Keeps s (s.withDirectives ds) :=
  ⟨fun k => ⟨k.1, k.2, k.3, k.4, k.5, k.6, k.7, k.8⟩, fun k => ⟨k.1, k.2, k.3, k.4⟩⟩

/-- The BEGIN at the head of the queue leaves, and its DUE booking becomes STARTING. -/
theorem startStarting_lists {s : State} {f : BeginFields} {ds : List Directive} {b : Booking}
    (hd : s.outbox.directives = .beginRec f :: ds) (hb : b ∈ s.plan.bookings) (hn : b.number = f.booking) :
    KeepsLists s ((s.withDirectives ds).mapBooking f.booking (startStarting s)) := by
  have hpop := withDirectives_keeps s ds
  rw [← hn]
  refine changeBooking_lists hb (startStarting s)
    (hpop.works (mapBooking_works _ b.number (startStarting s) fun _ => rfl)) (fun _ => ⟨rfl, rfl, rfl⟩) rfl rfl fun r => ?_
  have hfresh := not_mem_others b.number s.plan.bookings
  rw [hd] at r
  refine (RunsFor.cons_quiet_iff (b := startStarting s b) hfresh ⟨?_, ?_⟩).mpr
    (r.taken hfresh (beq_iff_eq.mpr hn.symm))
  · rintro ⟨⟩
  · rintro ⟨⟩

/-- A BEGIN at the head of the queue is that of a booking in the list. -/
theorem takenBegin_none_lists {s : State} {f : BeginFields} {ds : List Directive}
    (hd : s.outbox.directives = .beginRec f :: ds) (hnone : s.booking? f.booking = none) :
    KeepsLists s (s.withDirectives ds) where
  keeps := withDirectives_keeps s ds
  list _ := id
  keys := id
  pins _ _ p := ⟨p.count, p.named⟩
  runs _ r := by
    rw [runsOk_iff, hd] at r
    have hidle := r.idle f.booking fun ⟨b, hb, hn, _⟩ => by simpa [hn] using List.find?_eq_none.mp hnone b hb
    simp [beginsIn, Directive.isBeginFor] at hidle

theorem handTaken_lists {s : State} {x : Directive} {ds : List Directive} (hd : s.outbox.directives = x :: ds) :
    KeepsLists s (handTaken x (s.withDirectives ds)) := by
  have hother : (∀ n, x.isBeginFor n = false) → KeepsLists s (s.withDirectives ds) := fun h =>
    (withDirectives_keeps s ds).lists ⟨rfl, rfl, fun n => by simp [beginsIn, hd, h n], rfl⟩
  cases x with
  | endRec b p r => exact hother fun _ => rfl
  | yieldTuner t b => exact hother fun _ => rfl
  | beginRec f =>
    show KeepsLists s (beginTaken f.booking (s.withDirectives ds))
    unfold beginTaken
    split
    · rename_i b hb
      obtain ⟨hmem, hn⟩ := booking?_mem hb
      exact ((startStarting_lists hd hmem hn).trans (atOnce_lists _ _ _)).trans (settle_lists _)
    · rename_i hnone
      exact takenBegin_none_lists hd hnone

/-- What leaves the queues is the directive at the head, or nothing that the lists read. -/
theorem popItem_cases (s : State) :
    (∃ x ds, s.outbox.directives = x :: ds ∧ popItem s = (.directive x, s.withDirectives ds))
    ∨ (∀ x, (popItem s).1 ≠ .directive x) ∧ KeepsLists s (popItem s).2 := by
  unfold popItem
  split
  · rename_i hd; exact .inl ⟨_, _, hd, rfl⟩
  · exact .inr ⟨fun _ h => (nomatch h), untouched_lists rfl rfl⟩
  · exact .inr ⟨fun _ h => (nomatch h), .refl s⟩

theorem takeWork_lists (d : Dest) (x : Unit) (s : State) : KeepsLists s (takeWork d x s).1 := by
  cases d with
  | broadcast => exact .refl s
  | own =>
    unfold takeWork
    rcases popItem_cases s with ⟨y, ds, hd, hpop⟩ | ⟨hno, hlists⟩
    · rw [hpop]; exact handTaken_lists hd
    · simp only []
      split
      · rename_i y hy; exact absurd hy (hno y)
      · exact hlists
      · exact hlists

/-! ### The outbox, the alert table and the panel -/

theorem alertAckWork_lists (b : Byte) (s : State) : KeepsLists s (alertAckWork b s).1 := by
  unfold alertAckWork
  split
  · exact .refl s
  · exact .refl s
  · exact KeepsLists.orRefuse ((acknowledge_keeps _ s).lists ((sample_same _ _).after rfl))

theorem changeMask_lists (x : Source) (v : Bool) (s : State) : KeepsLists s (changeMask x v s) := by
  have hput : KeepsLists s (s.changing (fun u => u.setMask x v)) := .changing (untouched_lists rfl rfl)
  unfold changeMask
  cases x with
  | level l =>
    simp only []
    split
    · exact hput
    · exact hput.trans ((sample_works _ l).lists (sample_same _ l))
  | edge e => exact hput

theorem alertMaskWork_lists (a : AlertMaskArgs) (s : State) : KeepsLists s (alertMaskWork a s).1 := by
  unfold alertMaskWork
  split
  · refine KeepsLists.orRefuse ?_
    split
    · exact .refl s
    · exact changeMask_lists _ _ s
  · exact .refl s

theorem attnEnableWork_lists (b : Byte) (s : State) : KeepsLists s (attnEnableWork b s).1 := by
  unfold attnEnableWork
  split
  · exact .refl s
  · exact KeepsLists.orRefuse (.changing (f := fun u => u.setAttn _) (untouched_lists rfl rfl))

theorem panelStageWork_lists (a : PanelStageArgs) (s : State) : KeepsLists s (panelStageWork a s).1 := by
  unfold panelStageWork
  refine KeepsLists.orRefuse ?_
  split
  · exact .changing (f := fun u => u.stage _ _) (untouched_lists rfl rfl)
  · exact .refl s

theorem panelSetWork_lists (b : Byte) (s : State) : KeepsLists s (panelSetWork b s).1 := by
  unfold panelSetWork
  split
  · exact .refl s
  · exact untouched_lists rfl rfl

/-! ### Requests -/

theorem reqAddWork_lists (a : ReqAddArgs) (s : State) : KeepsLists s (reqAddWork a s).1 := by
  unfold reqAddWork
  refine KeepsLists.orRefuse ?_
  split
  · exact .refl s
  · rename_i q _
    refine KeepsLists.orRefuse (KeepsLists.orRefuse (KeepsLists.orRefuse ?_))
    split
    · exact .refl s
    · rename_i n hn
      have hput : KeepsLists s (s.insertRequest (q.request n)) := (insertRequest_keeps hn).lists (.of_eq rfl)
      exact (KeepsLists.changing hput).trans (settle_deriveAndPass_lists _)

theorem editAccepted_lists (b : ReqEditBody) (r : Request) (s : State) : KeepsLists s (editAccepted b r s).1 := by
  have hput : KeepsLists s (s.mapRequest r.number fun _ => editedRequest b r) :=
    (replaceRequest_keeps s (editedRequest b r)).lists (.of_eq rfl)
  unfold editAccepted
  simp only []
  split
  · exact .refl s
  · simp only [accept]
    split
    · exact (KeepsLists.changing hput).trans (settle_deriveAndPass_lists _)
    · exact .changing hput

theorem reqEditWork_lists (a : ReqEditArgs) (s : State) : KeepsLists s (reqEditWork a s).1 := by
  unfold reqEditWork
  refine KeepsLists.orRefuse (KeepsLists.orRefuse ?_)
  split
  · exact .refl s
  · exact KeepsLists.orRefuse (KeepsLists.orRefuse (KeepsLists.orRefuse (KeepsLists.orRefuse (KeepsLists.orRefuse
      (editAccepted_lists _ _ s)))))

theorem removeWaiting_lists (n : Nat) (s : State) : KeepsLists s (removeWaiting n s) := by
  refine removeSilently_lists s _ fun b hb => ?_
  have hwaiting := (Bool.and_eq_true_iff.mp hb).2
  unfold Booking.isWaiting at hwaiting
  constructor <;> (intro hs; rw [hs] at hwaiting; exact absurd hwaiting (by decide))

theorem passIfRemoved_lists (n : Nat) (s : State) : KeepsLists s (passIfRemoved n s) := by
  unfold passIfRemoved
  split
  · exact .refl s
  · exact settle_passIfSet_lists s

theorem setRequestState_lists (s : State) (n : Nat) (st : RequestState) : KeepsLists s (s.setRequestState n st) :=
  (setRequestState_works s n st).lists (.of_eq rfl)

theorem dropRequest_lists (n : Nat) (s : State) : KeepsLists s (dropRequest n s) := by
  unfold dropRequest
  split
  · exact removeRequest_lists s n
  · exact setRequestState_lists s n _

theorem reqDropWork_lists (n : Byte) (s : State) : KeepsLists s (reqDropWork n s).1 := by
  unfold reqDropWork
  refine KeepsLists.orRefuse (KeepsLists.orRefuse ?_)
  split
  · exact .refl s
  · split
    · exact .refl s
    · exact ((removeWaiting_lists _ s).trans (.changing (dropRequest_lists _ _))).trans (passIfRemoved_lists _ _)

theorem reqPauseWork_lists (n : Byte) (s : State) : KeepsLists s (reqPauseWork n s).1 := by
  unfold reqPauseWork
  refine KeepsLists.orRefuse (KeepsLists.orRefuse ?_)
  split
  · exact .refl s
  · split
    · exact .refl s
    · exact .refl s
    · exact ((removeWaiting_lists _ s).trans (.changing (setRequestState_lists _ _ _))).trans (passIfRemoved_lists _ _)

theorem reqResumeWork_lists (n : Byte) (s : State) : KeepsLists s (reqResumeWork n s).1 := by
  unfold reqResumeWork
  refine KeepsLists.orRefuse (KeepsLists.orRefuse ?_)
  split
  · exact .refl s
  · split
    · exact .refl s
    · exact .refl s
    · exact (KeepsLists.changing (setRequestState_lists s _ _)).trans (settle_deriveAndPass_lists _)

theorem reqReadWork_lists (a : ReqReadArgs) (s : State) : KeepsLists s (reqReadWork a s).1 := by
  unfold reqReadWork
  refine KeepsLists.orRefuse ?_
  split
  · exact .refl s
  · simp only []
    split <;> exact .refl s

/-! ### Services, tuners and viewer holds -/

theorem changeServices_lists {f : State → State} {s : State} (h : KeepsLists s (f s)) :
    KeepsLists s (changeServices f s) :=
  (KeepsLists.changing h).trans (settle_deriveAndPass_lists _)

theorem svcPutWork_lists (a : SvcPutArgs) (s : State) : KeepsLists s (svcPutWork a s).1 := by
  unfold svcPutWork
  refine KeepsLists.orRefuse (KeepsLists.orRefuse ?_)
  split
  · rename_i hnew
    split
    · exact .refl s
    · rename_i hroom
      exact changeServices_lists ((insertService_keeps hnew (Nat.not_le.mp hroom)).lists (.of_eq rfl))
  · refine KeepsLists.orRefuse ?_
    split
    · exact .refl s
    · exact changeServices_lists ((updateService_keeps s _).lists (.of_eq rfl))

theorem svcDropWork_lists (w : Word16) (s : State) : KeepsLists s (svcDropWork w s).1 := by
  unfold svcDropWork
  exact KeepsLists.orRefuse (KeepsLists.orRefuse (KeepsLists.orRefuse (KeepsLists.orRefuse
    (changeServices_lists ((removeService_keeps s _).lists (.of_eq rfl))))))

theorem svcReadWork_lists (w : Word16) (s : State) : KeepsLists s (svcReadWork w s).1 := by
  unfold svcReadWork
  exact KeepsLists.orRefuse (.refl s)

theorem withTuner_lists (s : State) (t : TunerId) (x : Tuner) : KeepsLists s (s.withTuner t x) :=
  (withTuner_sameTables s t x).keeps.lists (withTuner_same s t x)

theorem tunerCfgWork_lists (a : TunerCfgArgs) (s : State) : KeepsLists s (tunerCfgWork a s).1 := by
  unfold tunerCfgWork
  refine KeepsLists.orRefuse ?_
  split
  · unfold tunerCfgJudged
    refine KeepsLists.orRefuse ?_
    split
    · exact .refl s
    · exact (KeepsLists.changing (withTuner_lists s _ _)).trans (settle_passIfSet_lists _)
  · exact .refl s

theorem viewOnWork_lists (a : ViewOnArgs) (s : State) : KeepsLists s (viewOnWork a s).1 := by
  unfold viewOnWork
  refine KeepsLists.orRefuse ?_
  split
  · exact .refl s
  · refine KeepsLists.orRefuse ?_
    split
    · exact .refl s
    · unfold viewJudged
      refine KeepsLists.orRefuse ?_
      split
      · exact .refl s
      · exact (withTuner_lists s _ _).trans (settle_passIfSet_lists _)

theorem viewOffWork_lists (i : Byte) (s : State) : KeepsLists s (viewOffWork i s).1 := by
  unfold viewOffWork
  split
  · exact .refl s
  · split
    · exact (withTuner_lists s _ _).trans (settle_passIfSet_lists _)
    · exact .refl s

/-! ### The step -/

/-- Every command answers a state that keeps the lists. -/
theorem exec_lists (i : Instr) (s : State) : ∃ t, exec i s = .next t ∧ KeepsLists s t := by
  cases i with
  | powerOn p => exact ⟨_, rfl, powerUp_lists p s⟩
  | resetPin e => exact ⟨_, rfl, resetPinWork_lists e s⟩
  | powerLoss => exact ⟨_, rfl, blank_lists s _ _⟩
  | presentAdvance => exact ⟨_, rfl, advance_lists s⟩
  | assemblyTimeout lead => exact ⟨_, rfl, onLine_lists s ((gap_dropAddress _).trans (lead_dropAddress _ _))⟩
  | deselection lead x => exact ⟨_, rfl, onLine_lists s ((char_dropAddress _ _).trans (lead_dropAddress _ _))⟩
  | impossibleLength d len => exact ⟨_, rfl, onLine_lists s (chars_dropAddress _ _)⟩
  | replyComplete => exact ⟨_, rfl, onLine_lists s (sent_dropAddress _)⟩
  | badCheckMessage d => exact ⟨_, rfl, message_lists (fun _ u => .refl u) _ d _ s⟩
  | unknownKindMessage d => exact ⟨_, rfl, message_lists (fun _ u => .refl u) _ d _ s⟩
  | greet d b => exact ⟨_, rfl, message_lists greetWork_lists _ d b s⟩
  | rest d b => exact ⟨_, rfl, message_lists restWork_lists _ d b s⟩
  | clock d b => exact ⟨_, rfl, message_lists clockWork_lists _ d b s⟩
  | query d b => exact ⟨_, rfl, message_lists (queryWork_lists d) _ d b s⟩
  | paramSet d b => exact ⟨_, rfl, message_lists paramSetWork_lists _ d b s⟩
  | paramGet d b => exact ⟨_, rfl, message_lists paramGetWork_lists _ d b s⟩
  | reset d b => exact ⟨_, rfl, resetMessage_lists d b s⟩
  | svcPut d b => exact ⟨_, rfl, message_lists svcPutWork_lists _ d b s⟩
  | svcDrop d b => exact ⟨_, rfl, message_lists svcDropWork_lists _ d b s⟩
  | svcRead d b => exact ⟨_, rfl, message_lists svcReadWork_lists _ d b s⟩
  | tunerCfg d b => exact ⟨_, rfl, message_lists tunerCfgWork_lists _ d b s⟩
  | viewOn d b => exact ⟨_, rfl, message_lists viewOnWork_lists _ d b s⟩
  | viewOff d b => exact ⟨_, rfl, message_lists viewOffWork_lists _ d b s⟩
  | guideOpen d b => exact ⟨_, rfl, message_lists guideOpenWork_lists _ d b s⟩
  | guidePut d b => exact ⟨_, rfl, message_lists guidePutWork_lists _ d b s⟩
  | guideFlush d b => exact ⟨_, rfl, message_lists guideFlushWork_lists _ d b s⟩
  | running d b => exact ⟨_, rfl, message_lists runningWork_lists _ d b s⟩
  | reqAdd d b => exact ⟨_, rfl, message_lists reqAddWork_lists _ d b s⟩
  | reqEdit d b => exact ⟨_, rfl, message_lists reqEditWork_lists _ d b s⟩
  | reqDrop d b => exact ⟨_, rfl, message_lists reqDropWork_lists _ d b s⟩
  | reqPause d b => exact ⟨_, rfl, message_lists reqPauseWork_lists _ d b s⟩
  | reqResume d b => exact ⟨_, rfl, message_lists reqResumeWork_lists _ d b s⟩
  | reqRead d b => exact ⟨_, rfl, message_lists reqReadWork_lists _ d b s⟩
  | bookRead d b => exact ⟨_, rfl, message_lists (fun _ u => .refl u) _ d b s⟩
  | bookCancel d b => exact ⟨_, rfl, message_lists bookCancelWork_lists _ d b s⟩
  | bookStop d b => exact ⟨_, rfl, message_lists bookStopWork_lists _ d b s⟩
  | space d b => exact ⟨_, rfl, message_lists spaceWork_lists _ d b s⟩
  | hold d b => exact ⟨_, rfl, message_lists holdWork_lists _ d b s⟩
  | take d b => exact ⟨_, rfl, message_lists (takeWork_lists d) _ d b s⟩
  | confirm d b => exact ⟨_, rfl, message_lists confirmMessage_lists _ d b s⟩
  | alertAck d b => exact ⟨_, rfl, message_lists alertAckWork_lists _ d b s⟩
  | alertMask d b => exact ⟨_, rfl, message_lists alertMaskWork_lists _ d b s⟩
  | attnEnable d b => exact ⟨_, rfl, message_lists attnEnableWork_lists _ d b s⟩
  | panelStage d b => exact ⟨_, rfl, message_lists panelStageWork_lists _ d b s⟩
  | panelSet d b => exact ⟨_, rfl, message_lists panelSetWork_lists _ d b s⟩
  | storeSave d b => exact ⟨_, rfl, message_lists storeSaveWork_lists _ d b s⟩
  | storeQuery d b => exact ⟨_, rfl, message_lists (fun _ u => .refl u) _ d b s⟩
  | eraseComplete => exact ⟨_, rfl, eraseDone_lists s⟩
  | writeComplete => exact ⟨_, rfl, writeDone_lists s⟩
  | agingScan => exact ⟨_, rfl, expire_lists .scan s⟩
  | windowStart n => exact ⟨_, rfl, expire_lists (.windowStart n) s⟩
  | lateLimit n => exact ⟨_, rfl, expire_lists (.lateLimit n) s⟩
  | takeDeadline n => exact ⟨_, rfl, expire_lists (.takeDeadline n) s⟩
  | confirmTimer n => exact ⟨_, rfl, expire_lists (.confirmTimer n) s⟩
  | provisionalEnd n => exact ⟨_, rfl, expire_lists (.provisionalEnd n) s⟩
  | wakeExpiry => exact ⟨_, rfl, expire_lists .wake s⟩
  | wakeTimeout => exact ⟨_, rfl, expire_lists .wakeTimer s⟩
  | warningExpiry t => exact ⟨_, rfl, expire_lists (.warning t) s⟩

theorem step_lists {s t : State} (h : step s = .next t) : KeepsLists s t := by
  unfold step at h
  split at h
  · cases h; exact .refl s
  · rename_i i rest _
    obtain ⟨u, hu, hlists⟩ := exec_lists i { s with pending := rest }
    rw [hu] at h
    cases h
    exact (untouched_lists (s := s) (t := { s with pending := rest }) rfl rfl).trans hlists

theorem reset_lists : ListOk State.reset ∧ KeysOk State.reset ∧ PinsOk State.reset ∧ RunsOk State.reset :=
  ⟨.nil, .nil, ⟨fun _ he => absurd he List.not_mem_nil, fun _ hb => absurd hb List.not_mem_nil⟩, rfl, fun _ => rfl⟩

/-- Settles O56: a step is one command (`exec_lists`) or idle. -/
theorem stepKeepsOrderPinsAndCounts : Obligations.StepKeepsOrderPinsAndCounts :=
  ⟨reset_lists, fun _ _ n l h => (step_lists h).list n l, fun _ _ k h => (step_lists h).keys k,
    fun _ _ i n p h => (step_lists h).pins i n p, fun _ _ n r h => (step_lists h).runs n r⟩

end Sys2Proof.Machine

/-! PROOFS. The wanted set of each request kind, in the statement's words (R76 to R82). -/

namespace Sys2Proof.Machine

section
variable {s : State} {r : Request} {o : Occurrence}

theorem wantedOf_inactive (h : r.state ≠ .active) : o ∉ wantedOf s r := by
  unfold wantedOf
  rw [if_neg h]
  exact List.not_mem_nil

theorem mem_wantedOf_single {f : TimedFields} (h : r.state = .active) (hk : r.kind = .timed f) (hd : f.days = 0) :
    o ∈ wantedOf s r ↔ (s.present < o.start + o.duration ∧ o.start < horizonEnd s) ∧ o = singleOccurrence s r.number f := by
  simp only [wantedOf, h, hk, hd, if_true, mem_wantedSingle, withinReach_iff]
  refine and_congr_left fun ho => ?_
  rw [ho]; rfl

theorem mem_wantedOf_repeating {f : TimedFields} (h : r.state = .active) (hk : r.kind = .timed f) (hd : f.days ≠ 0) :
    o ∈ wantedOf s r ↔ (s.present < o.start + o.duration ∧ o.start < horizonEnd s)
      ∧ ∃ d, localDay s.settings s.present - 1 ≤ d ∧ d ≤ localDay s.settings (horizonEnd s)
        ∧ f.days.getLsbD (weekday d) = true ∧ d ∉ f.skip ∧ (∀ sd, f.settledDay = some sd → sd < d)
        ∧ o = dayOccurrence s r.number f d := by
  simp only [wantedOf, h, hk, hd, if_true, if_false, mem_wantedRepeating, withinReach_iff, mem_daysExamined, wantsDay_iff]
  constructor
  · rintro ⟨d, ⟨hfrom, hto⟩, ⟨hday, hskip, hsettled⟩, hreach, rfl⟩
    exact ⟨hreach, d, hfrom, hto, hday, hskip, hsettled, rfl⟩
  · rintro ⟨hreach, d, hfrom, hto, hday, hskip, hsettled, rfl⟩
    exact ⟨d, ⟨hfrom, hto⟩, ⟨hday, hskip, hsettled⟩, hreach, rfl⟩

theorem mem_wantedOf_event {f : EventFields} (hkeys : KeysOk s) (h : r.state = .active) (hk : r.kind = .event f) :
    o ∈ wantedOf s r ↔ (s.present < o.start + o.duration ∧ o.start < horizonEnd s) ∧ ∃ e ∈ s.guide.entries,
      e.channel = f.channel ∧ e.eventId = f.eventId ∧ s.hasService e.channel = true ∧ Current r.number e
        ∧ o = entryOccurrence r.number e := by
  simp only [wantedOf, h, hk, if_true, mem_wantedEvent, withinReach_iff]
  constructor
  · rintro ⟨e, he, hcurrent, hserved, hreach, rfl⟩
    obtain ⟨hmem, hchannel, hevent⟩ := entry?_spec he
    exact ⟨hreach, e, hmem, hchannel, hevent, hserved, hcurrent, rfl⟩
  · rintro ⟨hreach, e, hmem, hchannel, hevent, hserved, hcurrent, rfl⟩
    exact ⟨e, hchannel ▸ hevent ▸ entry?_eq_some hkeys hmem, hcurrent, hserved, hreach, rfl⟩

/-- The entries of a SERIES request, as the statement has them (R81). -/
def Qualifies (s : State) (n : Nat) (f : SeriesFields) (e : GuideEntry) : Prop :=
  e ∈ s.guide.entries ∧ e.series = some f.seriesId
    ∧ (if f.channel = 0 then s.hasService e.channel = true else e.channel = f.channel) ∧ Current n e
    ∧ s.present < e.start + e.duration ∧ e.start < horizonEnd s

theorem mem_qualifying_iff {n : Nat} {f : SeriesFields} {e : GuideEntry} :
    e ∈ qualifying s n f ↔ Qualifies s n f e := by
  rw [mem_qualifying, withinReach_iff]; rfl

theorem mem_wantedOf_series {f : SeriesFields} (hkeys : KeysOk s) (h : r.state = .active) (hk : r.kind = .series f) :
    o ∈ wantedOf s r ↔ ∃ e, Qualifies s r.number f e ∧ o = entryOccurrence r.number e ∧ ∀ id, e.episode = some id →
      ¬ (f.newOnly = true ∧ id ∈ f.history)
      ∧ (∀ b ∈ s.plan.bookings, b.request = r.number → b.isHeld = true → b.episode ≠ some id)
      ∧ (Named s r.number e ∨ ∀ x, Qualifies s r.number f x → x.episode = some id → ¬ Named s r.number x)
      ∧ ∀ x, Qualifies s r.number f x → x.episode = some id → (Named s r.number e → Named s r.number x) →
        ¬ airsBefore x e = true := by
  have hgroup : ∀ id x, x ∈ (qualifying s r.number f).filter (fun e => e.episode == some id) ↔
      Qualifies s r.number f x ∧ x.episode = some id := fun id x => by
    rw [List.mem_filter, mem_qualifying_iff, beq_iff_eq]
  have hentries : ∀ id, ∀ x ∈ (qualifying s r.number f).filter (fun e => e.episode == some id), x ∈ s.guide.entries :=
    fun id x hx => ((hgroup id x).mp hx).1.1
  simp only [wantedOf, h, hk, if_true, mem_wantedSeries, mem_qualifying_iff]
  refine exists_congr fun e => and_congr_right fun hq => and_congr_right fun _ => forall_congr' fun id =>
    imp_congr_right fun hid => ?_
  rw [wantedOfGroup_iff hkeys (hentries id)]
  simp only [hgroup, hq, hid, and_imp, and_self, true_and]

end

end Sys2Proof.Machine

/-! PROOFS. What a derivation makes of the Booking List (R76, R83 to R86), step by step: the bookings that stay, those that are
updated, those that are created, and their numbers. -/

namespace Sys2Proof.Machine

/-! ### Windows and the values of a booking that is not held (R56, R58, R91) -/

theorem windowOf_eq (start duration pre post : Nat) : windowOf start duration pre post
    = (start - pre, min (start - pre + 43200) (min (start + duration + post) 4294967295)) := by
  have hcap : ∀ a x : Nat, (if x - a > 43200 then a + 43200 else x) = min (a + 43200) x := fun a x => by
    split <;> omega
  exact Prod.ext rfl (hcap _ _)

/-- A booking brought up to its occurrence and its request, value by value. -/
theorem updateBooking_eq (set : Settings) (r : Request) (o : Occurrence) (b : Booking) :
    updateBooking set r o b = { b with
      key := o.key
      progStart := o.start
      progDuration := o.duration
      episode := o.episode
      tier := min (set.tierMap.getD r.importance 0) (set.kindCeiling.getD r.kind.index 0)
      accurate := r.accurate
      winStart := o.start - r.prePad.getD set.prePad
      winEnd := min (o.start - r.prePad.getD set.prePad + 43200)
        (min (o.start + o.duration + r.postPad.getD set.postPad) 4294967295)
      provEnd := min (o.start - r.prePad.getD set.prePad + 43200)
        (min (o.start + o.duration + r.postPad.getD set.postPad) 4294967295) } := by
  simp only [updateBooking, Booking.formWindow, windowOf_eq]
  rfl

/-- A created booking is a blank one brought up to its occurrence (R85). -/
theorem newBooking_eq (set : Settings) (r : Request) (o : Occurrence) (n : Nat) :
    newBooking set r o n = updateBooking set r o ⟨n, o.request, o.key, o.channel, 0, 0, 0, 0, 0, 0, none, none, false, false,
      false, [], none, none, none, none, none, none, none, none, none⟩ := rfl

theorem isHeld_iff_not_isOpen (b : Booking) : b.isHeld = true ↔ ¬ b.isOpen = true := by
  unfold Booking.isHeld Booking.isOpen
  cases b.state with
  | none => simp
  | some st => cases st <;> simp

/-! ### Serving an occurrence (R77) -/

/-- A booking serves an occurrence, `rs` being the requests. -/
def Serves (rs : List Request) (b : Booking) (o : Occurrence) : Prop :=
  b.request = o.request ∧ (b.key = o.key
    ∨ (b.key.slot? = none ∧ ∃ r ∈ rs, r.number = o.request ∧ r.isSingle = true))

theorem request_isSingle_iff {s : State} (h : requestsOk s.requests) (n : Nat) :
    (match s.request? n with
      | some r => r.isSingle
      | none => false) = true ↔ ∃ r ∈ s.requests, r.number = n ∧ r.isSingle = true := by
  cases hr : s.request? n with
  | none =>
    refine ⟨fun hf => absurd hf Bool.false_ne_true, fun ⟨r, hmem, hn, _⟩ => ?_⟩
    rw [← hn, request?_of_mem h hmem] at hr; cases hr
  | some r =>
    obtain ⟨hmem, hn⟩ := request?_spec hr
    refine ⟨fun hsingle => ⟨r, hmem, hn, hsingle⟩, fun ⟨q, hq, hqn, hsingle⟩ => ?_⟩
    rw [← hqn, request?_of_mem h hq] at hr
    exact Option.some.inj hr ▸ hsingle

theorem serves_iff {s : State} (h : requestsOk s.requests) (b : Booking) (o : Occurrence) :
    serves s b o = true ↔ Serves s.requests b o := by
  unfold serves Serves
  rw [Bool.and_eq_true, Bool.or_eq_true, Bool.and_eq_true]
  exact and_congr beq_iff_eq (or_congr beq_iff_eq (and_congr Option.isNone_iff_eq_none (request_isSingle_iff h _)))

section
variable {u : State} (hrequests : requestsOk u.requests) (hentries : entriesOk u.guide.entries)
include hrequests

/-- The request of a wanted occurrence. -/
theorem wanted_request {o : Occurrence} (ho : o ∈ wantedSet u) :
    ∃ r ∈ u.requests, r.number = o.request ∧ u.request? o.request = some r ∧ o ∈ wantedOf u r := by
  obtain ⟨r, hr, hor⟩ := mem_wantedSet.mp ho
  have hn := (wantedFrom hor).request
  exact ⟨r, hr, hn.symm, hn ▸ request?_of_mem hrequests hr, hor⟩

include hentries

/-- What is wanted of one request is told apart by its key, and there is one occurrence of a single request. -/
theorem wanted_eq {o o' : Occurrence} (ho : o ∈ wantedSet u) (ho' : o' ∈ wantedSet u) (hn : o.request = o'.request)
    (h : o.key = o'.key ∨ ∃ r ∈ u.requests, r.number = o.request ∧ r.isSingle = true) : o = o' := by
  obtain ⟨r, hr, hro, -, hwanted⟩ := wanted_request hrequests ho
  obtain ⟨r', hr', hro', -, hwanted'⟩ := wanted_request hrequests ho'
  have hrr : r' = r := request_eq_of_number hrequests hr' hr (by rw [hro, hro', hn])
  subst hrr
  have hkey : o.key = o'.key ∨ r'.isSingle = true := h.imp_right fun ⟨q, hq, hqn, hsingle⟩ =>
    request_eq_of_number hrequests hq hr (hqn.trans hro.symm) ▸ hsingle
  cases wantedFrom hwanted with
  | single f hkind hdays =>
    cases wantedFrom hwanted' with
    | single g hkind' hdays' => rw [hkind] at hkind'; cases hkind'; rfl
    | day g hkind' hdays' d => rw [hkind] at hkind'; cases hkind'; exact absurd hdays hdays'
    | entry hkind' e he => rw [isSingle_timed hkind, hdays] at hkind'; cases hkind'
  | day f hkind hdays d =>
    have hnot : ¬ r'.isSingle = true := by rw [isSingle_timed hkind, beq_iff_eq]; exact hdays
    have hday := hkey.resolve_right hnot
    cases wantedFrom hwanted' with
    | single g hkind' hdays' => rw [hkind] at hkind'; cases hkind'; exact absurd hdays' hdays
    | day g hkind' hdays' d' => rw [hkind] at hkind'; cases hkind'; cases hday; rfl
    | entry hkind' e he => cases hday
  | entry hkind e he =>
    have hslot := hkey.resolve_right (by rw [hkind]; exact Bool.false_ne_true)
    cases wantedFrom hwanted' with
    | single g hkind' hdays' => cases hslot
    | day g hkind' hdays' d' => cases hslot
    | entry hkind' e' he' =>
      have hee : e = e' := List.inj_on_of_nodup_map (hentries.1.imp fun hlt => Nat.ne_of_lt hlt) he he'
        (OccurrenceKey.guideSlot.inj hslot)
      rw [hee]

/-- A booking serves at most one wanted occurrence. -/
theorem served_eq {b : Booking} {o o' : Occurrence} (ho : o ∈ wantedSet u) (ho' : o' ∈ wantedSet u)
    (h : Serves u.requests b o) (h' : Serves u.requests b o') : o = o' := by
  obtain ⟨hn, hkey⟩ := h
  obtain ⟨hn', hkey'⟩ := h'
  refine wanted_eq hrequests hentries ho ho' (hn.symm.trans hn') ?_
  rcases hkey with hkey | ⟨-, hsingle⟩
  · rcases hkey' with hkey' | ⟨-, hsingle⟩
    · exact .inl (hkey.symm.trans hkey')
    · exact .inr (by rw [hn.symm.trans hn']; exact hsingle)
  · exact .inr hsingle

end

/-! ### Steps 3 and 4: the bookings that remain (R83, R84) -/

/-- An open booking as an update leaves it. -/
def updatedIn (w : List Occurrence) (s : State) (b : Booking) : Booking :=
  if b.isOpen then
    match w.find? (serves s b), s.request? b.request with
    | some o, some r => updateBooking s.settings r o b
    | _, _ => b
  else b

/-- The state before the creations. -/
def beforeCreations (u : State) : State := updateOpen (wantedSet u) (removeUnwanted (wantedSet u) u)

theorem removeUnwanted_eq (w : List Occurrence) (u : State) : removeUnwanted w u =
    { u.withBookings (u.plan.bookings.filter fun b => !(b.isOpen && !w.any (serves u b))) with
      guide := (removeUnwanted w u).guide } := foldl_pinDown_eq _ _

theorem beforeCreations_requests (u : State) : (beforeCreations u).requests = u.requests := by
  show (removeUnwanted _ _).requests = _
  rw [removeUnwanted_eq]; rfl

theorem beforeCreations_counter (u : State) : (beforeCreations u).plan.counter = u.plan.counter := by
  show (removeUnwanted _ _).plan.counter = _
  rw [removeUnwanted_eq]; rfl

theorem beforeCreations_standing (u : State) : (beforeCreations u).standing = u.standing :=
  ((removeUnwanted_works (wantedSet u) u).trans (updateOpen_works (wantedSet u) _)).standing

section
variable {u : State} (hrequests : requestsOk u.requests) (hentries : entriesOk u.guide.entries)
include hrequests hentries

/-- An open booking of a wanted occurrence takes its values. -/
theorem updatedIn_of_serves {b : Booking} {o : Occurrence} {r : Request} (hb : b.isOpen = true) (ho : o ∈ wantedSet u)
    (h : Serves u.requests b o) (hr : u.request? o.request = some r) {v : State} (hv : v.requests = u.requests)
    (hset : v.settings = u.settings) : updatedIn (wantedSet u) v b = updateBooking u.settings r o b := by
  have hrequests' : requestsOk v.requests := hv ▸ hrequests
  have hservesv : ∀ x, serves v b x = true ↔ Serves u.requests b x := fun x => by rw [serves_iff hrequests', hv]
  have hfind : (wantedSet u).find? (serves v b) = some o := by
    cases hf : (wantedSet u).find? (serves v b) with
    | none => exact absurd ((hservesv o).mpr h) (List.find?_eq_none.mp hf o ho)
    | some x =>
      rw [served_eq hrequests hentries (List.mem_of_find?_eq_some hf) ho ((hservesv x).mp (List.find?_some hf)) h]
  have hrequest : v.request? b.request = some r := by
    unfold State.request?; rw [hv, h.1]; exact hr
  unfold updatedIn
  rw [if_pos hb, hfind, hrequest, hset]

/-- The bookings before the creations: the held ones as they were, and the open ones of wanted occurrences updated. -/
theorem mem_beforeCreations {c : Booking} : c ∈ (beforeCreations u).plan.bookings ↔
    (c ∈ u.plan.bookings ∧ c.isHeld = true) ∨ ∃ b ∈ u.plan.bookings, ∃ o ∈ wantedSet u, ∃ r ∈ u.requests,
      b.isOpen = true ∧ Serves u.requests b o ∧ r.number = o.request ∧ c = updateBooking u.settings r o b := by
  have hremoved := removeUnwanted_eq (wantedSet u) u
  have hv : (removeUnwanted (wantedSet u) u).requests = u.requests := by rw [hremoved]; rfl
  have hset : (removeUnwanted (wantedSet u) u).settings = u.settings := by rw [hremoved]; rfl
  have hbookings : ∀ b, b ∈ (removeUnwanted (wantedSet u) u).plan.bookings ↔ b ∈ u.plan.bookings
      ∧ (b.isOpen = true → ∃ o ∈ wantedSet u, Serves u.requests b o) := by
    intro b
    rw [hremoved]
    show b ∈ u.plan.bookings.filter _ ↔ _
    simp only [List.mem_filter, Bool.not_eq_true', Bool.and_eq_false_iff, Bool.not_eq_false', List.any_eq_true,
      serves_iff hrequests]
    refine and_congr_right fun _ => ?_
    cases b.isOpen <;> simp
  have hmem : c ∈ (beforeCreations u).plan.bookings ↔
      ∃ b ∈ (removeUnwanted (wantedSet u) u).plan.bookings, updatedIn (wantedSet u) (removeUnwanted (wantedSet u) u) b = c :=
    (sortBy_perm _ _).mem_iff.trans List.mem_map
  rw [hmem]
  constructor
  · rintro ⟨b, hb, rfl⟩
    obtain ⟨hbu, hserved⟩ := (hbookings b).mp hb
    by_cases hopen : b.isOpen = true
    · obtain ⟨o, ho, hbo⟩ := hserved hopen
      obtain ⟨r, hr, hn, hro, -⟩ := wanted_request hrequests ho
      exact .inr ⟨b, hbu, o, ho, r, hr, hopen, hbo, hn, updatedIn_of_serves hrequests hentries hopen ho hbo hro hv hset⟩
    · have hkept : updatedIn (wantedSet u) (removeUnwanted (wantedSet u) u) b = b := by
        unfold updatedIn; rw [if_neg hopen]
      rw [hkept]
      exact .inl ⟨hbu, (isHeld_iff_not_isOpen b).mpr hopen⟩
  · rintro (⟨hc, hheld⟩ | ⟨b, hb, o, ho, r, hr, hopen, hbo, hn, rfl⟩)
    · have hopen := (isHeld_iff_not_isOpen c).mp hheld
      exact ⟨c, (hbookings c).mpr ⟨hc, fun h => absurd h hopen⟩, by unfold updatedIn; rw [if_neg hopen]⟩
    · exact ⟨b, (hbookings b).mpr ⟨hb, fun _ => ⟨o, ho, hbo⟩⟩,
        updatedIn_of_serves hrequests hentries hopen ho hbo (hn ▸ request?_of_mem hrequests hr) hv hset⟩

/-- The wanted occurrences that are served before the creations are those that were served at all. -/
theorem served_beforeCreations {o : Occurrence} (ho : o ∈ wantedSet u) :
    (∃ c ∈ (beforeCreations u).plan.bookings, Serves u.requests c o) ↔ ∃ b ∈ u.plan.bookings, Serves u.requests b o := by
  constructor
  · rintro ⟨c, hc, hco⟩
    rcases (mem_beforeCreations hrequests hentries).mp hc with ⟨hcu, -⟩ | ⟨b, hb, o', ho', r, -, -, hbo', -, rfl⟩
    · exact ⟨c, hcu, hco⟩
    · have hoo : o' = o := served_eq (b := updateBooking u.settings r o' b) hrequests hentries ho' ho
        ⟨hbo'.1, .inl rfl⟩ hco
      exact ⟨b, hb, hoo ▸ hbo'⟩
  · rintro ⟨b, hb, hbo⟩
    by_cases hopen : b.isOpen = true
    · obtain ⟨r, hr, hn, -⟩ := wanted_request hrequests ho
      exact ⟨updateBooking u.settings r o b, (mem_beforeCreations hrequests hentries).mpr
        (.inr ⟨b, hb, o, ho, r, hr, hopen, hbo, hn, rfl⟩), hbo.1, .inl rfl⟩
    · exact ⟨b, (mem_beforeCreations hrequests hentries).mpr (.inl ⟨hb, (isHeld_iff_not_isOpen b).mpr hopen⟩), hbo⟩

end

/-! ### Steps 5 and 6: creations (R85, R86) -/

theorem createOne_full {s : State} (h : ¬ s.plan.bookings.length < Config.maxBookings) (o : Occurrence) : createOne s o = s :=
  if_neg h

theorem createOne_room {s : State} {o : Occurrence} {r : Request} (h : s.plan.bookings.length < Config.maxBookings)
    (hr : s.request? o.request = some r) : createOne s o = s.enterBooking (newBooking s.settings r o s.newNumber) := by
  unfold createOne
  rw [if_pos h, hr]

theorem enterBooking_bookings (s : State) (b : Booking) :
    (s.enterBooking b).plan.bookings = insertBy listBefore b s.plan.bookings := by
  unfold State.enterBooking; cases b.key <;> rfl

theorem enterBooking_requests (s : State) (b : Booking) : (s.enterBooking b).requests = s.requests := by
  unfold State.enterBooking; cases b.key <;> rfl

theorem enterBooking_standing (s : State) (b : Booking) : (s.enterBooking b).standing = s.standing := by
  unfold State.enterBooking; cases b.key <;> rfl

theorem foldl_createOne_full {s : State} (h : ¬ s.plan.bookings.length < Config.maxBookings) (os : List Occurrence) :
    os.foldl createOne s = s := by
  induction os with
  | nil => rfl
  | cons o os ih => rw [List.foldl_cons, createOne_full h, ih]

/-- What creations make of a state: a booking for each of `done`, and none for those `left` because the list is full. -/
structure Created (u : State) (done left : List Occurrence) (v : State) : Prop where
  requests : v.requests = u.requests
  standing : v.standing = u.standing
  grows : ∀ c ∈ u.plan.bookings, c ∈ v.plan.bookings
  source : ∀ c ∈ v.plan.bookings, c ∈ u.plan.bookings ∨ ∃ o ∈ done, ∃ r, u.request? o.request = some r
    ∧ c = newBooking u.settings r o c.number
  all : ∀ o ∈ done, ∃ c ∈ v.plan.bookings, c.request = o.request ∧ c.key = o.key
  full : left ≠ [] → Config.maxBookings ≤ v.plan.bookings.length

/-- The creations run through a list of occurrences from its front (R86). -/
theorem foldl_createOne_created (os : List Occurrence) (u : State) (h : ∀ o ∈ os, (u.request? o.request).isSome = true) :
    ∃ done left, os = done ++ left ∧ Created u done left (os.foldl createOne u) := by
  induction os generalizing u with
  | nil => exact ⟨[], [], rfl, rfl, rfl, fun _ hc => hc, fun _ hc => .inl hc, fun _ ho => absurd ho List.not_mem_nil,
      fun hne => absurd rfl hne⟩
  | cons o os ih =>
    by_cases hroom : u.plan.bookings.length < Config.maxBookings
    · obtain ⟨r, hr⟩ := Option.isSome_iff_exists.mp (h o List.mem_cons_self)
      have hone := createOne_room hroom hr
      generalize hb : newBooking u.settings r o u.newNumber = b at hone
      have hperm := insertBy_perm listBefore b u.plan.bookings
      have hbookings := enterBooking_bookings u b
      have hrequests := enterBooking_requests u b
      have hstanding := enterBooking_standing u b
      have hsettings : (u.enterBooking b).settings = u.settings := congrArg Standing.settings hstanding
      have hrequest : ∀ n, (u.enterBooking b).request? n = u.request? n := fun n => by
        unfold State.request?; rw [hrequests]
      obtain ⟨done, left, rfl, hcreated⟩ := ih (u.enterBooking b) fun p hp => by
        rw [hrequest]; exact h p (List.mem_cons_of_mem o hp)
      refine ⟨o :: done, left, rfl, ?_⟩
      rw [List.foldl_cons, hone]
      exact {
        requests := hcreated.requests.trans hrequests
        standing := hcreated.standing.trans hstanding
        grows := fun c hc => hcreated.grows c (hbookings ▸ hperm.mem_iff.mpr (List.mem_cons_of_mem b hc))
        source := fun c hc => by
          rcases hcreated.source c hc with hcu | ⟨p, hp, q, hq, hcq⟩
          · rw [hbookings] at hcu
            rcases List.mem_cons.mp (hperm.mem_iff.mp hcu) with rfl | hcu
            · exact .inr ⟨o, List.mem_cons_self, r, hr, by rw [← hb]; rfl⟩
            · exact .inl hcu
          · rw [hrequest] at hq
            rw [hsettings] at hcq
            exact .inr ⟨p, List.mem_cons_of_mem o hp, q, hq, hcq⟩
        all := fun p hp => by
          rcases List.mem_cons.mp hp with rfl | hp
          · exact ⟨b, hcreated.grows b (hbookings ▸ hperm.mem_iff.mpr List.mem_cons_self), by rw [← hb]; exact ⟨rfl, rfl⟩⟩
          · exact hcreated.all p hp
        full := hcreated.full }
    · refine ⟨[], o :: os, rfl, ?_⟩
      rw [foldl_createOne_full hroom]
      exact ⟨rfl, rfl, fun _ hc => hc, fun _ hc => .inl hc, fun _ ho => absurd ho List.not_mem_nil,
        fun _ => Nat.not_lt.mp hroom⟩

/-! ### The order of creation (R86) -/

/-- The rank of a key among the occurrences of one request with one start. -/
def keyRank : OccurrenceKey → Nat × Int
  | .localDay d => (1, d)
  | .guideSlot n => (0, n)

theorem key_before_iff (k l : OccurrenceKey) : k.before l = true ↔ (keyRank k).1 < (keyRank l).1
    ∨ ((keyRank k).1 = (keyRank l).1 ∧ (keyRank k).2 < (keyRank l).2) := by
  cases k <;> cases l <;> simp [OccurrenceKey.before, keyRank]

theorem createBefore_iff (o p : Occurrence) : createBefore o p = true ↔ o.start < p.start ∨ (o.start = p.start
    ∧ (o.request < p.request ∨ (o.request = p.request ∧ o.key.before p.key = true))) := by
  simp [createBefore]

theorem createBefore_asymm (o p : Occurrence) (h : createBefore o p = true) : createBefore p o = false := by
  rw [Bool.eq_false_iff, Ne]
  rw [createBefore_iff, key_before_iff] at *
  omega

theorem createBefore_negTrans (o p q : Occurrence) (h : createBefore o p = false) (h' : createBefore p q = false) :
    createBefore o q = false := by
  rw [Bool.eq_false_iff, Ne, createBefore_iff, key_before_iff] at *
  omega
/-- The unserved occurrences in the order of creation. -/
theorem unserved_ordered (w : List Occurrence) (s : State) :
    (unserved w s).Pairwise fun o p => createBefore p o = false :=
  sortBy_ordered createBefore_asymm createBefore_negTrans _

/-! ### The whole derivation -/

/-- The state after the creations, the list-short flag still to be written. -/
def afterCreations (u : State) : State := (unserved (wantedSet u) (beforeCreations u)).foldl createOne (beforeCreations u)

theorem derive_eq (s : State) : derive s = (afterCreations (pruneSkips s)).setListShort
    (!(unserved (wantedSet (pruneSkips s)) (afterCreations (pruneSkips s))).isEmpty) := rfl

theorem setListShort_plan (s : State) (v : Bool) : (s.setListShort v).plan = { s.plan with listShort := v } := by
  unfold State.setListShort
  split
  · rename_i h; rw [← h]
  · rw [sample_eq]

theorem setListShort_requests (s : State) (v : Bool) : (s.setListShort v).requests = s.requests := by
  unfold State.setListShort
  split
  · rfl
  · rw [sample_eq]

section
variable {u : State} (hrequests : requestsOk u.requests) (hentries : entriesOk u.guide.entries)
include hrequests

theorem mem_unserved_iff {v : State} (hv : v.requests = u.requests) {o : Occurrence} :
    o ∈ unserved (wantedSet u) v ↔ o ∈ wantedSet u ∧ ∀ c ∈ v.plan.bookings, ¬ Serves u.requests c o := by
  have hv' : requestsOk v.requests := hv ▸ hrequests
  rw [mem_unserved]
  refine and_congr_right fun _ => forall₂_congr fun c _ => ?_
  rw [← hv, ← serves_iff hv', Bool.eq_false_iff]

/-- The unserved occurrences are created for from the front, as far as the list has room. -/
theorem afterCreations_created : ∃ done left, unserved (wantedSet u) (beforeCreations u) = done ++ left
    ∧ Created (beforeCreations u) done left (afterCreations u) := by
  refine foldl_createOne_created _ _ fun o ho => ?_
  obtain ⟨r, -, -, hr, -⟩ := wanted_request hrequests (mem_unserved.mp ho).1
  unfold State.request? at hr ⊢
  rw [beforeCreations_requests, hr]; rfl

theorem afterCreations_requests : (afterCreations u).requests = u.requests := by
  obtain ⟨done, left, -, hcreated⟩ := afterCreations_created hrequests
  exact hcreated.requests.trans (beforeCreations_requests u)

theorem afterCreations_standing : (afterCreations u).standing = u.standing := by
  obtain ⟨done, left, -, hcreated⟩ := afterCreations_created hrequests
  exact hcreated.standing.trans (beforeCreations_standing u)

theorem mem_afterCreations_of_before {c : Booking} (h : c ∈ (beforeCreations u).plan.bookings) :
    c ∈ (afterCreations u).plan.bookings := by
  obtain ⟨done, left, -, hcreated⟩ := afterCreations_created hrequests
  exact hcreated.grows c h

/-- An occurrence goes unserved only where the list is full (R86). -/
theorem served_or_full {o : Occurrence} (ho : o ∈ wantedSet u) :
    (∃ c ∈ (afterCreations u).plan.bookings, Serves u.requests c o) ∨ 240 ≤ (afterCreations u).plan.bookings.length := by
  obtain ⟨done, left, hsplit, hcreated⟩ := afterCreations_created hrequests
  by_cases hserved : ∃ c ∈ (beforeCreations u).plan.bookings, Serves u.requests c o
  · obtain ⟨c, hc, hco⟩ := hserved
    exact .inl ⟨c, hcreated.grows c hc, hco⟩
  · have hmem := (mem_unserved_iff hrequests (beforeCreations_requests u)).mpr
      ⟨ho, fun c hc hco => hserved ⟨c, hc, hco⟩⟩
    rw [hsplit] at hmem
    rcases List.mem_append.mp hmem with hdone | hleft
    · obtain ⟨c, hc, hn, hkey⟩ := hcreated.all o hdone
      exact .inl ⟨c, hc, hn, .inl hkey⟩
    · exact .inr (hcreated.full (List.ne_nil_of_mem hleft))

include hentries

/-- Where the bookings after a derivation come from (R83 to R85). -/
theorem afterCreations_source {c : Booking} (h : c ∈ (afterCreations u).plan.bookings) :
    (c ∈ u.plan.bookings ∧ c.isHeld = true)
    ∨ (∃ b ∈ u.plan.bookings, ∃ o ∈ wantedSet u, ∃ r ∈ u.requests, b.isOpen = true ∧ Serves u.requests b o
      ∧ r.number = o.request ∧ c = updateBooking u.settings r o b)
    ∨ ∃ o ∈ wantedSet u, ∃ r ∈ u.requests, (∀ b ∈ u.plan.bookings, ¬ Serves u.requests b o) ∧ r.number = o.request
      ∧ c = newBooking u.settings r o c.number := by
  obtain ⟨done, left, hsplit, hcreated⟩ := afterCreations_created hrequests
  rcases hcreated.source c h with hbefore | ⟨o, ho, r, hr, hc⟩
  · exact (mem_beforeCreations hrequests hentries).mp hbefore |>.imp_right .inl
  · obtain ⟨how, hnone⟩ := (mem_unserved_iff hrequests (beforeCreations_requests u)).mp
      (hsplit ▸ List.mem_append_left left ho)
    have hset : (beforeCreations u).settings = u.settings := congrArg Standing.settings (beforeCreations_standing u)
    obtain ⟨hmem, hn⟩ := request?_spec hr
    rw [beforeCreations_requests] at hmem
    rw [hset] at hc
    exact .inr (.inr ⟨o, how, r, hmem, fun b hb hbo => by
      obtain ⟨d, hd, hdo⟩ := (served_beforeCreations hrequests hentries how).mpr ⟨b, hb, hbo⟩
      exact hnone d hd hdo, hn, hc⟩)

/-- What is left uncreated does not come before what is created (R86). -/
theorem created_in_order {o o' : Occurrence} (ho : o ∈ wantedSet u) (ho' : o' ∈ wantedSet u)
    (hleft : ∀ c ∈ (afterCreations u).plan.bookings, ¬ Serves u.requests c o)
    (hnew : ∀ b ∈ u.plan.bookings, ¬ Serves u.requests b o')
    (hserved : ∃ c ∈ (afterCreations u).plan.bookings, Serves u.requests c o') : createBefore o o' = false := by
  obtain ⟨done, left, hsplit, hcreated⟩ := afterCreations_created hrequests
  have hordered := unserved_ordered (wantedSet u) (beforeCreations u)
  have hmem : ∀ p, p ∈ done ++ left ↔ p ∈ wantedSet u
      ∧ ∀ c ∈ (beforeCreations u).plan.bookings, ¬ Serves u.requests c p := fun p => by
    rw [← hsplit]; exact mem_unserved_iff hrequests (beforeCreations_requests u)
  have hnone : ∀ c ∈ (beforeCreations u).plan.bookings, ¬ Serves u.requests c o' := fun c hc hco => by
    obtain ⟨b, hb, hbo⟩ := (served_beforeCreations hrequests hentries ho').mp ⟨c, hc, hco⟩
    exact hnew b hb hbo
  rw [hsplit] at hordered
  have ho'done : o' ∈ done := by
    obtain ⟨c, hc, hco⟩ := hserved
    rcases hcreated.source c hc with hbefore | ⟨p, hp, r, -, hcp⟩
    · exact absurd hco (hnone c hbefore)
    · have hpw := ((hmem p).mp (List.mem_append_left left hp)).1
      have hcarries : Serves u.requests c p := by rw [hcp]; exact ⟨rfl, .inl rfl⟩
      exact served_eq hrequests hentries hpw ho' hcarries hco ▸ hp
  have holeft : o ∈ left := by
    have hany := (hmem o).mpr ⟨ho, fun c hc => hleft c (hcreated.grows c hc)⟩
    refine (List.mem_append.mp hany).resolve_left fun hdone => ?_
    obtain ⟨c, hc, hn, hkey⟩ := hcreated.all o hdone
    exact hleft c hc ⟨hn, .inl hkey⟩
  exact (List.pairwise_append.mp hordered).2.2 o' ho'done o holeft

end

/-! ### Booking numbers (R72) -/

/-- Distinct numbers that are all held are no more than the bookings. -/
theorem held_iterates_le {s : State} (k : NumbersOk s) {i : Nat} (hi : i ≤ 65535)
    (h : ∀ j < i, nextNumber^[j] s.plan.counter ∈ s.plan.bookings.map Booking.number) : i ≤ s.plan.bookings.length := by
  have hdistinct : ((List.range i).map fun j => nextNumber^[j] s.plan.counter).Nodup := by
    refine List.Nodup.map_on (fun a ha b hb hab => ?_) List.nodup_range
    rw [List.mem_range] at ha hb
    have hc := k.counter
    rw [iterate_nextNumber _ hc a (by omega), iterate_nextNumber _ hc b (by omega)] at hab
    simp only [Config.maxBookingNumber] at hc
    split at hab <;> split at hab <;> omega
  have hsub : ((List.range i).map fun j => nextNumber^[j] s.plan.counter) ⊆ s.plan.bookings.map Booking.number := by
    intro x hx
    obtain ⟨j, hj, rfl⟩ := List.mem_map.mp hx
    exact h j (List.mem_range.mp hj)
  simpa using (List.subperm_of_subset hdistinct hsub).length_le

/-- A creation takes the first number from the counter on that no live booking holds, within 240 steps. -/
theorem newNumber_first {s : State} (k : NumbersOk s) : ∃ i ≤ 240, s.newNumber = nextNumber^[i] s.plan.counter
    ∧ s.newNumber ∉ s.plan.bookings.map Booking.number
    ∧ ∀ j < i, nextNumber^[j] s.plan.counter ∈ s.plan.bookings.map Booking.number := by
  have hfree := (newNumber_spec k).1
  obtain ⟨i, hi, hnumber, hheld⟩ := freeNumber_first _ _ _ hfree
  have hroom := k.room
  simp only [Config.maxBookings] at hi hroom
  exact ⟨i, (held_iterates_le k (by omega) hheld).trans hroom, hnumber, hfree, hheld⟩

end Sys2Proof.Machine

/-! PROOFS. The derivation brings the Booking List in line with the wanted set (R76 to R86). -/

namespace Sys2Proof.Machine

/-! ### Step 1: the skip lists (R76) -/

/-- A repeating request without the skipped days that are settled. -/
def prunedRequest (r : Request) : Request :=
  match r.kind with
  | .timed f => { r with kind := .timed { f with skip := f.skip.filter (fun day =>
      match f.settledDay with
      | some sd => decide (sd < day)
      | none => true) } }
  | _ => r

theorem pruneSkips_requests (s : State) : (pruneSkips s).requests = s.requests.map prunedRequest := by
  unfold pruneSkips State.changing
  rw [noteChange_requests]
  refine List.map_congr_left fun r _ => ?_
  unfold prunedRequest
  cases hk : r.kind with
  | timed f =>
    obtain ⟨number, state, importance, prePad, postPad, loss, kind⟩ := r
    obtain ⟨channel, duration, days, start, skip, settledDay⟩ := f
    cases hk
    cases settledDay <;> simp
  | event f => rfl
  | series f => rfl

theorem pruneSkips_plan (s : State) : (pruneSkips s).plan = s.plan := noteChange_plan _ _

theorem pruneSkips_guide (s : State) : (pruneSkips s).guide = s.guide := noteChange_guide _ _

theorem pruneSkips_standing (s : State) : (pruneSkips s).standing = s.standing := (pruneSkips_works s).standing

theorem pruneSkips_settings (s : State) : (pruneSkips s).settings = s.settings :=
  congrArg Standing.settings (pruneSkips_standing s)

theorem prunedRequest_number (r : Request) : (prunedRequest r).number = r.number := by
  unfold prunedRequest; split <;> rfl

theorem prunedRequest_isSingle (r : Request) : (prunedRequest r).isSingle = r.isSingle := by
  unfold prunedRequest Request.isSingle
  cases hk : r.kind <;> simp [hk]

/-- Pruning the skip lists does not change which occurrences a booking serves. -/
theorem serves_pruneSkips (s : State) (b : Booking) (o : Occurrence) :
    Serves (pruneSkips s).requests b o ↔ Serves s.requests b o := by
  unfold Serves
  simp only [pruneSkips_requests, List.mem_map, exists_exists_and_eq_and, prunedRequest_number, prunedRequest_isSingle]

/-! ### The derivation, from the pruned state on -/

theorem derive_requests {s : State} (h : requestsOk (pruneSkips s).requests) :
    (derive s).requests = (pruneSkips s).requests := by
  rw [derive_eq, setListShort_requests, afterCreations_requests h]

theorem derive_standing {s : State} (h : requestsOk (pruneSkips s).requests) : (derive s).standing = s.standing := by
  rw [derive_eq, (setListShort_works _ _).standing, afterCreations_standing h, pruneSkips_standing]

theorem derive_bookings (s : State) : (derive s).plan.bookings = (afterCreations (pruneSkips s)).plan.bookings := by
  rw [derive_eq, setListShort_plan]

theorem derive_counter (s : State) : (derive s).plan.counter = (afterCreations (pruneSkips s)).plan.counter := by
  rw [derive_eq, setListShort_plan]

theorem derive_listShort (s : State) : (derive s).plan.listShort
    = !(unserved (wantedSet (pruneSkips s)) (afterCreations (pruneSkips s))).isEmpty := by
  rw [derive_eq, setListShort_plan]

section
variable {s : State} (hbounds : InBounds s)
include hbounds

theorem pruneSkips_inBounds : InBounds (pruneSkips s) := (pruneSkips_works s).keeps.bounds hbounds

theorem derive_keeps_held {b : Booking} (hb : b ∈ s.plan.bookings) (hheld : b.isHeld = true) :
    b ∈ (derive s).plan.bookings := by
  have hpruned := pruneSkips_inBounds hbounds
  rw [derive_bookings]
  refine mem_afterCreations_of_before hpruned.requests ((mem_beforeCreations hpruned.requests hpruned.entries).mpr ?_)
  rw [pruneSkips_plan]
  exact .inl ⟨hb, hheld⟩

/-- An open booking of a wanted occurrence takes the values of its occurrence and its request (R84). -/
theorem derive_updates {b : Booking} {o : Occurrence} (hb : b ∈ s.plan.bookings) (ho : o ∈ wantedSet (pruneSkips s))
    (hopen : b.isOpen = true) (hbo : Serves s.requests b o) :
    ∃ r ∈ (pruneSkips s).requests, r.number = o.request ∧ updateBooking s.settings r o b ∈ (derive s).plan.bookings := by
  have hpruned := pruneSkips_inBounds hbounds
  obtain ⟨r, hr, hn, -⟩ := wanted_request hpruned.requests ho
  have hmem := mem_afterCreations_of_before hpruned.requests
    ((mem_beforeCreations (c := updateBooking s.settings r o b) hpruned.requests hpruned.entries).mpr
      (.inr ⟨b, pruneSkips_plan s ▸ hb, o, ho, r, hr, hopen, (serves_pruneSkips s b o).mpr hbo, hn, by
        rw [pruneSkips_settings]⟩))
  exact ⟨r, hr, hn, derive_bookings s ▸ hmem⟩

/-- Where the bookings after a derivation come from (R83 to R85). -/
theorem derive_source {c : Booking} (hc : c ∈ (derive s).plan.bookings) : (c ∈ s.plan.bookings ∧ c.isHeld = true)
    ∨ (∃ b ∈ s.plan.bookings, ∃ o ∈ wantedSet (pruneSkips s), ∃ r ∈ (pruneSkips s).requests, b.isOpen = true
      ∧ Serves s.requests b o ∧ r.number = o.request ∧ c = updateBooking s.settings r o b)
    ∨ ∃ o ∈ wantedSet (pruneSkips s), ∃ r ∈ (pruneSkips s).requests, (∀ b ∈ s.plan.bookings, ¬ Serves s.requests b o)
      ∧ r.number = o.request ∧ c = newBooking s.settings r o c.number := by
  have hpruned := pruneSkips_inBounds hbounds
  have hsource := afterCreations_source hpruned.requests hpruned.entries (derive_bookings s ▸ hc)
  simp only [pruneSkips_plan, pruneSkips_settings, serves_pruneSkips] at hsource
  exact hsource

theorem derive_serves_or_full {o : Occurrence} (ho : o ∈ wantedSet (pruneSkips s)) :
    (∃ c ∈ (derive s).plan.bookings, Serves s.requests c o) ∨ 240 ≤ (derive s).plan.bookings.length := by
  have hserved := served_or_full (pruneSkips_inBounds hbounds).requests ho
  simp only [serves_pruneSkips, ← derive_bookings] at hserved
  exact hserved

theorem derive_listShort_iff : (derive s).plan.listShort = true ↔ ∃ o ∈ wantedSet (pruneSkips s),
    ∀ c ∈ (derive s).plan.bookings, ¬ Serves s.requests c o := by
  have hreqs := (pruneSkips_inBounds hbounds).requests
  have hunserved := fun o => mem_unserved_iff hreqs (afterCreations_requests hreqs) (o := o)
  simp only [serves_pruneSkips, ← derive_bookings] at hunserved
  rw [derive_listShort, Bool.not_eq_true', List.isEmpty_eq_false_iff_exists_mem]
  exact exists_congr hunserved

/-- What a derivation leaves uncreated does not come before what it creates (R86). -/
theorem derive_in_order {o o' : Occurrence} (ho : o ∈ wantedSet (pruneSkips s)) (ho' : o' ∈ wantedSet (pruneSkips s))
    (hleft : ∀ c ∈ (derive s).plan.bookings, ¬ Serves s.requests c o)
    (hnew : ∀ b ∈ s.plan.bookings, ¬ Serves s.requests b o')
    (hserved : ∃ c ∈ (derive s).plan.bookings, Serves s.requests c o') : ¬ createBefore o o' = true := by
  have hpruned := pruneSkips_inBounds hbounds
  have horder := created_in_order hpruned.requests hpruned.entries ho ho'
  simp only [serves_pruneSkips, pruneSkips_plan, ← derive_bookings] at horder
  exact Bool.eq_false_iff.mp (horder hleft hnew hserved)

end

/-! ### A creation and its number (R72, R85) -/

theorem enterBooking_counter (s : State) (b : Booking) : (s.enterBooking b).plan.counter = nextNumber b.number := rfl

/-- A creation takes the first free number and moves the counter past it. -/
theorem createOne_takes_first {s : State} {o : Occurrence} {r : Request} (k : NumbersOk s)
    (hr : s.request? o.request = some r) (hroom : s.plan.bookings.length < Config.maxBookings) :
    ∃ i ≤ 240, nextNumber^[i] s.plan.counter ∉ s.plan.bookings.map Booking.number
      ∧ (∀ j < i, nextNumber^[j] s.plan.counter ∈ s.plan.bookings.map Booking.number)
      ∧ (createOne s o).plan.bookings
        = insertBy listBefore (newBooking s.settings r o (nextNumber^[i] s.plan.counter)) s.plan.bookings
      ∧ (createOne s o).plan.counter = nextNumber^[i + 1] s.plan.counter := by
  obtain ⟨i, hi, hnumber, hfree, hheld⟩ := newNumber_first k
  refine ⟨i, hi, hnumber ▸ hfree, hheld, ?_⟩
  rw [createOne_room hroom hr, enterBooking_bookings, enterBooking_counter, Function.iterate_succ_apply', ← hnumber]
  exact ⟨rfl, rfl⟩

/-- Settles O30: the wanted set kind by kind, the derivation step by step from the pruned state on, and each creation's
number by counting on from the counter. -/
theorem derivationBringsTheListInLine : Obligations.DerivationBringsTheListInLine := by
  refine ⟨?_, ?_, ?_⟩
  · intro s r o hkeys
    refine ⟨wantedOf_inactive, fun h => ⟨fun f hk hd => mem_wantedOf_single h hk hd,
      fun f hk hd => mem_wantedOf_repeating h hk hd, fun f hk => mem_wantedOf_event hkeys h hk, fun f hk => ?_⟩⟩
    rw [mem_wantedOf_series hkeys h hk]
    simp only [airsBefore_iff]
    rfl
  · intro s hbounds hnumbers
    have hreqs := (pruneSkips_inBounds hbounds).requests
    have hupdate := updateBooking_eq s.settings
    refine ⟨pruneSkips_requests s, pruneSkips_plan s, pruneSkips_guide s, pruneSkips_standing s, derive_requests hreqs,
      derive_standing hreqs, fun b hb => derive_keeps_held hbounds hb, fun b hb o ho hopen hbo => ?_, fun c hc => ?_,
      fun o ho => derive_serves_or_full hbounds ho, derive_listShort_iff hbounds, fun o ho o' ho' hleft hnew hserved => ?_,
      (beforeCreations_counter _).trans (by rw [pruneSkips_plan]), derive_bookings s, derive_counter s⟩
    · obtain ⟨r, hr, hn, hmem⟩ := derive_updates hbounds hb ho hopen hbo
      rw [hupdate] at hmem
      exact ⟨r, hr, hn, hmem⟩
    · rcases derive_source hbounds hc with hheld | ⟨b, hb, o, ho, r, hr, hopen, hbo, hn, hcb⟩ | ⟨o, ho, r, hr, hnone, hn, hco⟩
      · exact .inl hheld
      · exact .inr (.inl ⟨b, hb, o, ho, r, hr, hopen, hbo, hn, hcb.trans (hupdate r o b)⟩)
      · rw [newBooking_eq, hupdate] at hco
        exact .inr (.inr ⟨o, ho, r, hr, hnone, hn, hco⟩)
    · rw [← createBefore_iff]
      exact derive_in_order hbounds ho ho' hleft hnew hserved
  · intro s o r hnumbers hr
    refine ⟨fun hfull => createOne_full (by simp only [Config.maxBookings]; omega) o, fun hroom => ?_⟩
    obtain ⟨i, hi, hfree, hheld, hbookings, hcounter⟩ := createOne_takes_first hnumbers hr hroom
    have hcounted : ∀ j ≤ 241, nextNumber^[j] s.plan.counter
        = if s.plan.counter + j ≤ 65535 then s.plan.counter + j else s.plan.counter + j - 65535 :=
      fun j hj => iterate_nextNumber _ hnumbers.counter j (by omega)
    rw [hcounted i (by omega)] at hfree hbookings
    rw [hcounted (i + 1) (by omega)] at hcounter
    exact ⟨i, hi, hfree, fun j hj => by simpa only [hcounted j (by omega)] using hheld j hj, hbookings, hcounter⟩

end Sys2Proof.Machine

/-! PROOFS. The part before its first CLOCK (R88), and the agenda between commands (R1, R90). -/

namespace Sys2Proof.Machine

/-! ### Before the first CLOCK (R88) -/

/-- Work makes no booking while the clock is unset, and no viewer hold ever. -/
theorem Works.unsetOk {s t : State} (h : Works s t) (k : UnsetOk s) : UnsetOk t := by
  intro hclock
  have hunset : s.clockSet = false := h.clockSet ▸ hclock
  obtain ⟨hlist, ha, hb⟩ := k hunset
  refine ⟨?_, h.hold_none (x := .a) ha, h.hold_none (x := .b) hb⟩
  rcases h.unset with hset | hless
  · exact absurd (hunset.symm.trans hset) Bool.false_ne_true
  · rw [hlist] at hless
    exact List.eq_nil_of_length_eq_zero (Nat.le_zero.mp hless)

theorem setImageState_unsetOk (st : ImageState) {s : State} (k : UnsetOk s) : UnsetOk (s.setImageState st) := by
  rw [setImageState_eq]; exact k

theorem configure_unsetOk (t : TunerId) (enabled : Bool) (mask : BitVec 4) {s : State} (k : UnsetOk s) :
    UnsetOk (s.configure t enabled mask) := by
  cases t <;> exact k

/-- A part that starts has an empty list and no holds, with whatever image (R178). -/
theorem start_unsetOk (s : State) (p : Straps) : UnsetOk (s.start p) := by
  refine (sampleAll_works _).unsetOk fun _ => ?_
  unfold State.loadImage
  split <;> exact ⟨rfl, rfl, rfl⟩

theorem resetCleared_unsetOk (defaults : Bool) (s : State) : UnsetOk (resetCleared defaults s) := by
  refine (sampleAll_works _).unsetOk ?_
  cases defaults with
  | false => exact fun _ => ⟨rfl, rfl, rfl⟩
  | true =>
    have hcontent : UnsetOk ((resetOutbox (resetTables s)).withContent StoredContent.defaults) := fun _ => ⟨rfl, rfl, rfl⟩
    exact (markChanged_works _).unsetOk hcontent

theorem changeMask_unsetOk (x : Source) (v : Bool) {s : State} (k : UnsetOk s) : UnsetOk (changeMask x v s) := by
  have hmasked : UnsetOk (s.changing fun u => u.setMask x v) := (noteChange_works _ (s.setMask x v)).unsetOk k
  cases x with
  | edge e => exact hmasked
  | level l =>
    cases v with
    | true => exact hmasked
    | false => exact (sample_works _ l).unsetOk hmasked

/-- No owner's write makes a booking or, while the clock is unset, a viewer hold. -/
theorem OwnWrite.unsetOk {s t : State} (h : OwnWrite s t) (k : UnsetOk s) : UnsetOk t := by
  cases h with
  | start p => exact start_unsetOk s p
  | stop powered resetLow h => exact fun _ => ⟨rfl, rfl, rfl⟩
  | clock v => exact fun hclock => nomatch (show true = false from hclock)
  | configure t enabled mask => exact configure_unsetOk t enabled mask k
  | view t h set =>
    have hclock : (s.withTuner t { s.tuner t with hold := some h }).clockSet = true := by cases t <;> exact set
    exact fun hunset => absurd (hunset.symm.trans hclock) Bool.false_ne_true
  | acknowledge l h => exact (sample_works _ l).unsetOk k
  | mask x v => exact changeMask_unsetOk x v k
  | beginSave => exact setImageState_unsetOk _ k
  | capture i => exact setImageState_unsetOk _ k
  | writeImage => exact setImageState_unsetOk _ k
  | cleared defaults => exact resetCleared_unsetOk defaults s
  | _ => exact k

/-! ### Nothing left to be taken at once (R90) -/

/-- Where nothing waited to be taken at once, nothing waits. -/
def Settles (s t : State) : Prop := s.agenda = [] → t.agenda = []

namespace Settles

theorem refl (s : State) : Settles s s := id

theorem trans {s t u : State} (h : Settles s t) (k : Settles t u) : Settles s u := k ∘ h

theorem of_eq {s t : State} (h : t.agenda = s.agenda) : Settles s t := h.trans

theorem settled (s t : State) : Settles s (settle t) := fun _ => settle_agenda t

theorem orRefuse {s : State} {c : Prop} [Decidable c] {r : RefuseReason} {w : State × Answer} (h : Settles s w.1) :
    Settles s (if c then refuse s r else w).1 := by
  split
  · exact .refl s
  · exact h

end Settles

/-! ### What does not touch the agenda -/

theorem sample_agenda (s : State) (l : LevelSource) : (s.sample l).agenda = s.agenda := by rw [sample_eq]

theorem sampleAll_agenda (s : State) : s.sampleAll.agenda = s.agenda := by
  simp only [State.sampleAll, sample_agenda]

theorem setImageState_agenda (s : State) (st : ImageState) : (s.setImageState st).agenda = s.agenda := by
  rw [setImageState_eq]

theorem noteChange_agenda (c : StoredContent) (t : State) : (State.noteChange c t).agenda = t.agenda := by
  rw [noteChange_eq]

theorem changing_settles {s : State} {f : State → State} (h : (f s).agenda = s.agenda) : Settles s (s.changing f) :=
  .of_eq ((noteChange_agenda _ _).trans h)

theorem spacePart_agenda (s : State) : (spacePart s).agenda = s.agenda := sample_agenda _ _

theorem setGuideFull_agenda (s : State) (v : Bool) : (s.setGuideFull v).agenda = s.agenda := by rw [setGuideFull_eq]

theorem withTuner_agenda (s : State) (t : TunerId) (x : Tuner) : (s.withTuner t x).agenda = s.agenda := by cases t <;> rfl

/-! ### Starting, stopping, the line -/

theorem start_agenda (s : State) (p : Straps) : (s.start p).agenda = [] := by
  refine (sampleAll_agenda _).trans ?_
  unfold State.loadImage
  split <;> rfl

theorem powerUp_settles (p : Straps) (s : State) : Settles s (powerUp p s) := by
  unfold powerUp
  split
  · exact fun _ => rfl
  · exact fun _ => start_agenda s p

theorem resetPinWork_settles (e : ResetPinEvent) (s : State) : Settles s (resetPinWork e s) := by
  cases e with
  | low => exact fun _ => rfl
  | release p =>
    simp only [resetPinWork]
    split
    · split
      · exact fun _ => start_agenda s p
      · exact fun _ => rfl
    · exact .refl s

theorem advance_settles (s : State) : Settles s (advance s) := by
  unfold advance
  split <;> exact .of_eq rfl

theorem onLine_settles (s : State) (f : LineInterface → LineInterface) : Settles s (s.onLine f) := by
  unfold State.onLine
  split <;> exact .of_eq rfl

theorem respond_agenda (kind : Byte) (d : Dest) (w : State × Answer) : (respond kind d w).agenda = w.1.agenda := by
  cases d <;> rfl

/-- A message leaves nothing behind that its owner does not. -/
theorem message_settles {α : Type} {owner : α → State → State × Answer} (h : ∀ a u, Settles u (owner a u).1)
    (i : Instr) (d : Dest) (b : Body α) (s : State) : Settles s (message i d b owner s) := by
  intro hs
  unfold message
  split
  · cases b with
    | fields a => exact (respond_agenda _ _ _).trans (h a _ (arrive_agenda i d hs))
    | badLength p => exact (respond_agenda _ _ _).trans (arrive_agenda i d hs)
  · exact hs

/-! ### Settings, QUERY and RESET -/

theorem overrunChanged_settles (b : Nat) (s : State) : Settles s (overrunChanged b s) := by
  unfold overrunChanged
  split
  · exact .settled _ _
  · exact .refl s

theorem settingEffect_settles (id : Nat) (b : Settings) (s : State) : Settles s (settingEffect id b s) := by
  unfold settingEffect
  split
  case h_4 => exact overrunChanged_settles _ s
  case h_14 => exact .of_eq (spacePart_agenda s)
  case h_15 => exact .of_eq (spacePart_agenda s)
  case h_16 => exact .refl s
  all_goals exact .settled _ _

theorem setSetting_settles (id : Nat) (v : List Int) (s : State) : Settles s (setSetting id v s) := by
  unfold setSetting
  split
  · exact .refl s
  · exact (changing_settles (f := fun t => { t with settings := t.settings.put id v }) rfl).trans
      (settingEffect_settles _ _ _)

theorem paramSetWork_settles (a : ParamSetArgs) (s : State) : Settles s (paramSetWork a s).1 := by
  unfold paramSetWork
  refine Settles.orRefuse ?_
  split
  · exact .refl s
  · split
    · exact .refl s
    · exact setSetting_settles _ _ s

theorem paramGetWork_settles (a : Byte) (s : State) : Settles s (paramGetWork a s).1 := by
  unfold paramGetWork
  split <;> exact .refl s

theorem queryWork_settles (d : Dest) (x : Unit) (s : State) : Settles s (queryWork d x s).1 := by
  cases d <;> exact .of_eq rfl

theorem resetMessage_settles (d : Dest) (b : Body Byte) (s : State) : Settles s (resetMessage d b s) := by
  unfold resetMessage
  split
  · split
    · exact fun _ => settle_agenda _
    · exact .refl s
  · exact message_settles (fun _ u => .refl u) _ d b s

/-! ### Bookings -/

theorem bookCancelWork_settles (w : Word16) (s : State) : Settles s (bookCancelWork w s).1 := by
  unfold bookCancelWork
  refine Settles.orRefuse ?_
  split
  · exact .refl s
  · exact Settles.orRefuse (.settled _ _)

theorem bookStopWork_settles (w : Word16) (s : State) : Settles s (bookStopWork w s).1 := by
  unfold bookStopWork
  refine Settles.orRefuse ?_
  split
  · exact .refl s
  · split
    · exact .settled _ _
    · exact .refl s

theorem spaceWork_settles (w : Word32) (s : State) : Settles s (spaceWork w s).1 := .of_eq (spacePart_agenda _)

theorem holdWork_settles (b : Byte) (s : State) : Settles s (holdWork b s).1 := by
  unfold holdWork
  split
  · exact .refl s
  · split
    · exact .refl s
    · split <;> exact .settled _ _

theorem earlyEndAtConfirm_settles (n : Nat) (s : State) : Settles s (earlyEndAtConfirm n s) := by
  unfold earlyEndAtConfirm
  split
  · split
    · exact .settled _ _
    · exact .refl s
  · exact .refl s

theorem confirmed_agenda (b : Booking) (s : State) : (confirmed b s).agenda = [] :=
  earlyEndAtConfirm_settles _ _ (settle_agenda _)

theorem confirmMessage_settles (a : ConfirmArgs) (s : State) : Settles s (confirmMessage a s).1 := by
  unfold confirmMessage
  refine Settles.orRefuse ?_
  split
  · exact .refl s
  · split
    · split
      · exact fun _ => confirmed_agenda _ s
      · exact .settled _ _
    · exact .refl s

/-! ### CLOCK -/

theorem replanIf_settles (large : Prop) [Decidable large] (s : State) : Settles s (replanIf large s) := by
  unfold replanIf
  split
  · exact .settled _ _
  · exact .refl s

theorem clockStep_settles (v : Nat) (s : State) : Settles s (clockStep v s) := by
  cases hc : stepClass s.clockSet s.present v with
  | none => rw [clockStep_none hc]; exact .refl s
  | first => rw [clockStep_first hc]; exact .settled _ _
  | forward => rw [clockStep_forward hc]; exact (Settles.settled s _).trans (replanIf_settles _ _)
  | backward =>
    rw [clockStep_backward hc]
    have hback : Settles s (steppedBack v s) := .of_eq rfl
    exact hback.trans (replanIf_settles _ _)

theorem clockWork_settles (w : Word32) (s : State) : Settles s (clockWork w s).1 := by
  unfold clockWork
  split
  · exact clockStep_settles _ s
  · exact .refl s

/-! ### The guide -/

theorem guideOpenWork_settles (a : GuideOpenArgs) (s : State) : Settles s (guideOpenWork a s).1 := by
  unfold guideOpenWork
  split
  · exact fun hs => closeStream_agenda hs
  · exact .refl s

theorem insertEntry_agenda (e : GuidePutEntry) (s : State) : (insertEntry e s).agenda = s.agenda := by
  unfold insertEntry
  split <;> rfl

theorem putEntry_agenda (w : StreamWindow) (e : GuidePutEntry) (s : State) : (putEntry w e s).1.agenda = s.agenda := by
  unfold putEntry
  split
  · rfl
  · split
    · rfl
    · split
      · rfl
      · split
        · simp only []
          split <;> rfl
        · split
          · exact insertEntry_agenda e s
          · split
            · split
              · exact insertEntry_agenda e _
              · exact setGuideFull_agenda s true
            · exact setGuideFull_agenda s true

theorem putEntries_agenda (w : StreamWindow) (es : List GuidePutEntry) (s : State) (c : PutCounts) :
    (putEntries w es s c).1.agenda = s.agenda := by
  induction es generalizing s c with
  | nil => rfl
  | cons e es ih => exact (ih _ _).trans (putEntry_agenda w e s)

theorem guidePutWork_settles (a : GuidePutArgs) (s : State) : Settles s (guidePutWork a s).1 := by
  unfold guidePutWork
  split
  · exact .refl s
  · exact .of_eq (putEntries_agenda _ _ s _)

theorem guideFlushWork_settles (a : GuideFlushArgs) (s : State) : Settles s (guideFlushWork a s).1 := by
  unfold guideFlushWork
  refine Settles.orRefuse ?_
  simp only [accept]
  split
  · exact .refl s
  · exact .settled _ _

/-- Of the finishes of one message so far: what they bring at once is left to the group's step 8 (R133). -/
def LeftToClose (w : GroupWork) : Prop := w.any = true ∨ w.state.agenda = []

theorem finishOf_leftToClose (ending : State → Booking → Option (Ending × Option Reason)) {w : GroupWork}
    (h : LeftToClose w) (n : Nat) : LeftToClose (finishOf ending w n) := by
  unfold finishOf
  split
  · exact h
  · split
    · exact h
    · exact .inl rfl

theorem handStatus_leftToClose {w : GroupWork} (h : LeftToClose w) (n : Nat) : LeftToClose (handStatus w n) := by
  unfold handStatus
  split
  · exact h
  · split
    · split
      · exact h
      · split
        · exact finishOf_leftToClose _ (.inr (settle_agenda _)) _
        · exact .inr (settle_agenda _)
    · exact h

theorem foldl_handStatus_leftToClose (ns : List Nat) {w : GroupWork} (h : LeftToClose w) :
    LeftToClose (ns.foldl handStatus w) := by
  induction ns generalizing w with
  | nil => exact h
  | cons n ns ih => exact ih (handStatus_leftToClose h n)

theorem handRunning_settles (slot : Nat) (s : State) : Settles s (handRunning slot s) := by
  intro hs
  rw [handRunning_eq]
  split
  · exact settle_agenda _
  · rename_i hnone
    exact (foldl_handStatus_leftToClose _ (w := ⟨s, false, false⟩) (.inr hs)).resolve_left hnone

theorem changeStatus_settles (st : RunningStatus) (e : GuideEntry) (s : State) : Settles s (changeStatus st e s) := by
  have hwritten : Settles s (s.mapEntry e.slot (writeStatus st)) := .of_eq rfl
  unfold changeStatus
  simp only []
  split
  · exact hwritten
  · exact hwritten.trans (handRunning_settles _ _)

theorem runningWork_settles (a : RunningArgs) (s : State) : Settles s (runningWork a s).1 := by
  unfold runningWork
  split
  · exact .refl s
  · refine Settles.orRefuse ?_
    split
    · exact .refl s
    · split
      · exact .refl s
      · exact changeStatus_settles _ _ s

/-! ### Host power -/

theorem greetWork_settles (x : Unit) (s : State) : Settles s (greetWork x s).1 := fun _ => settle_agenda _

theorem restWork_settles (x : Unit) (s : State) : Settles s (restWork x s).1 := by
  unfold restWork
  exact Settles.orRefuse (Settles.orRefuse (.settled _ _))

/-! ### The stored image -/

theorem storeSaveWork_settles (x : Unit) (s : State) : Settles s (storeSaveWork x s).1 := by
  unfold storeSaveWork
  exact Settles.orRefuse (.of_eq (setImageState_agenda _ _))

theorem eraseDone_settles (s : State) : Settles s (eraseDone s) := by
  unfold eraseDone
  split
  · exact .of_eq (setImageState_agenda _ _)
  · exact .refl s

theorem writeDone_settles (s : State) : Settles s (writeDone s) := by
  unfold writeDone
  split
  · exact .settled _ _
  · exact .refl s

/-! ### The outbox, the alert table and the panel -/

theorem popItem_settles (s : State) : Settles s (popItem s).2 := by
  unfold popItem
  split <;> exact .of_eq rfl

theorem handTaken_settles (x : Directive) (s : State) : Settles s (handTaken x s) := by
  cases x with
  | beginRec f =>
    unfold handTaken beginTaken
    simp only []
    split
    · exact .settled _ _
    · exact .refl s
  | endRec _ _ _ => exact .refl s
  | yieldTuner _ _ => exact .refl s

theorem takeWork_settles (d : Dest) (x : Unit) (s : State) : Settles s (takeWork d x s).1 := by
  cases d with
  | broadcast => exact .refl s
  | own =>
    unfold takeWork
    simp only []
    split
    · exact (popItem_settles s).trans (handTaken_settles _ _)
    · exact popItem_settles s
    · exact popItem_settles s

theorem alertAckWork_settles (b : Byte) (s : State) : Settles s (alertAckWork b s).1 := by
  unfold alertAckWork
  split
  · exact .refl s
  · exact .refl s
  · split
    · exact .refl s
    · exact .of_eq (sample_agenda _ _)

theorem changeMask_settles (x : Source) (v : Bool) (s : State) : Settles s (changeMask x v s) := by
  have hmasked : Settles s (s.changing fun u => u.setMask x v) := changing_settles rfl
  cases x with
  | edge e => exact hmasked
  | level l =>
    cases v with
    | true => exact hmasked
    | false => exact hmasked.trans (.of_eq (sample_agenda _ l))

theorem alertMaskWork_settles (a : AlertMaskArgs) (s : State) : Settles s (alertMaskWork a s).1 := by
  unfold alertMaskWork
  split
  · refine Settles.orRefuse ?_
    split
    · exact .refl s
    · exact changeMask_settles _ _ s
  · exact .refl s

theorem attnEnableWork_settles (b : Byte) (s : State) : Settles s (attnEnableWork b s).1 := by
  unfold attnEnableWork
  split
  · exact .refl s
  · exact Settles.orRefuse (changing_settles (f := fun u => u.setAttn _) rfl)

theorem panelStageWork_settles (a : PanelStageArgs) (s : State) : Settles s (panelStageWork a s).1 := by
  unfold panelStageWork
  refine Settles.orRefuse ?_
  split
  · exact changing_settles (f := fun u => u.stage _ _) rfl
  · exact .refl s

theorem panelSetWork_settles (b : Byte) (s : State) : Settles s (panelSetWork b s).1 := by
  unfold panelSetWork
  split <;> exact .of_eq rfl

/-! ### Requests -/

theorem reqAddWork_settles (a : ReqAddArgs) (s : State) : Settles s (reqAddWork a s).1 := by
  unfold reqAddWork
  refine Settles.orRefuse ?_
  split
  · exact .refl s
  · refine Settles.orRefuse (Settles.orRefuse (Settles.orRefuse ?_))
    split
    · exact .refl s
    · exact .settled _ _

theorem editAccepted_settles (b : ReqEditBody) (r : Request) (s : State) : Settles s (editAccepted b r s).1 := by
  have hput : Settles s (s.changing fun u => u.mapRequest r.number fun _ => editedRequest b r) := changing_settles rfl
  unfold editAccepted
  simp only []
  split
  · exact .refl s
  · simp only [accept]
    split
    · exact .settled _ _
    · exact hput

theorem reqEditWork_settles (a : ReqEditArgs) (s : State) : Settles s (reqEditWork a s).1 := by
  unfold reqEditWork
  refine Settles.orRefuse (Settles.orRefuse ?_)
  split
  · exact .refl s
  · exact Settles.orRefuse (Settles.orRefuse (Settles.orRefuse (Settles.orRefuse (Settles.orRefuse
      (editAccepted_settles _ _ s)))))

theorem removeWaiting_settles (n : Nat) (s : State) : Settles s (removeWaiting n s) := by
  rw [removeWaiting_eq]; exact .of_eq rfl

theorem passIfRemoved_settles (n : Nat) (s : State) : Settles s (passIfRemoved n s) := by
  unfold passIfRemoved
  split
  · exact .refl s
  · exact .settled _ _

theorem dropRequest_agenda (n : Nat) (s : State) : (dropRequest n s).agenda = s.agenda := by
  unfold dropRequest
  split <;> rfl

theorem dropFound_settles (r : Request) (s : State) : Settles s (dropFound r s).1 := by
  unfold dropFound
  split
  · exact .refl s
  · exact ((removeWaiting_settles _ s).trans (changing_settles (dropRequest_agenda _ _))).trans
      (passIfRemoved_settles _ _)

theorem pauseFound_settles (r : Request) (s : State) : Settles s (pauseFound r s).1 := by
  unfold pauseFound
  split
  · exact .refl s
  · exact .refl s
  · exact ((removeWaiting_settles _ s).trans (changing_settles rfl)).trans (passIfRemoved_settles _ _)

theorem resumeFound_settles (r : Request) (s : State) : Settles s (resumeFound r s).1 := by
  unfold resumeFound
  split
  · exact .refl s
  · exact .refl s
  · exact .settled _ _

/-- A message that names a request leaves nothing behind that the work on the request found does not. -/
theorem onRequest_settles {f : Request → State → State × Answer} (h : ∀ r u, Settles u (f r u).1) (n : Byte) (s : State) :
    Settles s (onRequest f n s).1 := by
  unfold onRequest
  refine Settles.orRefuse (Settles.orRefuse ?_)
  split
  · exact .refl s
  · exact h _ s

theorem reqReadWork_settles (a : ReqReadArgs) (s : State) : Settles s (reqReadWork a s).1 := by
  unfold reqReadWork
  refine Settles.orRefuse ?_
  split
  · exact .refl s
  · simp only []
    split <;> exact .refl s

/-! ### Services, tuners and viewer holds -/

theorem svcPutWork_settles (a : SvcPutArgs) (s : State) : Settles s (svcPutWork a s).1 := by
  unfold svcPutWork
  refine Settles.orRefuse (Settles.orRefuse ?_)
  split
  · exact Settles.orRefuse (.settled _ _)
  · refine Settles.orRefuse ?_
    split
    · exact .refl s
    · exact .settled _ _

theorem svcDropWork_settles (w : Word16) (s : State) : Settles s (svcDropWork w s).1 := by
  unfold svcDropWork
  exact Settles.orRefuse (Settles.orRefuse (Settles.orRefuse (Settles.orRefuse (.settled _ _))))

theorem svcReadWork_settles (w : Word16) (s : State) : Settles s (svcReadWork w s).1 := by
  unfold svcReadWork
  exact Settles.orRefuse (.refl s)

theorem tunerCfgWork_settles (a : TunerCfgArgs) (s : State) : Settles s (tunerCfgWork a s).1 := by
  unfold tunerCfgWork
  refine Settles.orRefuse ?_
  split
  · unfold tunerCfgJudged
    refine Settles.orRefuse ?_
    split
    · exact .refl s
    · exact .settled _ _
  · exact .refl s

theorem viewJudged_settles (t : TunerId) (v : Service) (s : State) : Settles s (viewJudged t v s).1 := by
  unfold viewJudged
  refine Settles.orRefuse ?_
  split
  · exact .refl s
  · exact .settled _ _

theorem viewOnWork_settles (a : ViewOnArgs) (s : State) : Settles s (viewOnWork a s).1 := by
  unfold viewOnWork
  refine Settles.orRefuse ?_
  split
  · exact .refl s
  · refine Settles.orRefuse ?_
    split
    · exact .refl s
    · exact viewJudged_settles _ _ s

theorem viewOffWork_settles (i : Byte) (s : State) : Settles s (viewOffWork i s).1 := by
  unfold viewOffWork
  split
  · exact .refl s
  · split
    · exact .settled _ _
    · exact .refl s

/-! ### The step -/

theorem expire_settles (d : Due) (s : State) : Settles s (expire d s) := by
  unfold expire
  split
  · exact .settled _ _
  · exact .refl s

/-- Every command works its agenda off. -/
theorem exec_settles (i : Instr) (s : State) : ∃ t, exec i s = .next t ∧ Settles s t := by
  have expired := fun d => expire_settles d s
  cases i with
  | powerOn p => exact ⟨_, rfl, powerUp_settles p s⟩
  | resetPin e => exact ⟨_, rfl, resetPinWork_settles e s⟩
  | powerLoss => exact ⟨_, rfl, fun _ => rfl⟩
  | presentAdvance => exact ⟨_, rfl, advance_settles s⟩
  | assemblyTimeout lead => exact ⟨_, rfl, onLine_settles s _⟩
  | deselection lead x => exact ⟨_, rfl, onLine_settles s _⟩
  | impossibleLength d len => exact ⟨_, rfl, onLine_settles s _⟩
  | replyComplete => exact ⟨_, rfl, onLine_settles s _⟩
  | badCheckMessage d => exact ⟨_, rfl, message_settles (fun _ u => .refl u) _ d _ s⟩
  | unknownKindMessage d => exact ⟨_, rfl, message_settles (fun _ u => .refl u) _ d _ s⟩
  | greet d b => exact ⟨_, rfl, message_settles greetWork_settles _ d b s⟩
  | rest d b => exact ⟨_, rfl, message_settles restWork_settles _ d b s⟩
  | clock d b => exact ⟨_, rfl, message_settles clockWork_settles _ d b s⟩
  | query d b => exact ⟨_, rfl, message_settles (queryWork_settles d) _ d b s⟩
  | paramSet d b => exact ⟨_, rfl, message_settles paramSetWork_settles _ d b s⟩
  | paramGet d b => exact ⟨_, rfl, message_settles paramGetWork_settles _ d b s⟩
  | reset d b => exact ⟨_, rfl, resetMessage_settles d b s⟩
  | svcPut d b => exact ⟨_, rfl, message_settles svcPutWork_settles _ d b s⟩
  | svcDrop d b => exact ⟨_, rfl, message_settles svcDropWork_settles _ d b s⟩
  | svcRead d b => exact ⟨_, rfl, message_settles svcReadWork_settles _ d b s⟩
  | tunerCfg d b => exact ⟨_, rfl, message_settles tunerCfgWork_settles _ d b s⟩
  | viewOn d b => exact ⟨_, rfl, message_settles viewOnWork_settles _ d b s⟩
  | viewOff d b => exact ⟨_, rfl, message_settles viewOffWork_settles _ d b s⟩
  | guideOpen d b => exact ⟨_, rfl, message_settles guideOpenWork_settles _ d b s⟩
  | guidePut d b => exact ⟨_, rfl, message_settles guidePutWork_settles _ d b s⟩
  | guideFlush d b => exact ⟨_, rfl, message_settles guideFlushWork_settles _ d b s⟩
  | running d b => exact ⟨_, rfl, message_settles runningWork_settles _ d b s⟩
  | reqAdd d b => exact ⟨_, rfl, message_settles reqAddWork_settles _ d b s⟩
  | reqEdit d b => exact ⟨_, rfl, message_settles reqEditWork_settles _ d b s⟩
  | reqDrop d b => exact ⟨_, rfl, message_settles (onRequest_settles dropFound_settles) _ d b s⟩
  | reqPause d b => exact ⟨_, rfl, message_settles (onRequest_settles pauseFound_settles) _ d b s⟩
  | reqResume d b => exact ⟨_, rfl, message_settles (onRequest_settles resumeFound_settles) _ d b s⟩
  | reqRead d b => exact ⟨_, rfl, message_settles reqReadWork_settles _ d b s⟩
  | bookRead d b => exact ⟨_, rfl, message_settles (fun _ u => .refl u) _ d b s⟩
  | bookCancel d b => exact ⟨_, rfl, message_settles bookCancelWork_settles _ d b s⟩
  | bookStop d b => exact ⟨_, rfl, message_settles bookStopWork_settles _ d b s⟩
  | space d b => exact ⟨_, rfl, message_settles spaceWork_settles _ d b s⟩
  | hold d b => exact ⟨_, rfl, message_settles holdWork_settles _ d b s⟩
  | take d b => exact ⟨_, rfl, message_settles (takeWork_settles d) _ d b s⟩
  | confirm d b => exact ⟨_, rfl, message_settles confirmMessage_settles _ d b s⟩
  | alertAck d b => exact ⟨_, rfl, message_settles alertAckWork_settles _ d b s⟩
  | alertMask d b => exact ⟨_, rfl, message_settles alertMaskWork_settles _ d b s⟩
  | attnEnable d b => exact ⟨_, rfl, message_settles attnEnableWork_settles _ d b s⟩
  | panelStage d b => exact ⟨_, rfl, message_settles panelStageWork_settles _ d b s⟩
  | panelSet d b => exact ⟨_, rfl, message_settles panelSetWork_settles _ d b s⟩
  | storeSave d b => exact ⟨_, rfl, message_settles storeSaveWork_settles _ d b s⟩
  | storeQuery d b => exact ⟨_, rfl, message_settles (fun _ u => .refl u) _ d b s⟩
  | eraseComplete => exact ⟨_, rfl, eraseDone_settles s⟩
  | writeComplete => exact ⟨_, rfl, writeDone_settles s⟩
  | agingScan => exact ⟨_, rfl, expired .scan⟩
  | windowStart n => exact ⟨_, rfl, expired (.windowStart n)⟩
  | lateLimit n => exact ⟨_, rfl, expired (.lateLimit n)⟩
  | takeDeadline n => exact ⟨_, rfl, expired (.takeDeadline n)⟩
  | confirmTimer n => exact ⟨_, rfl, expired (.confirmTimer n)⟩
  | provisionalEnd n => exact ⟨_, rfl, expired (.provisionalEnd n)⟩
  | wakeExpiry => exact ⟨_, rfl, expired .wake⟩
  | wakeTimeout => exact ⟨_, rfl, expired .wakeTimer⟩
  | warningExpiry t => exact ⟨_, rfl, expired (.warning t)⟩

theorem step_settles {s t : State} (h : step s = .next t) : Settles s t := by
  unfold step at h
  split at h
  · cases h; exact .refl s
  · rename_i i rest _
    obtain ⟨u, hu, hsettles⟩ := exec_settles i { s with pending := rest }
    rw [hu] at h
    cases h
    exact hsettles

/-- Settles O60: a step is made of work and of the owners' writes, and neither makes a booking or a hold while the clock is
unset; every command works its agenda off before it ends. -/
theorem stepKeepsUnsetEmptyAndSettled : Obligations.StepKeepsUnsetEmptyAndSettled :=
  ⟨fun _ _ k h => (step_does h).keeps (fun _ _ hw => hw.unsetOk) (fun _ _ hw => hw.unsetOk) k,
    fun _ _ hs h => step_settles h hs⟩

end Sys2Proof.Machine

/-! PROOFS. SPACE and the space part (R107 to R109). -/

namespace Sys2Proof.Machine

/-! ### The space part (R108, R109) -/

/-- What a placed booking adds to the running sum (R108). -/
def sizeAdded (s : State) (b : Booking) : Nat := if b.isPlaced then sizeInMB s b else 0

/-- A booking with its flag written, the running sum being `sum` (R109). -/
def flagged (m sum : Nat) (b : Booking) : Booking :=
  if b.state = some .planned ∨ b.state = some .late then { b with spaceShort := decide (m < sum) }
  else if b.state = some .clashed then { b with spaceShort := false }
  else b

theorem flagSpace_cons {s : State} {m : Nat} (h : budget s = some m) (sum : Nat) (b : Booking) (bs : List Booking) :
    flagSpace s sum (b :: bs) = flagged m (sum + sizeAdded s b) b :: flagSpace s (sum + sizeAdded s b) bs := by
  have hsum : (if b.isPlaced then sum + sizeInMB s b else sum) = sum + sizeAdded s b := by
    unfold sizeAdded; split <;> rfl
  simp only [flagSpace, h, hsum, flagged]

/-- Each booking is flagged by the sum of the sizes up to it. -/
theorem flagSpace_getElem? {s : State} {m : Nat} (h : budget s = some m) (bs : List Booking) (sum i : Nat) :
    (flagSpace s sum bs)[i]? = bs[i]?.map (flagged m (sum + ((bs.take (i + 1)).map (sizeAdded s)).sum)) := by
  induction bs generalizing sum i with
  | nil => rfl
  | cons b bs ih =>
    rw [flagSpace_cons h]
    cases i with
    | zero => simp
    | succ i => simp only [List.getElem?_cons_succ, ih, List.take_succ_cons, List.map_cons, List.sum_cons, Nat.add_assoc]

/-- A flag is no part of what a booking's size is made of. -/
theorem sizeAdded_flagged (s : State) (m sum : Nat) (b : Booking) : sizeAdded s (flagged m sum b) = sizeAdded s b := by
  unfold flagged
  split
  · rfl
  · split <;> rfl

theorem flagSpace_sizes {s : State} {m : Nat} (h : budget s = some m) (bs : List Booking) (sum : Nat) :
    (flagSpace s sum bs).map (sizeAdded s) = bs.map (sizeAdded s) := by
  induction bs generalizing sum with
  | nil => rfl
  | cons b bs ih => rw [flagSpace_cons h, List.map_cons, List.map_cons, sizeAdded_flagged, ih]

/-- The space part writes the flags and reports their count. -/
theorem spacePart_plan (s : State) : (spacePart s).plan = { s.plan with bookings := flagSpace s 0 s.plan.bookings } := by
  unfold spacePart State.reportSpace
  rw [sample_eq]; rfl

theorem flaggedCount_congr {s t : State} (h : t.plan.bookings = s.plan.bookings) : flaggedCount t = flaggedCount s := by
  unfold flaggedCount; rw [h]

theorem spacePart_spaceCount (s : State) : (spacePart s).alerts.spaceCount = flaggedCount (spacePart s) := by
  have hcount : flaggedCount (spacePart s) = flaggedCount (s.withBookings (flagSpace s 0 s.plan.bookings)) :=
    flaggedCount_congr (by rw [spacePart_plan]; rfl)
  rw [hcount]
  unfold spacePart State.reportSpace
  rw [sample_eq]

/-- Work that keeps what stands keeps the sizes. -/
theorem sizeAdded_standing {s t : State} (h : t.standing = s.standing) : sizeAdded t = sizeAdded s := by
  have hpresent : t.present = s.present := congrArg Standing.present h
  have hservices : t.services = s.services := congrArg Standing.services h
  have hsettings : t.settings = s.settings := congrArg Standing.settings h
  funext b
  simp only [sizeAdded, sizeInMB, remainingSeconds, State.service?, hpresent, hservices, hsettings]

/-! ### A booking's size (R108) -/

theorem isRunning_iff (b : Booking) : b.isRunning = true
    ↔ b.state = some .due ∨ b.state = some .starting ∨ b.state = some .recording := by
  simp [Booking.isRunning, or_assoc]

theorem remainingSeconds_eq (s : State) (b : Booking) : remainingSeconds s b
    = (if b.state = some .due ∨ b.state = some .starting ∨ b.state = some .recording then b.provEnd else b.winEnd)
      - max b.winStart s.present := by
  simp only [remainingSeconds, isRunning_iff]

/-- The size is the remaining time's at its service's rate, rounded up to whole MB. -/
theorem sizeInMB_roundsUp {s : State} {b : Booking} {v : Service} (h : s.service? b.channel = some v) :
    ∃ rest, rest < 1000
      ∧ remainingSeconds s b * s.settings.rateClass.getD v.rateClass 0 + rest = 1000 * sizeInMB s b := by
  simp only [sizeInMB, h]
  generalize remainingSeconds s b * s.settings.rateClass.getD v.rateClass 0 = kb
  exact ⟨1000 * ((kb + 999) / 1000) - kb, by omega, by omega⟩

/-! ### SPACE (R107) -/

/-- The free-space figure as SPACE writes it. -/
def withFreeSpace (v : Nat) (u : State) : State := { u with plan := { u.plan with freeSpace := some v } }

theorem budget_withFreeSpace (v : Nat) (u : State) : budget (withFreeSpace v u) = some (v - u.settings.spaceReserve) := rfl

theorem totalSize_eq (s : State) : totalSize s = (s.plan.bookings.map (sizeAdded s)).sum := rfl

theorem totalSize_spacePart {s : State} {m : Nat} (h : budget s = some m) : totalSize (spacePart s) = totalSize s := by
  rw [totalSize_eq, totalSize_eq, sizeAdded_standing (spacePart_works s).standing, spacePart_plan, flagSpace_sizes h]

theorem spaceWork_eq (w : Word32) (u : State) :
    spaceWork w u = accept (spacePart (withFreeSpace w.toNat u)) (.space (w.toNat - u.settings.spaceReserve)
      (u.plan.bookings.map (sizeAdded u)).sum (flaggedCount (spacePart (withFreeSpace w.toNat u)))) := by
  have hbudget : budget (spacePart (withFreeSpace w.toNat u)) = some (w.toNat - u.settings.spaceReserve) := by
    rw [budget, spacePart_plan, (spacePart_works _).settings]; rfl
  have htotal := totalSize_spacePart (budget_withFreeSpace w.toNat u)
  have htold : spaceTold w.toNat u = spacePart (withFreeSpace w.toNat u) := rfl
  simp only [spaceWork, htold, hbudget, htotal]
  rfl

/-- Settles O36: the space part on the state with the new figure, and the size as rounded up. -/
theorem spaceFlagsInListOrder : Obligations.SpaceFlagsInListOrder := by
  refine ⟨?space, ?size⟩
  case space =>
    intro d w s hr hk c u sizes m
    have hsettings : u.settings = s.settings := arrive_settings c d s
    have hbudget : budget (withFreeSpace w.toNat u) = some m := by rw [budget_withFreeSpace, hsettings]
    refine ⟨spacePart (withFreeSpace w.toNat u), (spacePart_works _).standing, fun i => ?_, spacePart_spaceCount _, ?_⟩
    · rw [spacePart_plan]
      refine (flagSpace_getElem? hbudget _ 0 i).trans ?_
      rw [Nat.zero_add]
      rfl
    · have hwork := spaceWork_eq w u
      rw [hsettings] at hwork
      exact exec_accepted rfl hr hk hwork
  case size =>
    intro s b stop seconds
    refine ⟨fun v hv => ?_, rfl⟩
    have hsize := sizeInMB_roundsUp hv
    rwa [remainingSeconds_eq] at hsize

end Sys2Proof.Machine

/-! PROOFS. Rank, fit and the choice of a place, in the statement's words (R93 to R98). -/

namespace Sys2Proof.Machine

/-! ### Rank (R95) -/

theorem before_iff (x y : Ranked) : x.before y = true ↔ (y.tier < x.tier ∨ (x.tier = y.tier
    ∧ ((x.isHold = false ∧ y.isHold = true) ∨ (x.isHold = y.isHold ∧ (y.loss < x.loss ∨ (x.loss = y.loss
      ∧ (x.winStart < y.winStart ∨ (x.winStart = y.winStart ∧ x.number < y.number)))))))) := by
  unfold Ranked.before
  by_cases htier : x.tier = y.tier
  · by_cases hloss : x.loss = y.loss
    · by_cases hstart : x.winStart = y.winStart
      · cases hx : x.isHold <;> cases hy : y.isHold <;> simp [htier, hloss, hstart]
      · cases hx : x.isHold <;> cases hy : y.isHold <;> simp [htier, hloss, hstart]
    · cases hx : x.isHold <;> cases hy : y.isHold <;> simp [htier, hloss]
  · simp [htier]

/-- The rank order as an order of numbers, a hold counting as one and anything else as nought. -/
theorem before_iff_keys (x y : Ranked) : x.before y = true ↔ (y.tier < x.tier ∨ (x.tier = y.tier
    ∧ (x.isHold.toNat < y.isHold.toNat ∨ (x.isHold.toNat = y.isHold.toNat ∧ (y.loss < x.loss ∨ (x.loss = y.loss
      ∧ (x.winStart < y.winStart ∨ (x.winStart = y.winStart ∧ x.number < y.number)))))))) := by
  rw [before_iff]
  cases x.isHold <;> cases y.isHold <;> simp

theorem before_asymm (x y : Ranked) (h : x.before y = true) : y.before x = false := by
  rw [Bool.eq_false_iff, Ne, before_iff_keys]
  rw [before_iff_keys] at h
  omega

theorem before_negTrans (x y z : Ranked) (h : x.before y = false) (k : y.before z = false) : x.before z = false := by
  rw [Bool.eq_false_iff, Ne, before_iff_keys] at h k ⊢
  omega

theorem rankedCandidates_ordered (s : State) : (rankedCandidates s).Pairwise (fun x y => y.before x = false) :=
  sortBy_ordered before_asymm before_negTrans _

/-- Of two candidates in rank order the first has no lower tier. -/
theorem tier_le_of_ordered {x y : Ranked} (h : y.before x = false) : y.tier ≤ x.tier := by
  rw [Bool.eq_false_iff, Ne, before_iff, not_or] at h
  exact Nat.not_lt.mp h.1

/-- A hold that a booking or portion follows in rank order has a higher tier. -/
theorem tier_lt_of_hold {x y : Ranked} (h : y.before x = false) (hx : x.isHold = true) (hy : y.isHold = false) :
    y.tier < x.tier := by
  refine (tier_le_of_ordered h).lt_of_ne fun htier => ?_
  have hbefore : y.before x = true := (before_iff y x).mpr (.inr ⟨htier, .inl ⟨hy, hx⟩⟩)
  exact Bool.false_ne_true (h.symm.trans hbefore)

/-! ### Fit (R96) -/

theorem overlaps_iff (e : Extent) (a z : Nat) : e.overlaps a z = true
    ↔ e.start < z ∧ a < z ∧ ∀ y, e.stop = some y → a < y := by
  unfold Extent.overlaps
  cases e.stop with
  | none => simp
  | some y => simp only [Bool.and_eq_true, decide_eq_true_eq, Option.some.injEq, forall_eq']; tauto

/-- An extent meets a need's fit interval on a tuner. -/
def Extent.meets (e : Extent) (x : TunerId) (n : Need) : Prop :=
  e.tuner = x ∧ e.start < n.stop ∧ n.start < n.stop ∧ ∀ z, e.stop = some z → n.start < z

theorem meets_iff (e : Extent) (x : TunerId) (n : Need) :
    e.meets x n ↔ e.tuner = x ∧ e.overlaps n.start n.stop = true := by
  rw [overlaps_iff]; rfl

theorem slotBlocked_iff (xs : List Extent) (x : TunerId) (n : Need) (k : Nat) :
    slotBlocked xs x n k = true ↔ ∃ e ∈ xs, e.meets x n ∧ e.slot = k := by
  simp only [slotBlocked, List.any_eq_true, Bool.and_eq_true, beq_iff_eq, meets_iff]
  exact exists_congr fun e => and_congr_right fun _ => by tauto

theorem multiplexBlocked_iff (xs : List Extent) (x : TunerId) (n : Need) :
    multiplexBlocked xs x n = true ↔ ∃ e ∈ xs, e.meets x n ∧ e.multiplex ≠ n.multiplex := by
  simp only [multiplexBlocked, List.any_eq_true, Bool.and_eq_true, beq_iff_eq, bne_iff_ne, meets_iff]

theorem carries_iff (xs : List Extent) (x : TunerId) (n : Need) :
    carries xs n x = true ↔ ∃ e ∈ xs, e.meets x n ∧ e.multiplex = n.multiplex := by
  simp only [carries, List.any_eq_true, Bool.and_eq_true, beq_iff_eq, meets_iff]
  exact exists_congr fun e => and_congr_right fun _ => by tauto

/-- The first of the three slots with a property. -/
theorem find?_slots_iff {p : Nat → Bool} {k : Nat} :
    [0, 1, 2].find? p = some k ↔ k ≤ 2 ∧ p k = true ∧ ∀ j < k, p j = false := by
  constructor
  · intro h
    obtain ⟨i, hi, hle, hp, hleast⟩ := find?_slots ⟨k, mem_slots_iff.mp (List.mem_of_find?_eq_some h), List.find?_some h⟩
    obtain rfl : i = k := Option.some.inj (hi.symm.trans h)
    exact ⟨hle, hp, hleast⟩
  · rintro ⟨hle, hp, hleast⟩
    obtain ⟨i, hi, -, hpi, hleasti⟩ := find?_slots ⟨k, hle, hp⟩
    rcases Nat.lt_trichotomy i k with hlt | rfl | hlt
    · exact absurd ((hleast i hlt).symm.trans hpi) Bool.false_ne_true
    · exact hi
    · exact absurd ((hleasti k hlt).symm.trans hp) Bool.false_ne_true

theorem fitSlot_iff (s : State) (xs : List Extent) (n : Need) (x : TunerId) (k : Nat) :
    fitSlot s xs n x = some k ↔ n.start < n.stop ∧ (s.tuner x).enabled = true
      ∧ (s.tuner x).mask.getLsbD n.network = true ∧ (∀ e ∈ xs, e.meets x n → e.multiplex = n.multiplex)
      ∧ k ≤ 2 ∧ (∀ e ∈ xs, e.meets x n → e.slot ≠ k) ∧ ∀ j < k, ¬ ∀ e ∈ xs, e.meets x n → e.slot ≠ j := by
  have hfree : ∀ j, (!slotBlocked xs x n j) = true ↔ ∀ e ∈ xs, e.meets x n → e.slot ≠ j := fun j => by
    rw [Bool.not_eq_true', Bool.eq_false_iff, Ne, slotBlocked_iff]
    push Not
    rfl
  have hmux : (!multiplexBlocked xs x n) = true ↔ ∀ e ∈ xs, e.meets x n → e.multiplex = n.multiplex := by
    rw [Bool.not_eq_true', Bool.eq_false_iff, Ne, multiplexBlocked_iff]
    push Not
    rfl
  unfold fitSlot
  split
  · rename_i h
    simp only [Bool.and_eq_true, decide_eq_true_eq, Tuner.reaches, hmux] at h
    obtain ⟨⟨hlt, hon, hmask⟩, hm⟩ := h
    simp only [find?_slots_iff, hfree, ← Bool.not_eq_true, hlt, hon, hmask, true_and]
    tauto
  · rename_i h
    simp only [Bool.and_eq_true, decide_eq_true_eq, Tuner.reaches, hmux] at h
    simp only [reduceCtorEq, false_iff]
    tauto

/-! ### The choice of a place (R97, R98) -/

section
variable {s : State} {xs : List Extent} {n : Need}

theorem choosePlace_a {k : Nat} (ha : fitSlot s xs n .a = some k)
    (h : carries xs n .a = true ∨ carries xs n .b = false ∨ fitSlot s xs n .b = none) :
    choosePlace s xs n = some ⟨.a, k⟩ := by
  unfold choosePlace
  rw [ha]
  cases hb : fitSlot s xs n .b with
  | none => rfl
  | some j =>
    refine if_neg fun hcarries => ?_
    rw [Bool.and_eq_true, Bool.not_eq_true'] at hcarries
    rcases h with h | h | h
    · exact Bool.false_ne_true (hcarries.2.symm.trans h)
    · exact Bool.false_ne_true (h.symm.trans hcarries.1)
    · rw [hb] at h; cases h

theorem choosePlace_b {k : Nat} (hb : fitSlot s xs n .b = some k)
    (h : fitSlot s xs n .a = none ∨ (carries xs n .b = true ∧ carries xs n .a = false)) :
    choosePlace s xs n = some ⟨.b, k⟩ := by
  unfold choosePlace
  rw [hb]
  cases ha : fitSlot s xs n .a with
  | none => rfl
  | some i =>
    obtain ⟨hcb, hca⟩ := h.resolve_left (by rw [ha]; exact Option.some_ne_none i)
    exact if_pos (by rw [hcb, hca]; rfl)

theorem choosePlace_none_iff :
    choosePlace s xs n = none ↔ fitSlot s xs n .a = none ∧ fitSlot s xs n .b = none := by
  unfold choosePlace
  split <;> rename_i ha hb
  · rw [ha, hb]; split <;> simp
  all_goals rw [ha, hb]; simp

/-- A place chosen is one that fits. -/
theorem fitSlot_of_choosePlace {p : Place} (h : choosePlace s xs n = some p) : fitSlot s xs n p.tuner = some p.slot := by
  unfold choosePlace at h
  split at h <;> rename_i ha hb
  · split at h <;> cases h
    · exact hb
    · exact ha
  · cases h; exact ha
  · cases h; exact hb
  · cases h

theorem tryPlace_some {claims : List Extent} {p : Place} (h : choosePlace s (xs ++ claims) n = some p) :
    tryPlace s xs claims n = some p := by
  unfold tryPlace; rw [h]

theorem tryPlace_none {claims : List Extent} (h : choosePlace s (xs ++ claims) n = none) :
    tryPlace s xs claims n = choosePlace s xs n := by
  unfold tryPlace; rw [h]

end

/-! ### What a fit means for the extents laid (R96) -/

/-- A need fits a place among some extents: the tuner carries it and nothing that meets it stands in the way. -/
structure Fits (s : State) (xs : List Extent) (n : Need) (p : Place) : Prop where
  nonempty : n.start < n.stop
  enabled : (s.tuner p.tuner).enabled = true
  carries : (s.tuner p.tuner).mask.getLsbD n.network = true
  slot : p.slot ≤ 2
  multiplex : ∀ e ∈ xs, e.meets p.tuner n → e.multiplex = n.multiplex
  free : ∀ e ∈ xs, e.meets p.tuner n → e.slot ≠ p.slot

section
variable {s : State} {xs ys : List Extent} {n : Need}

theorem Fits.of_subset {p : Place} (h : Fits s ys n p) (hsub : xs ⊆ ys) : Fits s xs n p :=
  ⟨h.nonempty, h.enabled, h.carries, h.slot, fun e he => h.multiplex e (hsub he), fun e he => h.free e (hsub he)⟩

theorem fits_of_choosePlace {p : Place} (h : choosePlace s xs n = some p) : Fits s xs n p := by
  obtain ⟨hlt, hon, hmask, hmux, hle, hfree, -⟩ := (fitSlot_iff _ _ _ _ _).mp (fitSlot_of_choosePlace h)
  exact ⟨hlt, hon, hmask, hle, hmux, hfree⟩

theorem fits_of_tryPlace {claims : List Extent} {p : Place} (h : tryPlace s xs claims n = some p) : Fits s xs n p := by
  unfold tryPlace at h
  split at h
  · rename_i hfirst
    cases h
    exact (fits_of_choosePlace hfirst).of_subset (List.subset_append_left _ _)
  · exact fits_of_choosePlace h

/-- Where a need fits some place, a place is chosen. -/
theorem choosePlace_isSome {p : Place} (h : Fits s xs n p) : choosePlace s xs n ≠ none := by
  intro hnone
  obtain ⟨ha, hb⟩ := choosePlace_none_iff.mp hnone
  have hno : fitSlot s xs n p.tuner = none := by cases hp : p.tuner <;> assumption
  have hslot : ∃ k ≤ 2, (!slotBlocked xs p.tuner n k) = true := by
    refine ⟨p.slot, h.slot, ?_⟩
    rw [Bool.not_eq_true', Bool.eq_false_iff, Ne, slotBlocked_iff]
    rintro ⟨e, he, hm, hs⟩
    exact h.free e he hm hs
  obtain ⟨k, -, hle, hk, hleast⟩ := find?_slots hslot
  have hblocked : ∀ j, (!slotBlocked xs p.tuner n j) = true ↔ ∀ e ∈ xs, e.meets p.tuner n → e.slot ≠ j := fun j => by
    rw [Bool.not_eq_true', Bool.eq_false_iff, Ne, slotBlocked_iff]
    push Not
    rfl
  have hfit := (fitSlot_iff s xs n p.tuner k).mpr ⟨h.nonempty, h.enabled, h.carries, h.multiplex, hle, (hblocked k).mp hk,
    fun j hj hall => Bool.false_ne_true ((hleast j hj).symm.trans ((hblocked j).mpr hall))⟩
  rw [hno] at hfit
  cases hfit

/-- What fits nowhere fits nowhere among more extents. -/
theorem choosePlace_none_of_subset (h : choosePlace s xs n = none) (hsub : xs ⊆ ys) : choosePlace s ys n = none := by
  cases hc : choosePlace s ys n with
  | none => rfl
  | some p => exact absurd h (choosePlace_isSome ((fits_of_choosePlace hc).of_subset hsub))

/-- Why a need with a fit interval fits nowhere: on each tuner that carries it another multiplex or all three slots stand
in the way (R96). -/
theorem blocked_of_choosePlace (h : choosePlace s xs n = none) (hn : n.start < n.stop) {x : TunerId}
    (hon : (s.tuner x).enabled = true) (hmask : (s.tuner x).mask.getLsbD n.network = true) :
    (∃ e ∈ xs, e.meets x n ∧ e.multiplex ≠ n.multiplex) ∨ ∀ k ≤ 2, ∃ e ∈ xs, e.meets x n ∧ e.slot = k := by
  by_contra hfree
  push Not at hfree
  obtain ⟨hmux, k, hk, hslot⟩ := hfree
  exact choosePlace_isSome (p := ⟨x, k⟩) ⟨hn, hon, hmask, hk, hmux, hslot⟩ h

theorem placeFor_some {claims : List Extent} {channel : Nat} {p : Place} (h : placeFor s xs claims channel n = some p) :
    s.hasService channel = true ∧ Fits s xs n p := by
  unfold placeFor at h
  split at h
  · rename_i hs; exact ⟨hs, fits_of_tryPlace h⟩
  · cases h

theorem placeFor_none {claims : List Extent} {channel : Nat} (h : placeFor s xs claims channel n = none)
    (hs : s.hasService channel = true) : choosePlace s xs n = none := by
  rw [placeFor, if_pos hs] at h
  unfold tryPlace at h
  split at h
  · cases h
  · exact h

end

end Sys2Proof.Machine

/-! PROOFS. Extents that stand in each other's way, and the candidates of a pass (R93 to R95, R99, R100). -/

namespace Sys2Proof.Machine

/-! ### Extents in each other's way (R96, R99, R100) -/

/-- An extent covers an instant. -/
def Extent.covers (x : Extent) (i : Nat) : Prop := x.start ≤ i ∧ ∀ z, x.stop = some z → i < z

/-- Two extents are on one tuner and name different multiplexes or one slot. -/
def Extent.against (x y : Extent) : Prop := x.tuner = y.tuner ∧ (x.multiplex ≠ y.multiplex ∨ x.slot = y.slot)

/-- At no instant do two extents stand in each other's way. -/
def Extent.Apart (x y : Extent) : Prop := x.against y → ∀ i, x.covers i → ¬ y.covers i

theorem Extent.against_symm {x y : Extent} (h : x.against y) : y.against x :=
  ⟨h.1.symm, h.2.imp Ne.symm Eq.symm⟩

theorem Extent.Apart.symm {x y : Extent} (h : x.Apart y) : y.Apart x := fun ha i hy hx => h (Extent.against_symm ha) i hx hy

/-- What covers an instant of a need's fit interval meets it. -/
theorem meets_of_covers {e : Extent} {n : Need} {x : TunerId} {i : Nat} (hx : e.tuner = x) (he : e.covers i)
    (hlo : n.start ≤ i) (hhi : i < n.stop) : e.meets x n :=
  ⟨hx, he.1.trans_lt hhi, hlo.trans_lt hhi, fun z hz => hlo.trans_lt (he.2 z hz)⟩

/-- Where a need fits, its extent stands in nothing's way. -/
theorem Fits.apart {s : State} {xs : List Extent} {n : Need} {p : Place} (h : Fits s xs n p) (m : Nat) {e : Extent}
    (he : e ∈ xs) : e.Apart (placedExtent p n m) := by
  rintro ⟨htuner, hway⟩ i hcovers ⟨hlo, hhi⟩
  have hmeets := meets_of_covers htuner hcovers hlo (hhi _ rfl)
  exact hway.elim (fun hne => hne (h.multiplex e he hmeets)) (h.free e he hmeets)

/-- What the search for a conflict asks of the times of a laid extent. -/
theorem conflictTimes_iff (y : Extent) (a : Nat) (stop : Option Nat) :
    (match stop with
      | some z => y.overlaps a z
      | none => (match y.stop with
        | some e => decide (a < e)
        | none => true)) = true
      ↔ (∀ z, stop = some z → y.start < z ∧ a < z) ∧ ∀ e, y.stop = some e → a < e := by
  cases stop with
  | some z => simp only [overlaps_iff, Option.some.injEq, forall_eq', and_assoc]
  | none => cases y.stop <;> simp

/-- What an extent to be settled may meet among those laid. -/
theorem mem_conflicts {laid : List Extent} {x : Extent} {i : Nat} {c : Claimant} :
    (i, c) ∈ laid.filterMap (fun y =>
      if y.tuner == x.tuner && (y.multiplex != x.multiplex || y.slot == x.slot)
          && (match x.stop with
            | some z => y.overlaps x.start z
            | none => (match y.stop with
              | some e => decide (x.start < e)
              | none => true)) then
        some (max y.start x.start, y.claimant)
      else none)
      ↔ ∃ y ∈ laid, y.against x ∧ ((∀ z, x.stop = some z → y.start < z ∧ x.start < z) ∧ ∀ e, y.stop = some e → x.start < e)
        ∧ max y.start x.start = i ∧ y.claimant = c := by
  rw [List.mem_filterMap]
  refine exists_congr fun y => and_congr_right fun _ => ?_
  rw [Option.ite_none_right_eq_some, Bool.and_eq_true, Bool.and_eq_true, conflictTimes_iff, Bool.or_eq_true, bne_iff_ne,
    beq_iff_eq, beq_iff_eq, Option.some.injEq, Prod.mk.injEq]
  exact and_assoc

theorem firstConflict_none {laid : List Extent} {x : Extent}
    (h : firstConflict laid x.tuner x.slot x.multiplex x.start x.stop = none) : ∀ y ∈ laid, y.Apart x := by
  intro y hy hagainst i hyi hxi
  have hnone := (firstBy_eq_none _ _).mp h
  have hmem := mem_conflicts.mpr ⟨y, hy, hagainst, ⟨fun z hz => ⟨hyi.1.trans_lt (hxi.2 z hz), hxi.1.trans_lt (hxi.2 z hz)⟩,
    fun e he => hxi.1.trans_lt (hyi.2 e he)⟩, rfl, rfl⟩
  exact List.not_mem_nil (hnone ▸ hmem)

/-- The first conflict of an extent among those laid: an instant of it, with what stands in its way there (R99, R100). -/
structure FirstConflict (laid : List Extent) (x : Extent) (i : Nat) (c : Claimant) : Prop where
  found : ∃ y ∈ laid, y.against x ∧ y.claimant = c ∧ i = max y.start x.start ∧ y.covers i
  start : x.start ≤ i
  stop : ∀ z, x.stop = some z → i < z
  least : ∀ y ∈ laid, y.against x → ∀ j, y.covers j → x.covers j → i ≤ j

theorem firstConflict_some {laid : List Extent} {x : Extent} {i : Nat} {c : Claimant}
    (h : firstConflict laid x.tuner x.slot x.multiplex x.start x.stop = some (i, c))
    (hne : ∀ y ∈ laid, ∀ z, y.stop = some z → y.start < z) : FirstConflict laid x i c := by
  obtain ⟨hmem, hleast⟩ := firstBy_spec (before := fun x y : Nat × Claimant => decide (x.1 < y.1))
    (fun _ => decide_eq_false (Nat.lt_irrefl _)) (fun _ _ h => by simp at h ⊢; omega)
    (fun _ _ _ h k => by simp at h k ⊢; omega) h
  obtain ⟨y, hy, hagainst, ⟨hlo, hhi⟩, rfl, rfl⟩ := mem_conflicts.mp hmem
  refine ⟨⟨y, hy, hagainst, rfl, rfl, le_max_left _ _, fun z hz => max_lt (hne y hy z hz) (hhi z hz)⟩, le_max_right _ _,
    fun z hz => max_lt (hlo z hz).1 (hlo z hz).2, fun v hv hvx j hvj hxj => ?_⟩
  have hother := hleast _ (mem_conflicts.mpr ⟨v, hv, hvx, ⟨fun z hz => ⟨hvj.1.trans_lt (hxj.2 z hz),
    hxj.1.trans_lt (hxj.2 z hz)⟩, fun e he => hxj.1.trans_lt (hvj.2 e he)⟩, rfl, rfl⟩)
  exact (Nat.not_lt.mp (of_decide_eq_false hother)).trans (max_le hvj.1 hxj.1)

/-- An extent ended at its first conflict stands in nothing's way. -/
theorem FirstConflict.apart {laid : List Extent} {x : Extent} {i : Nat} {c : Claimant} (h : FirstConflict laid x i c)
    {y : Extent} (hy : y ∈ laid) : y.Apart { x with stop := some i } := by
  intro hagainst j hyj hxj
  have hji : j < i := hxj.2 i rfl
  have hcovers : x.covers j := ⟨hxj.1, fun z hz => hji.trans (h.stop z hz)⟩
  exact Nat.not_lt.mpr (h.least y hy hagainst j hyj hcovers) hji

/-! ### The candidates and their ranks (R94, R95) -/

def bookingRank (s : State) (b : Booking) : Ranked :=
  ⟨b.tier, false, s.lossOf b.request, b.winStart, b.number, .booking b.number⟩

def overrunRank (s : State) (b : Booking) : Ranked :=
  ⟨b.tier, false, s.lossOf b.request, b.winStart, b.number, .overrun b.number⟩

def holdRank (s : State) (x : TunerId) : Ranked := ⟨s.settings.viewerTier, true, 0, 0, tunerIndex x, .hold x⟩

theorem candidatesOf_eq (s : State) (b : Booking) : candidatesOf s b
    = (if isCandidate s b then [bookingRank s b] else [])
      ++ if (overrunExtent s b).isSome then [overrunRank s b] else [] := rfl

theorem mem_candidatesOf {s : State} {b : Booking} {c : Ranked} : c ∈ candidatesOf s b
    ↔ (isCandidate s b = true ∧ c = bookingRank s b) ∨ ((overrunExtent s b).isSome = true ∧ c = overrunRank s b) := by
  rw [candidatesOf_eq, List.mem_append, List.mem_ite_nil_right, List.mem_ite_nil_right, List.mem_singleton,
    List.mem_singleton]

theorem holdCandidate_eq (s : State) (x : TunerId) :
    holdCandidate s x = if (s.tuner x).hold.isSome then [holdRank s x] else [] := rfl

theorem mem_holdCandidate {s : State} {x : TunerId} {c : Ranked} :
    c ∈ holdCandidate s x ↔ (s.tuner x).hold.isSome = true ∧ c = holdRank s x := by
  rw [holdCandidate_eq, List.mem_ite_nil_right, List.mem_singleton]

/-- What a candidate of a pass is: an open booking, an overrun portion or a hold. -/
theorem mem_rankedCandidates {s : State} {c : Ranked} : c ∈ rankedCandidates s
    ↔ (∃ b ∈ s.plan.bookings, isCandidate s b = true ∧ c = bookingRank s b)
      ∨ (∃ b ∈ s.plan.bookings, (overrunExtent s b).isSome = true ∧ c = overrunRank s b)
      ∨ ∃ x, (s.tuner x).hold.isSome = true ∧ c = holdRank s x := by
  unfold rankedCandidates
  rw [(sortBy_perm _ _).mem_iff]
  simp only [List.mem_append, List.mem_flatten, List.mem_map, mem_holdCandidate]
  constructor
  · rintro ((⟨_, ⟨b, hb, rfl⟩, hc⟩ | hc) | hc)
    · rcases mem_candidatesOf.mp hc with h | h
      · exact .inl ⟨b, hb, h⟩
      · exact .inr (.inl ⟨b, hb, h⟩)
    · exact .inr (.inr ⟨_, hc⟩)
    · exact .inr (.inr ⟨_, hc⟩)
  · rintro (⟨b, hb, h⟩ | ⟨b, hb, h⟩ | ⟨x, h⟩)
    · exact .inl (.inl ⟨_, ⟨b, hb, rfl⟩, mem_candidatesOf.mpr (.inl h)⟩)
    · exact .inl (.inl ⟨_, ⟨b, hb, rfl⟩, mem_candidatesOf.mpr (.inr h)⟩)
    · cases x with
      | a => exact .inl (.inr h)
      | b => exact .inr h

/-- A booking whose overrun portion is a candidate is RECORDING, past its planned end. -/
theorem overrunExtent_some {s : State} {b : Booking} {x : Extent} (h : overrunExtent s b = some x) :
    ∃ p, b.place = some p ∧ b.state = some .recording ∧ b.winEnd < b.provEnd ∧ s.present < b.provEnd
      ∧ x = ⟨p.tuner, p.slot, s.multiplexOf b.channel, max b.winEnd s.present, some b.provEnd, .booking b.number⟩ := by
  unfold overrunExtent at h
  split at h
  · rename_i p hp
    split at h
    · rename_i hcond
      cases h
      exact ⟨p, hp, hcond.1, hcond.2.1, hcond.2.2, rfl⟩
    · cases h
  · cases h

theorem fixedExtent_some {s : State} {b : Booking} {x : Extent} (h : fixedExtent s b = some x) :
    ∃ p, b.isHeld = true ∧ b.place = some p ∧ s.present < min b.winEnd b.provEnd
      ∧ x = ⟨p.tuner, p.slot, s.multiplexOf b.channel, s.present, some (min b.winEnd b.provEnd), .booking b.number⟩ := by
  unfold fixedExtent at h
  split at h
  · rename_i p hheld hp
    simp only at h
    split at h
    · cases h
    · rename_i hlt
      cases h
      exact ⟨p, hheld, hp, Nat.not_le.mp hlt, rfl⟩
  · cases h

theorem fixedExtent_of_held {s : State} {b : Booking} {p : Place} (hheld : b.isHeld = true) (hp : b.place = some p)
    (hlt : s.present < min b.winEnd b.provEnd) : fixedExtent s b
      = some ⟨p.tuner, p.slot, s.multiplexOf b.channel, s.present, some (min b.winEnd b.provEnd), .booking b.number⟩ := by
  unfold fixedExtent
  rw [hheld, hp]
  exact if_neg (Nat.not_le.mpr hlt)

theorem isCandidate_iff (s : State) (b : Booking) :
    isCandidate s b = true ↔ b.isOpen = true ∧ (s.present < b.winEnd ∨ b.state = none) := by
  simp [isCandidate]

/-- A RECORDING booking is held, not open. -/
theorem isHeld_of_recording {b : Booking} (h : b.state = some .recording) : b.isHeld = true := by
  simp [Booking.isHeld, h]

/-! ### Each booking and each hold is a candidate once -/

/-- What a candidate is of: a booking or a tuner's hold. -/
def Candidate.subject : Candidate → Nat ⊕ TunerId
  | .booking n => .inl n
  | .overrun n => .inl n
  | .hold x => .inr x

def Ranked.subject (c : Ranked) : Nat ⊕ TunerId := c.candidate.subject

@[simp] theorem subject_bookingRank (s : State) (b : Booking) : (bookingRank s b).subject = .inl b.number := rfl
@[simp] theorem subject_overrunRank (s : State) (b : Booking) : (overrunRank s b).subject = .inl b.number := rfl
@[simp] theorem subject_holdRank (s : State) (x : TunerId) : (holdRank s x).subject = .inr x := rfl

/-- An open booking has no overrun portion. -/
theorem overrunExtent_of_open {s : State} {b : Booking} (h : b.isOpen = true) : overrunExtent s b = none := by
  cases hx : overrunExtent s b with
  | none => rfl
  | some x =>
    obtain ⟨p, -, hrec, -⟩ := overrunExtent_some hx
    exact absurd h ((isHeld_iff_not_isOpen b).mp (isHeld_of_recording hrec))

theorem candidatesOf_subjects (s : State) (b : Booking) :
    (candidatesOf s b).map Ranked.subject = [] ∨ (candidatesOf s b).map Ranked.subject = [.inl b.number] := by
  rw [candidatesOf_eq]
  by_cases hc : isCandidate s b = true
  · rw [if_pos hc, overrunExtent_of_open ((isCandidate_iff s b).mp hc).1]
    exact .inr rfl
  · rw [if_neg hc]
    split
    · exact .inr rfl
    · exact .inl rfl

theorem flatten_candidates_subjects (s : State) (bs : List Booking) :
    (((bs.map (candidatesOf s)).flatten).map Ranked.subject).Sublist (bs.map fun b => Sum.inl b.number) := by
  induction bs with
  | nil => exact List.Sublist.refl _
  | cons b bs ih =>
    rw [List.map_cons, List.flatten_cons, List.map_append, List.map_cons]
    rcases candidatesOf_subjects s b with h | h <;> rw [h]
    · exact ih.cons _
    · exact ih.cons_cons _

theorem rankedCandidates_nodup {s : State} (h : (s.plan.bookings.map Booking.number).Nodup) :
    ((rankedCandidates s).map Ranked.subject).Nodup := by
  have hbookings : (s.plan.bookings.map fun b => (Sum.inl b.number : Nat ⊕ TunerId)).Nodup := by
    have := h.map (f := (Sum.inl : Nat → Nat ⊕ TunerId)) Sum.inl_injective
    rwa [List.map_map] at this
  have hflat := (flatten_candidates_subjects s s.plan.bookings).nodup hbookings
  have hinl : ∀ v ∈ ((s.plan.bookings.map (candidatesOf s)).flatten).map Ranked.subject, ∀ x, v ≠ .inr x := by
    intro v hv x hvx
    obtain ⟨b, -, hb⟩ := List.mem_map.mp ((flatten_candidates_subjects s _).subset hv)
    rw [hvx] at hb
    cases hb
  have hholds : ∀ x, (holdCandidate s x).map Ranked.subject = [] ∨ (holdCandidate s x).map Ranked.subject = [.inr x] := by
    intro x
    rw [holdCandidate_eq]
    split
    · exact .inr rfl
    · exact .inl rfl
  unfold rankedCandidates
  refine (((sortBy_perm _ _).map _).nodup_iff).mpr ?_
  rw [List.map_append, List.map_append]
  have hab : (((s.plan.bookings.map (candidatesOf s)).flatten).map Ranked.subject
      ++ (holdCandidate s .a).map Ranked.subject).Nodup := by
    refine hflat.append ?_ ?_
    · rcases hholds .a with h | h <;> rw [h] <;> simp
    · rcases hholds .a with h | h <;> rw [h]
      · exact List.disjoint_nil_right _
      · exact fun v hv hva => hinl v hv _ (List.mem_singleton.mp hva)
  refine hab.append ?_ ?_
  · rcases hholds .b with h | h <;> rw [h] <;> simp
  · rcases hholds .b with h | h <;> rw [h]
    · exact List.disjoint_nil_right _
    · intro v hv hvb
      have hvb := List.mem_singleton.mp hvb
      rcases List.mem_append.mp hv with hv | hv
      · exact hinl v hv _ hvb
      · rcases hholds .a with h | h <;> rw [h] at hv
        · cases hv
        · rw [List.mem_singleton.mp hv] at hvb; cases hvb

end Sys2Proof.Machine

/-! PROOFS. What one candidate of a pass can do (R97 to R105), said once. -/

namespace Sys2Proof.Machine

/-! ### The frame of step 4 -/

/-- A state with the parts of another that the candidates of a pass may change: the bookings, the counter, the entries' pins,
the notices and their lost count. -/
def State.during (s u : State) : State :=
  { s with
    plan := { s.plan with bookings := u.plan.bookings, counter := u.plan.counter }
    guide := { s.guide with entries := u.guide.entries }
    outbox := { s.outbox with notices := u.outbox.notices, lost := u.outbox.lost } }

/-- A state that the candidates of a pass begun in `s` may reach: nothing else has changed. -/
def During (s u : State) : Prop := u = s.during u

namespace During
variable {s u v : State}

theorem refl (s : State) : During s s := rfl

theorem trans (h : During s u) (k : During u v) : During s v :=
  calc v = u.during v := k
    _ = (s.during u).during v := congrArg (fun x : State => x.during v) (show u = s.during u from h)
    _ = s.during v := rfl

/-- What reads none of the changed parts reads the same. -/
theorem read {α : Type} (h : During s u) (f : State → α) (hf : f (s.during u) = f s) : f u = f s :=
  (congrArg f (show u = s.during u from h)).trans hf

theorem present (h : During s u) : u.present = s.present := h.read State.present rfl
theorem settings (h : During s u) : u.settings = s.settings := h.read State.settings rfl
theorem requests (h : During s u) : u.requests = s.requests := h.read State.requests rfl
theorem alerts (h : During s u) : u.alerts = s.alerts := h.read State.alerts rfl
theorem request? (h : During s u) : u.request? = s.request? := h.read State.request? rfl
theorem need (h : During s u) (b : Booking) : b.need u = b.need s := h.read (fun x => b.need x) rfl
theorem placeFor (h : During s u) : Machine.placeFor u = Machine.placeFor s := h.read Machine.placeFor rfl
theorem partnersOf (h : During s u) : Machine.partnersOf u = Machine.partnersOf s := h.read Machine.partnersOf rfl
theorem findAiring (h : During s u) : Machine.findAiring u = Machine.findAiring s := by
  funext laid claims r es
  induction es with
  | nil => rfl
  | cons e es ih =>
    have hpads : u.settings = s.settings := h.settings
    have hneed : (u.networkOf e.channel, u.multiplexOf e.channel, u.present)
      = (s.networkOf e.channel, s.multiplexOf e.channel, s.present) :=
      h.read (fun x => (x.networkOf e.channel, x.multiplexOf e.channel, x.present)) rfl
    simp only [Prod.mk.injEq] at hneed
    obtain ⟨hnet, hmux, hpresent⟩ := hneed
    simp only [Machine.findAiring, h.placeFor, hpads, hnet, hmux, hpresent, ih]
theorem overrunExtent (h : During s u) : Machine.overrunExtent u = Machine.overrunExtent s :=
  h.read Machine.overrunExtent rfl
theorem holdExtent (h : During s u) : Machine.holdExtent u = Machine.holdExtent s := h.read Machine.holdExtent rfl

end During

theorem joinNotice_during (s : State) (n : Notice) : During s (s.joinNotice n) := by
  unfold During
  conv_lhs => rw [joinNotice_eq]
  have hplan : (s.joinNotice n).plan = s.plan := by rw [joinNotice_eq]
  have hguide : (s.joinNotice n).guide = s.guide := by rw [joinNotice_eq]
  simp only [State.during, hplan, hguide]

theorem edgeEvent_during (s : State) (n : Notice) : During s (s.edgeEvent n) := by
  unfold State.edgeEvent
  split
  · exact .refl s
  · exact joinNotice_during s n

theorem pinDown_during (s : State) (k : OccurrenceKey) : During s (s.pinDown k) := by cases k <;> rfl

theorem enterBooking_during (s : State) (b : Booking) : During s (s.enterBooking b) := by
  unfold State.enterBooking
  cases b.key <;> rfl

theorem withBookings_during (s : State) (bs : List Booking) : During s (s.withBookings bs) := rfl

/-! ### What becomes of a booking -/

def Booking.placedAt (b : Booking) (p : Place) : Booking :=
  { b with state := some .planned, place := some p, partners := [] }

def Booking.clashedWith (b : Booking) (ps : List Nat) : Booking :=
  { b with state := some .clashed, place := none, partners := ps }

def Booking.cutAt (b : Booking) (i : Nat) : Booking := { b with provEnd := i, cut := some .yield }

/-- The need of a candidate airing (R104). -/
def airNeed (s : State) (r : Request) (g : GuideEntry) : Need :=
  let w := windowOf g.start g.duration (prePadOf s.settings r) (postPadOf s.settings r)
  ⟨s.networkOf g.channel, s.multiplexOf g.channel, max w.1 s.present, w.2⟩

/-- The alternate booked in a candidate airing (R105). -/
def alternateOf (s : State) (r : Request) (g : GuideEntry) (p : Place) (n : Nat) : Booking :=
  { newBooking s.settings r (entryOccurrence r.number g) n with
    state := some .planned, place := some p, alternate := true }

/-- A tuner's hold as an extent: from the present to `stop`, or without end. -/
def holdUntil (s : State) (x : TunerId) (h : ViewerHold) (stop : Option Nat) : Extent :=
  ⟨x, h.slot, h.multiplex, s.present, stop, .hold x⟩

/-- The booking number a claimant is reported by. -/
def Claimant.reported : Claimant → Nat
  | .booking m => m
  | .hold _ => 0

def Pass.yield (w : Pass) : TunerId → Option (Nat × Nat)
  | .a => w.yieldA
  | .b => w.yieldB

def Pass.withYield (w : Pass) (x : TunerId) (y : Option (Nat × Nat)) : Pass :=
  match x with
  | .a => { w with yieldA := y }
  | .b => { w with yieldB := y }

/-- A candidate airing as R104 has it. -/
structure Airing (s : State) (es : List GuideEntry) (r : Request) (f : SeriesFields) (id : Nat) (g : GuideEntry) : Prop where
  mem : g ∈ es
  series : g.series = some f.seriesId
  episode : g.episode = some id
  channel : if f.channel = 0 then s.hasService g.channel = true else g.channel = f.channel
  stands : g.withdrawn = false
  unsettled : r.number ∉ g.settled
  unpinned : g.pins = 0
  ahead : s.present < g.start
  near : g.start < horizonEnd s

theorem mem_candidateAirings {s u : State} (h : During s u) {r : Request} {f : SeriesFields} {id : Nat} {g : GuideEntry} :
    g ∈ candidateAirings u r f id ↔ Airing s u.guide.entries r f id g := by
  have hend : (u.hasService g.channel, u.present, horizonEnd u) = (s.hasService g.channel, s.present, horizonEnd s) :=
    h.read (fun x => (x.hasService g.channel, x.present, horizonEnd x)) rfl
  simp only [Prod.mk.injEq] at hend
  obtain ⟨hsvc, hpresent, hhorizon⟩ := hend
  unfold candidateAirings
  rw [(sortBy_perm _ _).mem_iff, List.mem_filter, hsvc, hpresent, hhorizon]
  have hchannel : (if f.channel = 0 then s.hasService g.channel else g.channel == f.channel) = true
      ↔ if f.channel = 0 then s.hasService g.channel = true else g.channel = f.channel := by
    split
    · rfl
    · exact beq_iff_eq
  simp only [Bool.and_eq_true, beq_iff_eq, hchannel, Bool.not_eq_true', List.contains_eq_mem, decide_eq_true_eq,
    decide_eq_false_iff_not]
  constructor
  · rintro ⟨hmem, ⟨⟨⟨⟨⟨⟨hseries, hep⟩, hch⟩, hw⟩, hset⟩, hpins⟩, hahead⟩, hnear⟩
    exact ⟨hmem, hseries, hep, hch, hw, hset, hpins, hahead, hnear⟩
  · rintro ⟨hmem, hseries, hep, hch, hw, hset, hpins, hahead, hnear⟩
    exact ⟨hmem, ⟨⟨⟨⟨⟨⟨hseries, hep⟩, hch⟩, hw⟩, hset⟩, hpins⟩, hahead⟩, hnear⟩

theorem findAiring_some {s : State} {laid claims : List Extent} {r : Request} {es : List GuideEntry} {g : GuideEntry}
    {p : Place} {n : Need} (h : findAiring s laid claims r es = some (g, p, n)) :
    g ∈ es ∧ n = airNeed s r g ∧ s.hasService g.channel = true ∧ Fits s laid n p := by
  induction es with
  | nil => cases h
  | cons e es ih =>
    simp only [findAiring] at h
    split at h
    · rename_i hfit
      cases h
      exact ⟨List.mem_cons_self, rfl, placeFor_some hfit⟩
    · obtain ⟨hmem, hrest⟩ := ih h
      exact ⟨List.mem_cons_of_mem _ hmem, hrest⟩

theorem findAiring_none {s : State} {laid claims : List Extent} {r : Request} {es : List GuideEntry}
    (h : findAiring s laid claims r es = none) {g : GuideEntry} (hg : g ∈ es) (hs : s.hasService g.channel = true) :
    choosePlace s laid (airNeed s r g) = none := by
  induction es with
  | nil => cases hg
  | cons e es ih =>
    simp only [findAiring] at h
    split at h
    · cases h
    · rename_i hnone
      rcases List.mem_cons.mp hg with rfl | hg
      · exact placeFor_none hnone hs
      · exact ih h hg

/-! ### One candidate taken -/

/-- What a candidate taken makes of a pass begun in `s`: `w` before, the state after in the index. Its own booking alone is
changed (`others`), or gives way to its alternate. -/
inductive Taken (s : State) (w : Pass) : Ranked → Pass → Prop
  | placed {b : Booking} {p : Place} {bs : List Booking} (hb : b ∈ s.plan.bookings) (hc : isCandidate s b = true)
      (hsvc : s.hasService b.channel = true) (hfit : Fits s w.laid (b.need s) p)
      (hbs : bs.Perm (b.placedAt p :: others b.number w.state.plan.bookings)) :
      Taken s w (bookingRank s b)
        { w with state := w.state.withBookings bs, laid := w.laid ++ [placedExtent p (b.need s) b.number] }
  | clashed {b : Booking} {bs : List Booking} (hb : b ∈ s.plan.bookings) (hc : isCandidate s b = true)
      (hno : s.hasService b.channel = true → choosePlace s w.laid (b.need s) = none)
      (hair : ∀ r f id g, s.request? b.request = some r → r.kind = .series f → b.episode = some id →
        Airing s w.state.guide.entries r f id g → s.hasService g.channel = true →
        choosePlace s w.laid (airNeed s r g) = none)
      (hbs : bs.Perm (b.clashedWith (partnersOf s w.laid (b.need s)) :: others b.number w.state.plan.bookings)) :
      Taken s w (bookingRank s b)
        { w with
          state := w.state.withBookings bs
          newly := if b.state = some .clashed then w.newly else w.newly ++ [b.number] }
  | replaced {b : Booking} {r : Request} {f : SeriesFields} {id : Nat} {g : GuideEntry} {p : Place} {n : Nat} {u : State}
      {x : EndReport} (hb : b ∈ s.plan.bookings) (hc : isCandidate s b = true) (hr : s.request? b.request = some r)
      (hkind : r.kind = .series f) (hid : b.episode = some id) (hg : Airing s w.state.guide.entries r f id g)
      (hsvc : s.hasService g.channel = true) (hfit : Fits s w.laid (airNeed s r g) p)
      (hfree : n ∉ w.state.plan.bookings.map Booking.number) (hrange : 1 ≤ n ∧ n ≤ Config.maxBookingNumber)
      (hu : During w.state u)
      (hbs : u.plan.bookings.Perm (alternateOf s r g p n :: others b.number w.state.plan.bookings))
      (hcounter : u.plan.counter = nextNumber n)
      (hentries : u.guide.entries = repinned (· + 1) (.guideSlot g.slot) (repinned (· - 1) b.key w.state.guide.entries))
      (hnotices : u.outbox.notices = (w.state.edgeEvent (.bookingEnd x)).outbox.notices) :
      Taken s w (bookingRank s b) { w with state := u, laid := w.laid ++ [placedExtent p (airNeed s r g) n] }
  | ran {b : Booking} {x : Extent} {claims : List Extent} (hb : b ∈ s.plan.bookings) (hx : overrunExtent s b = some x)
      (hfree : ∀ y ∈ w.laid, y.Apart x) :
      Taken s w (overrunRank s b) { w with laid := w.laid ++ [x], claims := claims }
  | cut {b : Booking} {x : Extent} {i : Nat} {c : Claimant} {bs : List Booking} {claims : List Extent}
      (hb : b ∈ s.plan.bookings) (hx : overrunExtent s b = some x) (hfirst : FirstConflict w.laid x i c)
      (hbs : bs.Perm (b.cutAt i :: others b.number w.state.plan.bookings)) :
      Taken s w (overrunRank s b)
        { w with
          state := w.state.withBookings bs
          laid := if x.start < i then w.laid ++ [{ x with stop := some i }] else w.laid
          claims := claims }
  | stood {x : TunerId} {h : ViewerHold} {claims : List Extent} (hh : (s.tuner x).hold = some h)
      (hfree : ∀ y ∈ w.laid, y.Apart (holdUntil s x h none)) :
      Taken s w (holdRank s x) { w with laid := w.laid ++ [holdUntil s x h none], claims := claims }
  | yielded {x : TunerId} {h : ViewerHold} {i : Nat} {c : Claimant} {claims : List Extent} (hh : (s.tuner x).hold = some h)
      (hfirst : FirstConflict w.laid (holdUntil s x h none) i c) :
      Taken s w (holdRank s x)
        ({ w with
          laid := if s.present < i then w.laid ++ [holdUntil s x h (some i)] else w.laid
          claims := claims }.withYield x (some (i, c.reported)))

section
variable {s : State} {w : Pass}

theorem booking?_of_mem {u : State} (h : (u.plan.bookings.map Booking.number).Nodup) {b : Booking}
    (hb : b ∈ u.plan.bookings) : u.booking? b.number = some b := by
  cases hc : u.booking? b.number with
  | none => exact absurd (beq_self_eq_true b.number) (List.find?_eq_none.mp hc b hb)
  | some c =>
    obtain ⟨hmem, hnumber⟩ := booking?_spec hc
    rw [booking_eq_of_number h hmem hb hnumber]

/-- The state of a pass in which a booking has been made CLASHED (R101). -/
def clashedIn (w : Pass) (b : Booking) (n : Need) : State :=
  w.state.mapBooking b.number fun c => c.clashedWith (partnersOf w.state w.laid n)

/-- A clashed booking may have an alternate airing: it has an episode and its request is a SERIES one (R104). -/
structure Offered (w : Pass) (b : Booking) (r : Request) (f : SeriesFields) (id : Nat) : Prop where
  request : w.state.request? b.request = some r
  kind : r.kind = .series f
  episode : b.episode = some id

/-- Without a fitting airing the booking stays CLASHED (R101, R102). -/
theorem clashBooking_stays {b : Booking} {n : Need} (h : ∀ r f id, Offered w b r f id →
      findAiring (clashedIn w b n) w.laid w.claims r (candidateAirings (clashedIn w b n) r f id) = none) :
    clashBooking w b n = { w with
      state := clashedIn w b n
      newly := if b.state = some .clashed then w.newly else w.newly ++ [b.number] } := by
  unfold clashBooking
  simp only []
  split
  · rename_i r id hr hid
    split
    · rename_i f hkind
      have hnone := h r f id ⟨hr, hkind, hid⟩
      split
      · rename_i hsome
        exact absurd (hnone.symm.trans hsome) (by simp)
      · rfl
    · rfl
  · rfl

/-- With a fitting airing it gives way to its alternate (R105). -/
theorem clashBooking_gives_way {b : Booking} {n n' : Need} {r : Request} {f : SeriesFields} {id : Nat} {g : GuideEntry}
    {p : Place} (h : Offered w b r f id)
    (hfound : findAiring (clashedIn w b n) w.laid w.claims r (candidateAirings (clashedIn w b n) r f id) = some (g, p, n')) :
    clashBooking w b n = bookAlternate { w with state := clashedIn w b n, newly := w.newly } r b g p n' := by
  unfold clashBooking
  simp only [h.request, h.kind, h.episode]
  split
  · rename_i hsome
    obtain ⟨rfl, rfl, rfl⟩ : _ ∧ _ ∧ _ := by simpa using hsome.symm.trans hfound
    rfl
  · rename_i hnone
    exact absurd (hnone.symm.trans hfound) (by simp)

theorem others_map_number {n : Nat} {f : Booking → Booking} (hf : ∀ b, (f b).number = b.number) (bs : List Booking) :
    others n (bs.map fun b => if b.number == n then f b else b) = others n bs := by
  induction bs with
  | nil => rfl
  | cons b bs ih =>
    simp only [others, beq_iff_eq] at ih ⊢
    by_cases hb : b.number = n
    · simp [hb, hf, ih]
    · simp [hb, ih]

theorem edgeEvent_outbox_congr {u v : State} (ho : v.outbox = u.outbox) (ha : v.alerts = u.alerts) (n : Notice) :
    (v.edgeEvent n).outbox = (u.edgeEvent n).outbox := by
  unfold State.edgeEvent
  rw [ha]
  split
  · exact ho
  · exact joinNotice_outbox_congr ho n

theorem edgeEvent_guide (u : State) (n : Notice) : (u.edgeEvent n).guide = u.guide := by
  unfold State.edgeEvent
  split
  · rfl
  · rw [joinNotice_eq]

theorem clashBooking_taken (hw : During s w.state) (hn : NumbersOk w.state) {b : Booking} (hb : b ∈ s.plan.bookings)
    (hmem : b ∈ w.state.plan.bookings) (hc : isCandidate s b = true)
    (hno : s.hasService b.channel = true → choosePlace s w.laid (b.need s) = none) :
    Taken s w (bookingRank s b) (clashBooking w b (b.need s)) := by
  have hclashed : During w.state (clashedIn w b (b.need s)) := withBookings_during _ _
  have hnumbers : NumbersOk (clashedIn w b (b.need s)) := (mapBooking_works w.state b.number
    (fun c => c.clashedWith (partnersOf w.state w.laid (b.need s))) fun _ => rfl).numbers hn
  have hothers : others b.number (clashedIn w b (b.need s)).plan.bookings = others b.number w.state.plan.bookings :=
    others_map_number (f := fun c => c.clashedWith (partnersOf w.state w.laid (b.need s))) (fun _ => rfl) _
  have hheld : (clashedIn w b (b.need s)).plan.bookings.map Booking.number = w.state.plan.bookings.map Booking.number :=
    map_map_key _ _ (fun c => by split <;> rfl) _
  have hguide : (clashedIn w b (b.need s)).guide = w.state.guide := rfl
  have houtbox : (clashedIn w b (b.need s)).outbox = w.state.outbox := rfl
  have hperm : (clashedIn w b (b.need s)).plan.bookings.Perm
      (b.clashedWith (partnersOf s w.laid (b.need s)) :: others b.number w.state.plan.bookings) := by
    rw [← hw.partnersOf]; exact mapped_perm_cons_others hn.distinct hmem _
  by_cases hoffer : ∃ r f id, Offered w b r f id ∧ findAiring (clashedIn w b (b.need s)) w.laid w.claims r
      (candidateAirings (clashedIn w b (b.need s)) r f id) ≠ none
  · obtain ⟨r, f, id, hoff, hsome⟩ := hoffer
    obtain ⟨⟨g, p, n'⟩, hfound⟩ := Option.ne_none_iff_exists'.mp hsome
    rw [clashBooking_gives_way hoff hfound]
    rw [(hw.trans hclashed).findAiring] at hfound
    obtain ⟨hg, rfl, hsvc, hfit⟩ := findAiring_some hfound
    have hairing := (mem_candidateAirings (hw.trans hclashed)).mp hg
    obtain ⟨hfree, hrange⟩ := newNumber_spec hnumbers
    rw [hheld] at hfree
    have hsettings := (hw.trans hclashed).settings
    generalize clashedIn w b (b.need s) = u at *
    have hwithout : During u (withoutClashed u b) := ((withBookings_during _ _).trans (pinDown_during _ _)).trans
      (edgeEvent_during _ _)
    refine Taken.replaced (x := ⟨b.number, b.request, .replaced, .replaced, 0, b.begun, u.present, some u.newNumber⟩) hb hc
      (hw.request? ▸ hoff.request) hoff.kind hoff.episode (hguide ▸ hairing) hsvc hfit hfree hrange
      ((hclashed.trans hwithout).trans (enterBooking_during _ _)) ?_ rfl ?_ ?_
    · refine (insertBy_perm _ _ _).trans (List.Perm.of_eq ?_)
      rw [pinUp_plan, ← hothers, ← withoutClashed_bookings, hsettings]
      rfl
    · show ((withoutClashed u b).pinUp (.guideSlot g.slot)).guide.entries = _
      rw [pinUp_entries, ← hguide]
      congr 1
      exact (congrArg GuideStore.entries (edgeEvent_guide _ _)).trans (pinDown_entries _ _)
    · show (withoutClashed u b).outbox.notices = _
      refine congrArg Outbox.notices (edgeEvent_outbox_congr ?_ ?_ _)
      · rw [← houtbox]; cases b.key <;> rfl
      · rw [← hclashed.alerts]; cases b.key <;> rfl
  · push Not at hoffer
    rw [clashBooking_stays hoffer]
    refine Taken.clashed hb hc hno (fun r f id g hr hkind hid hg hsvc => ?_) hperm
    have hnone := hoffer r f id ⟨hw.request? ▸ hr, hkind, hid⟩
    rw [(hw.trans hclashed).findAiring] at hnone
    exact findAiring_none hnone ((mem_candidateAirings (hw.trans hclashed)).mpr (hguide ▸ hg)) hsvc

/-- A booking candidate is placed, made CLASHED, or gives way to an alternate. -/
theorem placeBooking_taken (hw : During s w.state) (hn : NumbersOk w.state) {b : Booking} (hb : b ∈ s.plan.bookings)
    (hmem : b ∈ w.state.plan.bookings) (hc : isCandidate s b = true) :
    Taken s w (bookingRank s b) (placeBooking w b.number) := by
  unfold placeBooking
  rw [booking?_of_mem hn.distinct hmem]
  simp only [hw.need, hw.placeFor]
  split
  · rename_i p hp
    obtain ⟨hsvc, hfit⟩ := placeFor_some hp
    exact Taken.placed hb hc hsvc hfit (mapped_perm_cons_others hn.distinct hmem fun c => c.placedAt p)
  · rename_i hnone
    exact clashBooking_taken hw hn hb hmem hc (placeFor_none hnone)

/-- An overrun portion is laid, or cut at its first conflict. -/
theorem settleOverrun_taken (hw : During s w.state) (hn : NumbersOk w.state) {b : Booking} (hb : b ∈ s.plan.bookings)
    (hmem : b ∈ w.state.plan.bookings) (hx : (overrunExtent s b).isSome = true)
    (hne : ∀ y ∈ w.laid, ∀ z, y.stop = some z → y.start < z) :
    Taken s w (overrunRank s b) (settleOverrun w b.number) := by
  obtain ⟨x, hx⟩ := Option.isSome_iff_exists.mp hx
  unfold settleOverrun
  rw [booking?_of_mem hn.distinct hmem]
  simp only [hw.overrunExtent, hx]
  split
  · rename_i hnone
    exact Taken.ran hb hx (firstConflict_none hnone)
  · rename_i i c hsome
    exact Taken.cut hb hx (firstConflict_some hsome hne) (mapped_perm_cons_others hn.distinct hmem fun c => c.cutAt i)

/-- A hold stands without end, or yields at its first conflict. -/
theorem settleHold_taken (hw : During s w.state) {x : TunerId} (hx : (s.tuner x).hold.isSome = true)
    (hne : ∀ y ∈ w.laid, ∀ z, y.stop = some z → y.start < z) :
    Taken s w (holdRank s x) (settleHold w x) := by
  obtain ⟨h, hh⟩ := Option.isSome_iff_exists.mp hx
  have hextent : holdExtent s x = some (holdUntil s x h none) := by rw [holdExtent, hh]; rfl
  unfold settleHold
  rw [hw.holdExtent, hextent]
  simp only []
  split
  · rename_i hnone
    exact Taken.stood hh (firstConflict_none (x := holdUntil s x h none) hnone)
  · rename_i i c hsome
    have htaken := Taken.yielded (claims := w.claims.filter (fun y => y != holdUntil s x h none)) hh
      (firstConflict_some (x := holdUntil s x h none) hsome hne)
    cases x <;> cases c <;> exact htaken

end

end Sys2Proof.Machine

/-! PROOFS. Step 4 of a pass, candidate by candidate (R93 to R105). -/

namespace Sys2Proof.Machine

/-! ### What one candidate leaves as it was -/

section
variable {s : State} {w v : Pass} {c : Ranked}

@[simp] theorem Pass.withYield_state (w : Pass) (x : TunerId) (y : Option (Nat × Nat)) :
    (w.withYield x y).state = w.state := by cases x <;> rfl

@[simp] theorem Pass.withYield_laid (w : Pass) (x : TunerId) (y : Option (Nat × Nat)) :
    (w.withYield x y).laid = w.laid := by cases x <;> rfl

@[simp] theorem Pass.withYield_newly (w : Pass) (x : TunerId) (y : Option (Nat × Nat)) :
    (w.withYield x y).newly = w.newly := by cases x <;> rfl

@[simp] theorem Pass.withYield_same (w : Pass) (x : TunerId) (y : Option (Nat × Nat)) :
    (w.withYield x y).yield x = y := by cases x <;> rfl

theorem Pass.withYield_other (w : Pass) {x z : TunerId} (y : Option (Nat × Nat)) (h : z ≠ x) :
    (w.withYield x y).yield z = w.yield z := by
  cases x with
  | a => cases z with
    | a => exact absurd rfl h
    | b => rfl
  | b => cases z with
    | a => rfl
    | b => exact absurd rfl h

theorem mem_others {n : Nat} {bs : List Booking} {b : Booking} : b ∈ others n bs ↔ b ∈ bs ∧ b.number ≠ n := by
  simp [others]

/-- The frame of step 4 is kept. -/
theorem Taken.during (h : Taken s w c v) : During w.state v.state := by
  cases h with
  | placed => exact withBookings_during _ _
  | clashed => exact withBookings_during _ _
  | replaced _ _ _ _ _ _ _ _ _ _ hu => exact hu
  | ran => exact .refl _
  | cut => exact withBookings_during _ _
  | stood => exact .refl _
  | yielded => rw [Pass.withYield_state]; exact .refl _

/-- What is laid stays laid. -/
theorem Taken.laid_subset (h : Taken s w c v) : w.laid ⊆ v.laid := by
  cases h with
  | placed => exact List.subset_append_left _ _
  | clashed => exact List.Subset.refl _
  | replaced => exact List.subset_append_left _ _
  | ran => exact List.subset_append_left _ _
  | cut => dsimp only; split; exacts [List.subset_append_left _ _, List.Subset.refl _]
  | stood => exact List.subset_append_left _ _
  | yielded => rw [Pass.withYield_laid]; dsimp only; split; exacts [List.subset_append_left _ _, List.Subset.refl _]

/-- Only the candidate's own booking is changed. -/
theorem Taken.keeps (h : Taken s w c v) {x : Booking} (hx : x ∈ w.state.plan.bookings) (hc : c.subject ≠ .inl x.number) :
    x ∈ v.state.plan.bookings := by
  have hother : ∀ {b new : Booking} {bs : List Booking}, bs.Perm (new :: others b.number w.state.plan.bookings) →
      (Sum.inl b.number : Nat ⊕ TunerId) ≠ .inl x.number → x ∈ bs := fun hbs hne =>
    hbs.mem_iff.mpr (List.mem_cons_of_mem _ (mem_others.mpr ⟨hx, fun hn => hne (congrArg Sum.inl hn.symm)⟩))
  cases h with
  | placed _ _ _ _ hbs => exact hother hbs hc
  | clashed _ _ _ _ hbs => exact hother hbs hc
  | replaced _ _ _ _ _ _ _ _ _ _ _ hbs => exact hother hbs hc
  | ran => exact hx
  | cut _ _ _ hbs => exact hother hbs hc
  | stood => exact hx
  | yielded => rw [Pass.withYield_state]; exact hx

/-- Only a tuner's own hold settles its yield time. -/
theorem Taken.yield (h : Taken s w c v) {x : TunerId} (hc : c.subject ≠ .inr x) : v.yield x = w.yield x := by
  cases h with
  | yielded => exact (Pass.withYield_other _ _ fun hx => hc (congrArg Sum.inr hx.symm)).trans rfl
  | _ => rfl

theorem Taken.newly_subset (h : Taken s w c v) : w.newly ⊆ v.newly := by
  cases h with
  | clashed => dsimp only; split; exacts [List.Subset.refl _, List.subset_append_left _ _]
  | yielded => rw [Pass.withYield_newly]; exact List.Subset.refl _
  | _ => exact List.Subset.refl _

/-- An entry that is unpinned after a candidate, and named by no booking of the pass, was as it is. -/
theorem Taken.entry (h : Taken s w c v) {g : GuideEntry} (hg : g ∈ v.state.guide.entries) (hpins : g.pins = 0)
    (hfree : ∀ b ∈ s.plan.bookings, b.key ≠ .guideSlot g.slot) : g ∈ w.state.guide.entries := by
  cases h with
  | @replaced b r f id a p n u x hb _ _ _ _ _ _ _ _ _ _ _ _ hentries _ =>
    have hdown : g ∈ repinned (· - 1) b.key w.state.guide.entries := by
      rw [hentries] at hg
      obtain ⟨e, he, rfl⟩ := List.mem_map.mp hg
      split at hpins
      · exact absurd hpins (Nat.succ_ne_zero _)
      · rename_i hne; rwa [if_neg hne]
    have hkey := hfree b hb
    cases hk : b.key with
    | localDay d => rw [hk] at hdown; exact hdown
    | guideSlot k =>
      rw [hk] at hdown hkey
      obtain ⟨e, he, rfl⟩ := List.mem_map.mp hdown
      by_cases heq : (e.slot == k) = true
      · rw [if_pos heq] at hkey; exact absurd (congrArg OccurrenceKey.guideSlot (beq_iff_eq.mp heq).symm) hkey
      · rwa [if_neg heq]
  | yielded => rwa [Pass.withYield_state] at hg
  | _ => exact hg

end

/-! ### The numbers stay apart -/

/-- A booking in the place of one of the list's keeps the numbers apart: it has that one's number or a free one. -/
theorem numbers_swapped {u v : State} (h : NumbersOk u) {new : Booking} {m : Nat}
    (hm : m ∈ u.plan.bookings.map Booking.number) (hv : v.plan.bookings.Perm (new :: others m u.plan.bookings))
    (hnew : new.number = m ∨ (new.number ∉ u.plan.bookings.map Booking.number
      ∧ 1 ≤ new.number ∧ new.number ≤ Config.maxBookingNumber))
    (hcounter : 1 ≤ v.plan.counter ∧ v.plan.counter ≤ Config.maxBookingNumber) : NumbersOk v := by
  obtain ⟨b, hb, rfl⟩ := List.mem_map.mp hm
  have hnumbers := hv.map Booking.number
  have hlength : v.plan.bookings.length = u.plan.bookings.length := by
    rw [hv.length_eq, (perm_cons_others h.distinct hb).length_eq]; rfl
  have hfree : new.number ∉ (others b.number u.plan.bookings).map Booking.number := by
    rcases hnew with heq | ⟨hno, -⟩
    · rw [heq]; exact not_mem_others _ _
    · exact fun hmem => hno ((List.filter_sublist.map _).subset hmem)
  refine ⟨hlength.trans_le h.room, hnumbers.nodup_iff.mpr (List.nodup_cons.mpr ⟨hfree, ?_⟩), fun n hn => ?_, hcounter⟩
  · exact (List.filter_sublist.map _).nodup h.distinct
  · rcases List.mem_cons.mp (hnumbers.mem_iff.mp hn) with rfl | hn
    · exact hnew.elim (fun heq => heq ▸ h.numbers _ hm) And.right
    · exact h.numbers n ((List.filter_sublist.map _).subset hn)

theorem Taken.numbers {s : State} {w v : Pass} {c : Ranked} (h : Taken s w c v) (hw : NumbersOk w.state)
    (hwaits : ∀ b ∈ s.plan.bookings, c.subject = .inl b.number → b ∈ w.state.plan.bookings) : NumbersOk v.state := by
  have hmem : ∀ {b : Booking}, b ∈ s.plan.bookings → c.subject = .inl b.number →
      b.number ∈ w.state.plan.bookings.map Booking.number := fun hb hc => List.mem_map_of_mem (hwaits _ hb hc)
  cases h with
  | placed hb _ _ _ hbs => exact numbers_swapped hw (hmem hb rfl) hbs (.inl rfl) hw.counter
  | clashed hb _ _ _ hbs => exact numbers_swapped hw (hmem hb rfl) hbs (.inl rfl) hw.counter
  | replaced hb _ _ _ _ _ _ _ hfree hrange _ hbs hcounter =>
    exact numbers_swapped hw (hmem hb rfl) hbs (.inr ⟨hfree, hrange⟩) (hcounter ▸ nextNumber_range)
  | ran => exact hw
  | cut hb _ _ hbs => exact numbers_swapped hw (hmem hb rfl) hbs (.inl rfl) hw.counter
  | stood => exact hw
  | yielded => rw [Pass.withYield_state]; exact hw

/-! ### The candidates in turn -/

/-- A pass is ready for the candidates still to be taken: their bookings stand as the pass began with them. -/
structure Ready (s : State) (w : Pass) (todo : List Ranked) : Prop where
  during : During s w.state
  numbers : NumbersOk w.state
  waiting : ∀ b ∈ s.plan.bookings, .inl b.number ∈ todo.map Ranked.subject → b ∈ w.state.plan.bookings
  nonempty : ∀ y ∈ w.laid, ∀ z, y.stop = some z → y.start < z
  ranked : ∀ c ∈ todo, c ∈ rankedCandidates s
  once : (todo.map Ranked.subject).Nodup

section
variable {s : State} {w v : Pass} {c : Ranked} {cs : List Ranked}

/-- What is newly laid is not empty. -/
theorem Taken.nonempty (h : Taken s w c v) (hw : ∀ y ∈ w.laid, ∀ z, y.stop = some z → y.start < z) :
    ∀ y ∈ v.laid, ∀ z, y.stop = some z → y.start < z := by
  have hone : ∀ {x : Extent}, (∀ z, x.stop = some z → x.start < z) →
      ∀ y ∈ w.laid ++ [x], ∀ z, y.stop = some z → y.start < z :=
    fun hx y hy => (List.mem_append.mp hy).elim (hw y) fun hyx => List.mem_singleton.mp hyx ▸ hx
  cases h with
  | placed _ _ _ hfit => exact hone fun z hz => by cases hz; exact hfit.nonempty
  | clashed => exact hw
  | replaced _ _ _ _ _ _ _ hfit => exact hone fun z hz => by cases hz; exact hfit.nonempty
  | ran _ hx =>
    obtain ⟨p, -, -, hlt, hpresent, rfl⟩ := overrunExtent_some hx
    exact hone fun z hz => by cases hz; exact max_lt hlt hpresent
  | cut =>
    dsimp only
    split
    · rename_i hlt; exact hone fun z hz => by cases hz; exact hlt
    · exact hw
  | stood => exact hone fun z hz => by cases hz
  | yielded =>
    rw [Pass.withYield_laid]
    dsimp only
    split
    · rename_i hlt; exact hone fun z hz => by cases hz; exact hlt
    · exact hw

theorem takeCandidate_taken (h : Ready s w (c :: cs)) : Taken s w c (takeCandidate w c) := by
  have hwaits : ∀ b ∈ s.plan.bookings, c.subject = .inl b.number → b ∈ w.state.plan.bookings :=
    fun b hb hc => h.waiting b hb (List.mem_cons.mpr (.inl hc.symm))
  rcases mem_rankedCandidates.mp (h.ranked c List.mem_cons_self) with ⟨b, hb, hc, rfl⟩ | ⟨b, hb, hx, rfl⟩ | ⟨x, hx, rfl⟩
  · exact placeBooking_taken h.during h.numbers hb (hwaits b hb rfl) hc
  · exact settleOverrun_taken h.during h.numbers hb (hwaits b hb rfl) hx h.nonempty
  · exact settleHold_taken h.during hx h.nonempty

theorem Ready.next (h : Ready s w (c :: cs)) (ht : Taken s w c v) : Ready s v cs where
  during := h.during.trans ht.during
  numbers := ht.numbers h.numbers fun b hb hc => h.waiting b hb (List.mem_cons.mpr (.inl hc.symm))
  waiting b hb hm := ht.keeps (h.waiting b hb (List.mem_cons_of_mem _ hm)) fun hc =>
    (List.nodup_cons.mp h.once).1 (show c.subject ∈ _ from hc ▸ hm)
  nonempty := ht.nonempty h.nonempty
  ranked d hd := h.ranked d (List.mem_cons_of_mem _ hd)
  once := (List.nodup_cons.mp h.once).2

/-- Candidates taken one after another, the lists being those still to be taken. -/
inductive Steps (s : State) : Pass → List Ranked → Pass → List Ranked → Prop
  | refl (w : Pass) (cs : List Ranked) : Steps s w cs w cs
  | cons {w v u : Pass} {c : Ranked} {cs ds : List Ranked} (ready : Ready s w (c :: cs)) (taken : Taken s w c v)
      (rest : Steps s v cs u ds) : Steps s w (c :: cs) u ds

theorem Ready.steps (h : Ready s w cs) : Steps s w cs (cs.foldl takeCandidate w) [] := by
  induction cs generalizing w with
  | nil => exact .refl w []
  | cons c cs ih => exact .cons h (takeCandidate_taken h) (ih (h.next (takeCandidate_taken h)))

namespace Steps
variable {u : Pass} {ds : List Ranked}

theorem trans {x : Pass} {es : List Ranked} (h : Steps s w cs u ds) (k : Steps s u ds x es) : Steps s w cs x es := by
  induction h with
  | refl => exact k
  | cons ready taken _ ih => exact .cons ready taken (ih k)

/-- What is still to be taken is the end of what was. -/
theorem suffix (h : Steps s w cs u ds) : ∃ before, cs = before ++ ds := by
  induction h with
  | refl => exact ⟨[], rfl⟩
  | cons _ _ _ ih =>
    obtain ⟨before, rfl⟩ := ih
    exact ⟨_ :: before, rfl⟩

theorem during (h : Steps s w cs u ds) : During w.state u.state := by
  induction h with
  | refl => exact .refl _
  | cons _ taken _ ih => exact taken.during.trans ih

theorem laid_subset (h : Steps s w cs u ds) : w.laid ⊆ u.laid := by
  induction h with
  | refl => exact List.Subset.refl _
  | cons _ taken _ ih => exact List.Subset.trans taken.laid_subset ih

theorem newly_subset (h : Steps s w cs u ds) : w.newly ⊆ u.newly := by
  induction h with
  | refl => exact List.Subset.refl _
  | cons _ taken _ ih => exact List.Subset.trans taken.newly_subset ih

theorem keeps (h : Steps s w cs u ds) {x : Booking} (hx : x ∈ w.state.plan.bookings)
    (hc : .inl x.number ∉ cs.map Ranked.subject) : x ∈ u.state.plan.bookings := by
  induction h with
  | refl => exact hx
  | cons _ taken _ ih =>
    obtain ⟨hne, hrest⟩ := not_or.mp (mt List.mem_cons.mpr hc)
    exact ih (taken.keeps hx (Ne.symm hne)) hrest

theorem yield (h : Steps s w cs u ds) {x : TunerId} (hc : .inr x ∉ cs.map Ranked.subject) : u.yield x = w.yield x := by
  induction h with
  | refl => rfl
  | cons _ taken _ ih =>
    obtain ⟨hne, hrest⟩ := not_or.mp (mt List.mem_cons.mpr hc)
    exact (ih hrest).trans (taken.yield (Ne.symm hne))

/-- A hold still to be settled has the yield time it had. -/
theorem yield_waiting (h : Steps s w cs u ds) {x : TunerId} (hx : .inr x ∈ ds.map Ranked.subject) :
    u.yield x = w.yield x := by
  induction h with
  | refl => rfl
  | cons ready taken rest ih =>
    obtain ⟨before, rfl⟩ := rest.suffix
    refine (ih hx).trans (taken.yield fun hc => (List.nodup_cons.mp ready.once).1 ?_)
    rw [List.map_append, hc]
    exact List.mem_append_right _ hx

theorem entry (h : Steps s w cs u ds) {g : GuideEntry} (hg : g ∈ u.state.guide.entries) (hpins : g.pins = 0)
    (hfree : ∀ b ∈ s.plan.bookings, b.key ≠ .guideSlot g.slot) : g ∈ w.state.guide.entries := by
  induction h with
  | refl => exact hg
  | cons _ taken _ ih => exact taken.entry (ih hg) hpins hfree

theorem ready (h : Steps s w cs u ds) (hw : Ready s w cs) : Ready s u ds := by
  induction h with
  | refl => exact hw
  | cons ready taken _ ih => exact ih (ready.next taken)

/-- What has come to hold came to hold as some candidate was taken. -/
theorem turning (h : Steps s w cs u ds) (Q : Pass → List Ranked → Prop) (hu : Q u ds) : Q w cs
    ∨ ∃ c after x y, Steps s w cs x (c :: after) ∧ Ready s x (c :: after) ∧ Taken s x c y ∧ Steps s y after u ds
      ∧ ¬ Q x (c :: after) ∧ Q y after := by
  induction h with
  | refl => exact .inl hu
  | @cons w v u c cs ds ready taken rest ih =>
    rcases ih hu with hv | ⟨d, after, x, y, hx, hready, htaken, hy, hnot, hholds⟩
    · by_cases hw : Q w (c :: cs)
      · exact .inl hw
      · exact .inr ⟨c, cs, w, v, .refl _ _, ready, taken, rest, hw, hv⟩
    · exact .inr ⟨d, after, x, y, .cons ready taken hx, hready, htaken, hy, hnot, hholds⟩

/-- A candidate still to be taken is taken. -/
theorem taken (h : Steps s w cs u []) {c : Ranked} (hc : c ∈ cs) :
    ∃ after x y, Steps s w cs x (c :: after) ∧ Ready s x (c :: after) ∧ Taken s x c y ∧ Steps s y after u [] := by
  rcases h.turning (fun _ ds => c ∉ ds) (List.not_mem_nil) with hno | ⟨d, after, x, y, hx, hready, htaken, hy, hin, hout⟩
  · exact absurd hc hno
  · obtain rfl := (List.mem_cons.mp (not_not.mp hin)).resolve_right hout
    exact ⟨after, x, y, hx, hready, htaken, hy⟩

end Steps

/-! ### The turns of a pass -/

/-- The pass as it begins: the held bookings' extents are laid and nothing is settled (R93). -/
def begun (s : State) : Pass :=
  { state := s
    laid := s.plan.bookings.filterMap (fixedExtent s)
    claims := s.plan.bookings.filterMap (overrunExtent s) ++ (holdExtent s .a).toList ++ (holdExtent s .b).toList
    newly := [], yieldA := none, yieldB := none }

theorem begun_ready (h : NumbersOk s) : Ready s (begun s) (rankedCandidates s) where
  during := .refl s
  numbers := h
  waiting _ hb _ := hb
  nonempty y hy z hz := by
    obtain ⟨b, -, hx⟩ := List.mem_filterMap.mp hy
    obtain ⟨p, -, -, hlt, rfl⟩ := fixedExtent_some hx
    cases hz; exact hlt
  ranked _ hc := hc
  once := rankedCandidates_nodup h.distinct

theorem placeAll_steps (h : NumbersOk s) : Steps s (begun s) (rankedCandidates s) (placeAll s) [] := (begun_ready h).steps

theorem placeAll_ready (h : NumbersOk s) : Ready s (placeAll s) [] := (placeAll_steps h).ready (begun_ready h)

/-- The turn of the candidate `c`, from `u` to `v`, with those of `after` still to come. -/
structure Turn (s : State) (c : Ranked) (after : List Ranked) (u v : Pass) : Prop where
  earlier : Steps s (begun s) (rankedCandidates s) u (c :: after)
  ready : Ready s u (c :: after)
  taken : Taken s u c v
  later : Steps s v after (placeAll s) []

theorem turn_of_mem (hn : NumbersOk s) (hc : c ∈ rankedCandidates s) : ∃ after u v, Turn s c after u v := by
  obtain ⟨after, u, v, hearlier, hready, htaken, hlater⟩ := (placeAll_steps hn).taken hc
  exact ⟨after, u, v, hearlier, hready, htaken, hlater⟩

namespace Turn
variable {after : List Ranked} {u : Pass}

theorem mem (t : Turn s c after u v) : c ∈ rankedCandidates s := t.ready.ranked c List.mem_cons_self

theorem subject_not_later (t : Turn s c after u v) : c.subject ∉ after.map Ranked.subject :=
  (List.nodup_cons.mp t.ready.once).1

/-- A later candidate ranks no higher (R95). -/
theorem ordered (t : Turn s c after u v) {d : Ranked} (hd : d ∈ after) : d.before c = false := by
  obtain ⟨before, heq⟩ := t.earlier.suffix
  have h := rankedCandidates_ordered s
  rw [heq] at h
  exact List.rel_of_pairwise_cons (List.pairwise_append.mp h).2.1 hd

/-- What becomes of the candidate's booking stays. -/
theorem stays (t : Turn s c after u v) {x : Booking} (hx : x ∈ v.state.plan.bookings) (hc : c.subject = .inl x.number) :
    x ∈ (placeAll s).state.plan.bookings := t.later.keeps hx (hc ▸ t.subject_not_later)

/-- So does a booking with a number that was free. -/
theorem stays_fresh (t : Turn s c after u v) {x : Booking} (hx : x ∈ v.state.plan.bookings)
    (hfree : x.number ∉ u.state.plan.bookings.map Booking.number) : x ∈ (placeAll s).state.plan.bookings := by
  refine t.later.keeps hx fun hlater => hfree ?_
  obtain ⟨d, hd, hsubject⟩ := List.mem_map.mp hlater
  have hwaits : ∀ b ∈ s.plan.bookings, b.number = x.number → x.number ∈ u.state.plan.bookings.map Booking.number :=
    fun b hb hbx => hbx ▸ List.mem_map_of_mem (t.ready.waiting b hb
      (List.mem_cons_of_mem _ (hbx ▸ hlater)))
  rcases mem_rankedCandidates.mp (t.ready.ranked d (List.mem_cons_of_mem _ hd)) with
    ⟨b, hb, -, rfl⟩ | ⟨b, hb, -, rfl⟩ | ⟨y, -, rfl⟩
  · exact hwaits b hb (Sum.inl.inj hsubject)
  · exact hwaits b hb (Sum.inl.inj hsubject)
  · cases hsubject

theorem laid_subset (t : Turn s c after u v) : v.laid ⊆ (placeAll s).laid := t.later.laid_subset

theorem yield (t : Turn s c after u v) {x : TunerId} (hc : c.subject = .inr x) : (placeAll s).yield x = v.yield x :=
  t.later.yield (hc ▸ t.subject_not_later)

/-- Before its turn a hold has no yield time. -/
theorem yield_before (t : Turn s c after u v) {x : TunerId} (hc : c.subject = .inr x) : u.yield x = none := by
  rw [t.earlier.yield_waiting (x := x) (by rw [← hc]; exact List.mem_map_of_mem List.mem_cons_self)]
  cases x <;> rfl

end Turn

end

end Sys2Proof.Machine

/-! PROOFS. Where the bookings and the extents of a finished step 4 come from (R93 to R105). -/

namespace Sys2Proof.Machine

section
variable {s : State} {c : Ranked} {after : List Ranked} {u v : Pass}

/-! ### The bookings -/

/-- What has become of a booking when step 4 is done. -/
inductive Origin (s : State) : Booking → Prop
  | kept {b : Booking} (hb : b ∈ s.plan.bookings) (hno : .inl b.number ∉ (rankedCandidates s).map Ranked.subject) :
      Origin s b
  | placed {b : Booking} {p : Place} {after : List Ranked} {u v : Pass} (turn : Turn s (bookingRank s b) after u v)
      (hb : b ∈ s.plan.bookings) (hc : isCandidate s b = true) (hsvc : s.hasService b.channel = true)
      (hfit : Fits s u.laid (b.need s) p) (hlaid : placedExtent p (b.need s) b.number ∈ (placeAll s).laid) :
      Origin s (b.placedAt p)
  | clashed {b : Booking} {after : List Ranked} {u v : Pass} (turn : Turn s (bookingRank s b) after u v)
      (hb : b ∈ s.plan.bookings) (hc : isCandidate s b = true)
      (hno : s.hasService b.channel = true → choosePlace s u.laid (b.need s) = none)
      (hair : ∀ r f id g, s.request? b.request = some r → r.kind = .series f → b.episode = some id →
        Airing s u.state.guide.entries r f id g → s.hasService g.channel = true →
        choosePlace s u.laid (airNeed s r g) = none)
      (hnewly : b.state ≠ some .clashed → b.number ∈ (placeAll s).newly) :
      Origin s (b.clashedWith (partnersOf s u.laid (b.need s)))
  | alternate {b : Booking} {r : Request} {g : GuideEntry} {p : Place} {n : Nat} {after : List Ranked} {u v : Pass}
      (turn : Turn s (bookingRank s b) after u v) (hb : b ∈ s.plan.bookings) (hr : s.request? b.request = some r)
      (hsvc : s.hasService g.channel = true) (hfit : Fits s u.laid (airNeed s r g) p)
      (hlaid : placedExtent p (airNeed s r g) n ∈ (placeAll s).laid) : Origin s (alternateOf s r g p n)
  | ran {b : Booking} {x : Extent} (hb : b ∈ s.plan.bookings) (hx : overrunExtent s b = some x)
      (hlaid : x ∈ (placeAll s).laid) : Origin s b
  | cut {b : Booking} {x : Extent} {i : Nat} {d : Claimant} {after : List Ranked} {u v : Pass}
      (turn : Turn s (overrunRank s b) after u v) (hb : b ∈ s.plan.bookings) (hx : overrunExtent s b = some x)
      (hfirst : FirstConflict u.laid x i d)
      (hlaid : x.start < i → { x with stop := some i } ∈ (placeAll s).laid) : Origin s (b.cutAt i)

/-- A booking that a turn has made what it is has that turn for its origin. -/
theorem Turn.origin (t : Turn s c after u v) {x : Booking} (hx : x ∈ v.state.plan.bookings)
    (hnew : x ∈ u.state.plan.bookings → c.subject = .inl x.number) : Origin s x := by
  have hown : ∀ {b new : Booking} {bs : List Booking}, c.subject = .inl b.number →
      bs.Perm (new :: others b.number u.state.plan.bookings) → x ∈ bs → x = new := by
    intro b new bs hc hbs hx
    refine (List.mem_cons.mp (hbs.mem_iff.mp hx)).resolve_right fun hother => ?_
    obtain ⟨hmem, hne⟩ := mem_others.mp hother
    exact hne (Sum.inl.inj ((hnew hmem).symm.trans hc))
  have hlaid : ∀ {e : Extent}, e ∈ v.laid → e ∈ (placeAll s).laid := fun he => t.laid_subset he
  have hlater := t.later
  have ht := t.taken
  cases ht with
  | placed hb hc hsvc hfit hbs =>
    obtain rfl := hown rfl hbs hx
    exact .placed t hb hc hsvc hfit (hlaid (List.mem_append_right _ List.mem_cons_self))
  | clashed hb hc hno hair hbs =>
    obtain rfl := hown rfl hbs hx
    refine .clashed t hb hc hno hair fun hs => hlater.newly_subset ?_
    rw [if_neg hs]
    exact List.mem_append_right _ List.mem_cons_self
  | replaced hb hc hr hkind hid hg hsvc hfit hfree hrange hu hbs =>
    obtain rfl := hown rfl hbs hx
    exact .alternate t hb hr hsvc hfit (hlaid (List.mem_append_right _ List.mem_cons_self))
  | @ran b e claims hb he hfree =>
    have hxb : x = b := booking_eq_of_number t.ready.numbers.distinct hx
      (t.ready.waiting b hb List.mem_cons_self) (Sum.inl.inj (hnew hx).symm)
    subst hxb
    exact .ran hb he (hlaid (List.mem_append_right _ List.mem_cons_self))
  | cut hb he hfirst hbs =>
    obtain rfl := hown rfl hbs hx
    exact .cut t hb he hfirst fun hlt => hlaid (by rw [if_pos hlt]; exact List.mem_append_right _ List.mem_cons_self)
  | stood hh hfree => cases hnew hx
  | yielded hh hfirst => rw [Pass.withYield_state] at hx; cases hnew hx

theorem origin (hn : NumbersOk s) {x : Booking} (hx : x ∈ (placeAll s).state.plan.bookings) : Origin s x := by
  rcases (placeAll_steps hn).turning (fun w cs => x ∈ w.state.plan.bookings ∧ .inl x.number ∉ cs.map Ranked.subject)
    ⟨hx, List.not_mem_nil⟩ with ⟨hmem, hno⟩ | ⟨c, after, u, v, hearlier, hready, htaken, hlater, hnot, hv, hno⟩
  · exact .kept hmem hno
  · refine Turn.origin ⟨hearlier, hready, htaken, hlater⟩ hv fun hu => ?_
    by_contra hc
    exact hnot ⟨hu, fun hmem => (List.mem_cons.mp hmem).elim (fun h => hc h.symm) hno⟩

/-- Which candidate is of a booking. -/
theorem candidate_of_subject (hn : NumbersOk s) {b : Booking} (hb : b ∈ s.plan.bookings)
    (h : .inl b.number ∈ (rankedCandidates s).map Ranked.subject) :
    isCandidate s b = true ∨ (overrunExtent s b).isSome = true := by
  obtain ⟨d, hd, hsubject⟩ := List.mem_map.mp h
  rcases mem_rankedCandidates.mp hd with ⟨e, he, hc, rfl⟩ | ⟨e, he, hx, rfl⟩ | ⟨y, -, rfl⟩
  · exact .inl (booking_eq_of_number hn.distinct he hb (Sum.inl.inj hsubject) ▸ hc)
  · exact .inr (booking_eq_of_number hn.distinct he hb (Sum.inl.inj hsubject) ▸ hx)
  · cases hsubject

theorem kept_stays (hn : NumbersOk s) {b : Booking} (hb : b ∈ s.plan.bookings)
    (hno : .inl b.number ∉ (rankedCandidates s).map Ranked.subject) : b ∈ (placeAll s).state.plan.bookings :=
  (placeAll_steps hn).keeps hb hno

/-- A held booking is left as it is, its overrun portion laid whole, or is cut at its first conflict (R92, R99). -/
inductive HeldFate (s : State) (b : Booking) : Prop
  | whole (stays : b ∈ (placeAll s).state.plan.bookings)
      (hlaid : ∀ x, overrunExtent s b = some x → x ∈ (placeAll s).laid)
  | cut {x : Extent} {i : Nat} {d : Claimant} {after : List Ranked} {u v : Pass}
      (turn : Turn s (overrunRank s b) after u v) (hx : overrunExtent s b = some x)
      (hfirst : FirstConflict u.laid x i d) (stays : b.cutAt i ∈ (placeAll s).state.plan.bookings)
      (hlaid : x.start < i → { x with stop := some i } ∈ (placeAll s).laid)

theorem held_fate (hn : NumbersOk s) {b : Booking} (hb : b ∈ s.plan.bookings) (hheld : b.isHeld = true) :
    HeldFate s b := by
  have hnot : ¬ b.isOpen = true := (isHeld_iff_not_isOpen b).mp hheld
  by_cases hover : (overrunExtent s b).isSome = true
  · have hc : overrunRank s b ∈ rankedCandidates s := mem_rankedCandidates.mpr (.inr (.inl ⟨b, hb, hover, rfl⟩))
    obtain ⟨after, u, v, t⟩ := turn_of_mem hn hc
    have htaken := t.taken
    generalize hd : overrunRank s b = d at htaken
    cases htaken with
    | placed | clashed | replaced | stood | yielded => cases congrArg Ranked.candidate hd
    | @ran e x claims he hx hfree =>
      obtain rfl : b = e := booking_eq_of_number hn.distinct hb he (congrArg Ranked.number hd)
      refine .whole (t.stays (t.ready.waiting b hb List.mem_cons_self) rfl) fun y hy => ?_
      rw [hx] at hy
      cases hy
      exact t.laid_subset (List.mem_append_right _ List.mem_cons_self)
    | @cut e x i d bs claims he hx hfirst hbs =>
      obtain rfl : b = e := booking_eq_of_number hn.distinct hb he (congrArg Ranked.number hd)
      refine .cut t hx hfirst (t.stays (hbs.mem_iff.mpr List.mem_cons_self) rfl) fun hlt => t.laid_subset ?_
      rw [if_pos hlt]
      exact List.mem_append_right _ List.mem_cons_self
  · refine .whole (kept_stays hn hb fun hmem => ?_) fun x hx => absurd (by rw [hx]; rfl) hover
    rcases candidate_of_subject hn hb hmem with h | h
    · exact hnot ((isCandidate_iff s b).mp h).1
    · exact hover h

/-- What becomes of a candidate booking. -/
inductive OpenFate (s : State) (b : Booking) : Prop
  | placed {p : Place} (stays : b.placedAt p ∈ (placeAll s).state.plan.bookings)
  | clashed {ps : List Nat} (stays : b.clashedWith ps ∈ (placeAll s).state.plan.bookings)
  | replaced {r : Request} {id : Nat} {g : GuideEntry} {p : Place} {n : Nat} (hr : s.request? b.request = some r)
      (hid : b.episode = some id) (hg : g.episode = some id)
      (stays : alternateOf s r g p n ∈ (placeAll s).state.plan.bookings)

theorem open_fate (hn : NumbersOk s) {b : Booking} (hb : b ∈ s.plan.bookings) (hc : isCandidate s b = true) :
    OpenFate s b := by
  obtain ⟨after, u, v, t⟩ := turn_of_mem hn (mem_rankedCandidates.mpr (.inl ⟨b, hb, hc, rfl⟩))
  have htaken := t.taken
  generalize hd : bookingRank s b = d at htaken
  cases htaken with
  | ran | cut | stood | yielded => cases congrArg Ranked.candidate hd
  | @placed e p bs he _ _ _ hbs =>
    obtain rfl : b = e := booking_eq_of_number hn.distinct hb he (congrArg Ranked.number hd)
    exact .placed (t.stays (hbs.mem_iff.mpr List.mem_cons_self) rfl)
  | @clashed e bs he _ _ _ hbs =>
    obtain rfl : b = e := booking_eq_of_number hn.distinct hb he (congrArg Ranked.number hd)
    exact .clashed (t.stays (hbs.mem_iff.mpr List.mem_cons_self) rfl)
  | replaced he _ hr _ hid hg _ _ hfree _ _ hbs =>
    obtain rfl := booking_eq_of_number hn.distinct hb he (congrArg Ranked.number hd)
    exact .replaced hr hid hg.episode (t.stays_fresh (hbs.mem_iff.mpr List.mem_cons_self) hfree)

/-! ### The extents -/

/-- The windows and tiers of the open bookings are formed (R91, R92). -/
def Formed (s : State) : Prop := ∀ b ∈ s.plan.bookings, b.isOpen = true → ∀ r, s.request? b.request = some r →
  b.tier = tierOf s.settings r ∧ b = b.formWindow s.settings r

/-- An extent is part of what a booking of the finished step 4 takes up of its tuner. It begins where that begins; or, being
an overrun portion, at the present or after an extent laid before all candidates. -/
structure Stands (s : State) (x : Extent) (e : Booking) : Prop where
  mem : e ∈ (placeAll s).state.plan.bookings
  claimant : x.claimant = .booking e.number
  placed : e.isPlaced = true
  place : e.place = some ⟨x.tuner, x.slot⟩
  multiplex : x.multiplex = s.multiplexOf e.channel
  stop : ∃ z, x.stop = some z ∧ z ≤ occupiedTo e
  start : occupiedFrom s e ≤ x.start
  first : x.start = occupiedFrom s e ∨ x.start = s.present
    ∨ ∃ y ∈ (begun s).laid, y.tuner = x.tuner ∧ y.slot = x.slot ∧ y.multiplex = x.multiplex ∧ y.covers s.present

/-- Whose an extent laid in step 4 is, among the candidates `R` holds of: a held booking's, a candidate's or a hold's. -/
inductive LaidBy (s : State) (R : Ranked → Prop) (x : Extent) : Prop
  | booking {e : Booking} (stands : Stands s x e)
      (rank : e.isHeld = true ∨ ∃ d, R d ∧ d.isHold = false ∧ d.tier = e.tier)
  | hold {h : ViewerHold} (hh : (s.tuner x.tuner).hold = some h)
      (hx : x = holdUntil s x.tuner h (((placeAll s).yield x.tuner).map Prod.fst)) (hrank : R (holdRank s x.tuner))

theorem isPlaced_of_held {b : Booking} (h : b.isHeld = true) : b.isPlaced = true := by simp [Booking.isPlaced, h]

theorem isOpen_of_planned {b : Booking} (h : b.state = some .planned) : b.isOpen = true := by simp [Booking.isOpen, h]

theorem not_isHeld_of_open {b : Booking} (h : b.isOpen = true) : b.isHeld = false :=
  Bool.eq_false_iff.mpr fun hheld => (isHeld_iff_not_isOpen b).mp hheld h

@[simp] theorem cutAt_isHeld (b : Booking) (i : Nat) : (b.cutAt i).isHeld = b.isHeld := rfl

theorem occupiedTo_recording {b : Booking} (h : b.state = some .recording) : occupiedTo b = b.provEnd := if_pos h

theorem occupiedFrom_held {b : Booking} (h : b.isHeld = true) : occupiedFrom s b = s.present := if_pos h

theorem occupiedTo_held_le {b : Booking} (h : b.isHeld = true) : min b.winEnd b.provEnd ≤ occupiedTo b := by
  unfold occupiedTo
  rw [if_pos h]
  split
  · exact min_le_right _ _
  · exact le_rfl

/-- A placed candidate's extent is what its booking takes up. -/
theorem stands_placed {e : Booking} {n : Need} {p : Place} (hmem : e ∈ (placeAll s).state.plan.bookings)
    (hstate : e.state = some .planned) (hplace : e.place = some p) (hneed : n = e.need s) :
    Stands s (placedExtent p n e.number) e := by
  have hheld : e.isHeld = false := not_isHeld_of_open (isOpen_of_planned hstate)
  have hfrom : occupiedFrom s e = max e.winStart s.present := if_neg (by rw [hheld]; exact Bool.false_ne_true)
  have hto : occupiedTo e = e.winEnd := by simp [occupiedTo, hstate, hheld]
  subst hneed
  exact {
    mem := hmem, claimant := rfl, placed := by simp [Booking.isPlaced, hstate], place := hplace, multiplex := rfl
    stop := ⟨_, rfl, hto.ge⟩, start := hfrom.le, first := .inl hfrom.symm }

/-- A held booking's fixed extent is part of what it takes up, cut or not. -/
theorem stands_fixed (hn : NumbersOk s) {b : Booking} (hb : b ∈ s.plan.bookings) {x : Extent}
    (hx : fixedExtent s b = some x) : ∃ e, Stands s x e ∧ e.isHeld = true := by
  obtain ⟨p, hheld, hp, hlt, rfl⟩ := fixedExtent_some hx
  have hfrom : occupiedFrom s b = s.present := occupiedFrom_held hheld
  cases held_fate hn hb hheld with
  | whole stays =>
    exact ⟨b, ⟨stays, rfl, isPlaced_of_held hheld, hp, rfl, ⟨_, rfl, occupiedTo_held_le hheld⟩, hfrom.le, .inl hfrom.symm⟩,
      hheld⟩
  | @cut y i _ _ _ _ _ hy hfirst stays =>
    obtain ⟨q, -, hrec, hend, -, rfl⟩ := overrunExtent_some hy
    have hle : b.winEnd ≤ i := (le_max_left _ _).trans hfirst.start
    have hto : occupiedTo (b.cutAt i) = i := occupiedTo_recording hrec
    exact ⟨b.cutAt i, ⟨stays, rfl, isPlaced_of_held hheld, hp, rfl,
      ⟨_, rfl, by rw [hto]; exact (min_le_left _ _).trans hle⟩, hfrom.le, .inl hfrom.symm⟩, hheld⟩

theorem overrunExtent_stop {b : Booking} {x : Extent} (hx : overrunExtent s b = some x) :
    { x with stop := some b.provEnd } = x := by
  obtain ⟨p, -, -, -, -, rfl⟩ := overrunExtent_some hx
  rfl

/-- An overrun portion, cut or not, is part of what its booking takes up. -/
theorem stands_overrun {b e : Booking} (hb : b ∈ s.plan.bookings) {x : Extent} (hx : overrunExtent s b = some x)
    (hmem : e ∈ (placeAll s).state.plan.bookings)
    (he : e = { b with provEnd := e.provEnd, cut := e.cut }) : Stands s { x with stop := some e.provEnd } e := by
  obtain ⟨p, hp, hrec, hend, hpresent, rfl⟩ := overrunExtent_some hx
  have hstate : e.state = some .recording := by rw [he]; exact hrec
  have hheld : e.isHeld = true := isHeld_of_recording hstate
  have hfrom : occupiedFrom s e = s.present := occupiedFrom_held hheld
  refine ⟨hmem, by rw [he], isPlaced_of_held hheld, by rw [he]; exact hp, by rw [he],
    ⟨_, rfl, (occupiedTo_recording hstate).ge⟩, by rw [hfrom]; exact le_max_right _ _, .inr ?_⟩
  rcases le_or_gt b.winEnd s.present with hle | hlt
  · exact .inl (max_eq_right hle)
  · have hmin : s.present < min b.winEnd b.provEnd := lt_min hlt (hlt.trans hend)
    exact .inr ⟨_, List.mem_filterMap.mpr ⟨b, hb, fixedExtent_of_held (isHeld_of_recording hrec) hp hmin⟩, rfl, rfl, rfl,
      le_rfl, fun z hz => by cases hz; exact hmin⟩

theorem LaidBy.mono {R Q : Ranked → Prop} {x : Extent} (h : LaidBy s R x) (hRQ : ∀ d, R d → Q d) : LaidBy s Q x := by
  cases h with
  | booking stands rank => exact .booking stands (rank.imp_right fun ⟨d, hd, hrest⟩ => ⟨d, hRQ d hd, hrest⟩)
  | hold hh hx hrank => exact .hold hh hx (hRQ _ hrank)

/-- What a turn lays is its candidate's. -/
theorem Turn.lays (hf : Formed s) (t : Turn s c after u v) {x : Extent} (hx : x ∈ v.laid) (hno : x ∉ u.laid) :
    LaidBy s (· = c) x := by
  have hone : ∀ {e : Extent}, x ∈ u.laid ++ [e] → x = e := fun h =>
    (List.mem_append.mp h).elim (fun h => absurd h hno) List.mem_singleton.mp
  have hyield := fun {y : TunerId} => t.yield (x := y)
  have hbefore := fun {y : TunerId} => t.yield_before (x := y)
  have ht := t.taken
  cases ht with
  | @placed b p bs hb hc hsvc hfit hbs =>
    obtain rfl := hone hx
    have hmem := t.stays (x := b.placedAt p) (hbs.mem_iff.mpr List.mem_cons_self) rfl
    exact .booking (stands_placed (e := b.placedAt p) hmem rfl rfl rfl) (.inr ⟨_, rfl, rfl, rfl⟩)
  | clashed => exact absurd hx hno
  | @replaced b r f id g p n w e hb hc hr hkind hid hg hsvc hfit hfree hrange hu hbs =>
    obtain rfl := hone hx
    have hmem := t.stays_fresh (x := alternateOf s r g p n) (hbs.mem_iff.mpr List.mem_cons_self) hfree
    have htier := (hf b hb ((isCandidate_iff s b).mp hc).1 r hr).1
    exact .booking (stands_placed (e := alternateOf s r g p n) hmem rfl rfl rfl) (.inr ⟨_, rfl, rfl, htier⟩)
  | @ran b y claims hb hy hfree =>
    obtain rfl := hone hx
    obtain ⟨p, -, hrec, -, -, -⟩ := overrunExtent_some hy
    have hmem := t.stays (t.ready.waiting b hb List.mem_cons_self) rfl
    have hstands := stands_overrun (e := b) hb hy hmem rfl
    rw [overrunExtent_stop hy] at hstands
    exact .booking hstands (.inl (isHeld_of_recording hrec))
  | @cut b y i d bs claims hb hy hfirst hbs =>
    split at hx
    · obtain rfl := hone hx
      obtain ⟨p, -, hrec, -, -, -⟩ := overrunExtent_some hy
      have hmem := t.stays (x := b.cutAt i) (hbs.mem_iff.mpr List.mem_cons_self) rfl
      exact .booking (stands_overrun (e := b.cutAt i) hb hy hmem rfl) (.inl (isHeld_of_recording hrec))
    · exact absurd hx hno
  | @stood y h claims hh hfree =>
    obtain rfl := hone hx
    have hnone : (placeAll s).yield y = none := (hyield rfl).trans (hbefore rfl)
    exact .hold hh (by rw [show (holdUntil s y h none).tuner = y from rfl, hnone]; rfl) rfl
  | @yielded y h i d claims hh hfirst =>
    rw [Pass.withYield_laid] at hx
    dsimp only at hx
    split at hx
    · obtain rfl := hone hx
      have hsome : (placeAll s).yield y = some (i, d.reported) := (hyield rfl).trans (Pass.withYield_same _ _ _)
      exact .hold hh (by rw [show (holdUntil s y h (some i)).tuner = y from rfl, hsome]; rfl) rfl
    · exact absurd hx hno

/-- What is laid at some point of step 4 is a held booking's or that of a candidate taken before. -/
theorem laidBy (hn : NumbersOk s) (hf : Formed s) {w : Pass} {ds : List Ranked}
    (hearlier : Steps s (begun s) (rankedCandidates s) w ds) (hlater : Steps s w ds (placeAll s) []) {x : Extent}
    (hx : x ∈ w.laid) : LaidBy s (fun d => ∃ after u v, Turn s d after u v ∧ ds ⊆ after) x := by
  rcases hearlier.turning (fun w _ => x ∈ w.laid) hx with hfixed | ⟨d, after, u, v, hu, hready, htaken, hv, hno, hmem⟩
  · obtain ⟨b, hb, hxb⟩ := List.mem_filterMap.mp hfixed
    obtain ⟨e, hstands, hheld⟩ := stands_fixed hn hb hxb
    exact .booking hstands (.inl hheld)
  · have hturn : Turn s d after u v := ⟨hu, hready, htaken, hv.trans hlater⟩
    obtain ⟨before, heq⟩ := hv.suffix
    exact (hturn.lays hf hmem hno).mono fun _ h => ⟨after, u, v, h ▸ hturn, heq ▸ List.subset_append_right _ _⟩

/-- What is laid when a candidate's turn comes was laid by one that ranks no lower. -/
theorem Turn.laid_before (hn : NumbersOk s) (hf : Formed s) (t : Turn s c after u v) {x : Extent} (hx : x ∈ u.laid) :
    LaidBy s (fun d => c.before d = false) x :=
  (laidBy hn hf t.earlier (.cons t.ready t.taken t.later) hx).mono fun _ ⟨_, _, _, hturn, hsub⟩ =>
    hturn.ordered (hsub List.mem_cons_self)

/-! ### Nothing laid stands in the way of a candidate -/

/-- Of two extents of different claimants, one of them a candidate's, neither stands in the other's way. -/
def LaidApart (s : State) (w : Pass) : Prop := ∀ x ∈ w.laid, ∀ y ∈ w.laid, x.claimant ≠ y.claimant →
  x ∉ (begun s).laid → x.Apart y

theorem Taken.lays {s : State} {w v : Pass} {c : Ranked} (h : Taken s w c v) :
    v.laid = w.laid ∨ ∃ x, v.laid = w.laid ++ [x] ∧ ∀ y ∈ w.laid, y.Apart x := by
  cases h with
  | placed _ _ _ hfit => exact .inr ⟨_, rfl, fun y hy => hfit.apart _ hy⟩
  | clashed => exact .inl rfl
  | replaced _ _ _ _ _ _ _ hfit => exact .inr ⟨_, rfl, fun y hy => hfit.apart _ hy⟩
  | ran _ _ hfree => exact .inr ⟨_, rfl, hfree⟩
  | cut _ _ hfirst =>
    dsimp only
    split
    · exact .inr ⟨_, rfl, fun y hy => hfirst.apart hy⟩
    · exact .inl rfl
  | stood _ hfree => exact .inr ⟨_, rfl, hfree⟩
  | yielded _ hfirst =>
    rw [Pass.withYield_laid]
    dsimp only
    split
    · exact .inr ⟨_, rfl, fun y hy => hfirst.apart hy⟩
    · exact .inl rfl

theorem Taken.laidApart (h : Taken s u c v) (hu : LaidApart s u) : LaidApart s v := by
  rcases h.lays with heq | ⟨e, heq, hfree⟩
  · unfold LaidApart; rw [heq]; exact hu
  · intro x hx y hy hne hnew
    rw [heq] at hx hy
    rcases List.mem_append.mp hx with hx | hx <;> rcases List.mem_append.mp hy with hy | hy
    · exact hu x hx y hy hne hnew
    · rw [List.mem_singleton.mp hy]; exact hfree x hx
    · rw [List.mem_singleton.mp hx]; exact (hfree y hy).symm
    · exact absurd (by rw [List.mem_singleton.mp hx, List.mem_singleton.mp hy]) hne

theorem placeAll_apart (hn : NumbersOk s) : LaidApart s (placeAll s) := by
  have hsteps : ∀ {w u : Pass} {cs ds : List Ranked}, Steps s w cs u ds → LaidApart s w → LaidApart s u := by
    intro w u cs ds h
    induction h with
    | refl => exact id
    | cons _ taken _ ih => exact fun hw => ih (taken.laidApart hw)
  exact hsteps (placeAll_steps hn) fun x hx _ _ _ hnew => absurd hx hnew

end

end Sys2Proof.Machine

/-! PROOFS. What bookings and holds take up of the tuners when step 4 is done (R96 to R101). -/

namespace Sys2Proof.Machine

section
variable {s : State}

/-! ### What a booking takes up is laid -/

/-- An instant that a booking takes up of a place is covered by an extent of it. -/
structure Covers (s : State) (e : Booking) (p : Place) (i : Nat) (x : Extent) : Prop where
  laid : x ∈ (placeAll s).laid
  claimant : x.claimant = .booking e.number
  tuner : x.tuner = p.tuner
  slot : x.slot = p.slot
  multiplex : x.multiplex = s.multiplexOf e.channel
  covers : x.covers i

theorem begun_laid_subset (hn : NumbersOk s) : (begun s).laid ⊆ (placeAll s).laid := (placeAll_steps hn).laid_subset

theorem occupiedTo_held {b : Booking} (h : b.isHeld = true) : occupiedTo b ≤ b.provEnd
    ∧ (b.state ≠ some .recording → occupiedTo b ≤ b.winEnd) := by
  unfold occupiedTo
  rw [if_pos h]
  split
  · exact ⟨le_rfl, fun hne => absurd ‹_› hne⟩
  · exact ⟨min_le_right _ _, fun _ => min_le_left _ _⟩

theorem overrunExtent_of_recording {b : Booking} {p : Place} (hp : b.place = some p) (hrec : b.state = some .recording)
    (hend : b.winEnd < b.provEnd) (hpresent : s.present < b.provEnd) : overrunExtent s b
      = some ⟨p.tuner, p.slot, s.multiplexOf b.channel, max b.winEnd s.present, some b.provEnd, .booking b.number⟩ := by
  unfold overrunExtent
  rw [hp]
  exact if_pos ⟨hrec, hend, hpresent⟩

/-- Of a held booking: within the window its fixed extent covers it, beyond its overrun portion does. -/
theorem covered_held (hn : NumbersOk s) {b e : Booking} (hb : b ∈ s.plan.bookings) (hheld : b.isHeld = true)
    (he : e = { b with provEnd := e.provEnd, cut := e.cut }) (hle : e.provEnd ≤ b.provEnd)
    (hover : ∀ x, overrunExtent s b = some x → x.start < e.provEnd → { x with stop := some e.provEnd } ∈ (placeAll s).laid)
    {p : Place} (hp : e.place = some p) {i : Nat} (hlo : occupiedFrom s e ≤ i) (hhi : i < occupiedTo e) :
    ∃ x, Covers s e p i x := by
  have hheld' : e.isHeld = true := by rw [he]; exact hheld
  have hp' : b.place = some p := by rw [he] at hp; exact hp
  have hend : e.winEnd = b.winEnd := by rw [he]
  rw [occupiedFrom_held hheld'] at hlo
  obtain ⟨hprov, hwin⟩ := occupiedTo_held hheld'
  have hprov := hhi.trans_le hprov
  by_cases hin : i < b.winEnd
  · have hmin : i < min b.winEnd b.provEnd := lt_min hin (hprov.trans_le hle)
    have hx := fixedExtent_of_held (s := s) hheld hp' (hlo.trans_lt hmin)
    refine ⟨_, begun_laid_subset hn (List.mem_filterMap.mpr ⟨b, hb, hx⟩), ?_, rfl, rfl, ?_, hlo, fun z hz => ?_⟩
    · rw [he]
    · rw [he]
    · cases hz; exact hmin
  · have hrec : e.state = some .recording := by
      by_contra hne
      exact hin (hend ▸ hhi.trans_le (hwin hne))
    have hout := Nat.not_lt.mp hin
    have hx := overrunExtent_of_recording (s := s) hp' (by rw [he] at hrec; exact hrec)
      (hout.trans_lt (hprov.trans_le hle)) (hlo.trans_lt (hprov.trans_le hle))
    have hstart : max b.winEnd s.present ≤ i := max_le hout hlo
    refine ⟨_, hover _ hx (hstart.trans_lt hprov), ?_, rfl, rfl, ?_, hstart, fun z hz => ?_⟩
    · rw [he]
    · rw [he]
    · cases hz; exact hprov

theorem covered_placed {e : Booking} {n : Need} {p : Place} (hlaid : placedExtent p n e.number ∈ (placeAll s).laid)
    (hstate : e.state = some .planned) (hplace : e.place = some p) (hneed : n = e.need s) {q : Place}
    (hq : e.place = some q) {i : Nat} (hlo : occupiedFrom s e ≤ i) (hhi : i < occupiedTo e) : ∃ x, Covers s e q i x := by
  have hheld : e.isHeld = false := not_isHeld_of_open (isOpen_of_planned hstate)
  have hfrom : occupiedFrom s e = max e.winStart s.present := if_neg (by rw [hheld]; exact Bool.false_ne_true)
  have hto : occupiedTo e = e.winEnd := by simp [occupiedTo, hstate, hheld]
  obtain rfl : p = q := Option.some.inj (hplace.symm.trans hq)
  subst hneed
  exact ⟨_, hlaid, rfl, rfl, rfl, rfl, hfrom.symm.trans_le hlo, fun z hz => by cases hz; exact hhi.trans_eq hto⟩

/-- A booking that no candidate is of is held without overrun, or open, placed or not, with its window over. -/
theorem kept_cases {b : Booking} (hb : b ∈ s.plan.bookings)
    (hno : .inl b.number ∉ (rankedCandidates s).map Ranked.subject) :
    (b.isHeld = true ∧ overrunExtent s b = none) ∨ (b.isOpen = true ∧ b.state ≠ none ∧ b.winEnd ≤ s.present) := by
  have hover : overrunExtent s b = none := by
    by_contra hx
    exact hno (List.mem_map.mpr ⟨_,
      mem_rankedCandidates.mpr (.inr (.inl ⟨b, hb, Option.isSome_iff_ne_none.mpr hx, rfl⟩)), rfl⟩)
  have hcand : ¬ isCandidate s b = true := fun hc =>
    hno (List.mem_map.mpr ⟨_, mem_rankedCandidates.mpr (.inl ⟨b, hb, hc, rfl⟩), rfl⟩)
  rw [isCandidate_iff] at hcand
  by_cases hheld : b.isHeld = true
  · exact .inl ⟨hheld, hover⟩
  · have hopen := not_not.mp (mt (isHeld_iff_not_isOpen b).mpr hheld)
    push Not at hcand
    exact .inr ⟨hopen, (hcand hopen).2, (hcand hopen).1⟩

theorem occupiedTo_open {b : Booking} (h : b.isOpen = true) : occupiedTo b = b.winEnd := by
  have hheld := not_isHeld_of_open h
  have hrec : b.state ≠ some .recording := fun hr => Bool.false_ne_true (hheld.symm.trans (isHeld_of_recording hr))
  unfold occupiedTo
  rw [if_neg hrec, if_neg (by rw [hheld]; exact Bool.false_ne_true)]

theorem occupiedFrom_open {b : Booking} (h : b.isOpen = true) : occupiedFrom s b = max b.winStart s.present :=
  if_neg (by rw [not_isHeld_of_open h]; exact Bool.false_ne_true)

/-- What a booking takes up of its tuner when step 4 is done is laid. -/
theorem covered (hn : NumbersOk s) {e : Booking} (he : e ∈ (placeAll s).state.plan.bookings) (hplaced : e.isPlaced = true)
    {p : Place} (hp : e.place = some p) {i : Nat} (hlo : occupiedFrom s e ≤ i) (hhi : i < occupiedTo e) :
    ∃ x, Covers s e p i x := by
  cases origin hn he with
  | kept hb hno =>
    rcases kept_cases hb hno with ⟨hheld, hover⟩ | ⟨hopen, -, hend⟩
    · exact covered_held hn hb hheld rfl le_rfl (fun x hx => by rw [hover] at hx; cases hx) hp hlo hhi
    · rw [occupiedFrom_open hopen] at hlo
      rw [occupiedTo_open hopen] at hhi
      exact absurd (((le_max_right _ _).trans hlo).trans_lt hhi) (Nat.not_lt.mpr hend)
  | @placed b q _ _ _ _ hb hc hsvc hfit hlaid =>
    exact covered_placed (e := b.placedAt q) hlaid rfl rfl rfl hp hlo hhi
  | clashed => cases hplaced
  | @alternate b r g q n _ _ _ _ hb hr hsvc hfit hlaid =>
    exact covered_placed (e := alternateOf s r g q n) hlaid rfl rfl rfl hp hlo hhi
  | ran hb hx hlaid =>
    obtain ⟨q, -, hrec, -, -, -⟩ := overrunExtent_some hx
    refine covered_held hn hb (isHeld_of_recording hrec) rfl le_rfl (fun y hy _ => ?_) hp hlo hhi
    obtain rfl := Option.some.inj (hx.symm.trans hy)
    rwa [overrunExtent_stop hx]
  | @cut b x i d _ _ _ _ hb hx hfirst hlaid =>
    obtain ⟨q, -, hrec, -, -, heq⟩ := overrunExtent_some hx
    have hlt : i < b.provEnd := hfirst.stop _ (by rw [heq])
    refine covered_held (e := b.cutAt i) hn hb (isHeld_of_recording hrec) rfl hlt.le (fun y hy hstart => ?_) hp hlo hhi
    obtain rfl := Option.some.inj (hx.symm.trans hy)
    exact hlaid hstart

/-! ### No conflict (R96, R98) -/

/-- Only a held booking's extent is laid before the candidates. -/
theorem not_fixed_of_open (hn : NumbersOk s) {c : Booking} (hc : c ∈ (placeAll s).state.plan.bookings)
    (hopen : c.isOpen = true) {x : Extent} (hx : x.claimant = .booking c.number) : x ∉ (begun s).laid := by
  intro hfixed
  obtain ⟨b, hb, hxb⟩ := List.mem_filterMap.mp hfixed
  obtain ⟨e, hstands, hheld⟩ := stands_fixed hn hb hxb
  have hnumber : c.number = e.number := by
    have := hx.symm.trans hstands.claimant
    exact Claimant.booking.inj this
  obtain rfl := booking_eq_of_number (placeAll_ready hn).numbers.distinct hc hstands.mem hnumber
  exact (isHeld_iff_not_isOpen c).mp hheld hopen

/-- What a PLANNED booking takes up, no other booking takes up against it. -/
theorem no_conflict (hn : NumbersOk s) {c e : Booking} (hc : c ∈ (placeAll s).state.plan.bookings)
    (he : e ∈ (placeAll s).state.plan.bookings) (hstate : c.state = some .planned) (hne : c.number ≠ e.number) {p q : Place}
    (hp : c.place = some p) (hpq : p.tuner = q.tuner) (hocc : occupies s e q (max c.winStart s.present) c.winEnd) :
    s.multiplexOf c.channel = s.multiplexOf e.channel ∧ p.slot ≠ q.slot := by
  obtain ⟨hplaced, hq, hmeet⟩ := hocc
  have hopen := isOpen_of_planned hstate
  obtain ⟨i, hi⟩ : ∃ i, i = max (occupiedFrom s e) (max c.winStart s.present) := ⟨_, rfl⟩
  rw [← hi] at hmeet
  obtain ⟨y, hy⟩ := covered hn he hplaced hq (hi ▸ le_max_left _ _) (hmeet.trans_le (min_le_left _ _))
  obtain ⟨x, hx⟩ := covered (i := i) hn hc (by simp [Booking.isPlaced, hstate]) hp
    (by rw [occupiedFrom_open hopen, hi]; exact le_max_right _ _)
    (by rw [occupiedTo_open hopen]; exact hmeet.trans_le (min_le_right _ _))
  have hclaims : x.claimant ≠ y.claimant := by
    rw [hx.claimant, hy.claimant]
    exact fun h => hne (Claimant.booking.inj h)
  have hapart := placeAll_apart hn x hx.laid y hy.laid hclaims (not_fixed_of_open hn hc hopen hx.claimant)
  have hnot : ¬ x.against y := fun h => hapart h i hx.covers hy.covers
  have htuner : x.tuner = y.tuner := by rw [hx.tuner, hy.tuner, hpq]
  rw [Extent.against, hx.multiplex, hy.multiplex, hx.slot, hy.slot] at hnot
  simpa [htuner] using hnot

end

end Sys2Proof.Machine

/-! PROOFS. Why a booking clashes, is cut, or a hold yields (R99 to R101). -/

namespace Sys2Proof.Machine

section
variable {s : State} {x : Extent}

/-- The hold of a tuner with the yield time that step 4 has settled (R23, R100). -/
def settledHold (s : State) (t : TunerId) (h : ViewerHold) : ViewerHold :=
  { h with yieldTime := ((placeAll s).yield t).map Prod.fst }

/-- Where a booking's extent meets an interval, the booking takes up its place there. -/
theorem Stands.occupies {e : Booking} (h : Stands s x e) (hne : ∀ z, x.stop = some z → x.start < z) {a z : Nat}
    (hz : x.start < z) (haz : a < z) (hx : ∀ y, x.stop = some y → a < y) :
    occupies s e ⟨x.tuner, x.slot⟩ a z := by
  obtain ⟨y, hy, hto⟩ := h.stop
  refine ⟨h.placed, h.place, max_lt (lt_min ?_ ?_) (lt_min ?_ haz)⟩
  · exact (h.start.trans_lt (hne y hy)).trans_le hto
  · exact h.start.trans_lt hz
  · exact (hx y hy).trans_le hto

/-- Where a hold's extent meets an interval, the hold stands there. -/
theorem holdOccupies_of_extent {t : TunerId} {h : ViewerHold}
    (hx : x = holdUntil s t h (((placeAll s).yield t).map Prod.fst))
    (hne : ∀ z, x.stop = some z → x.start < z) {a z : Nat} (hz : x.start < z) (haz : a < z)
    (hstop : ∀ y, x.stop = some y → a < y) : holdOccupies s (settledHold s t h) a z := by
  subst hx
  exact ⟨haz, hz, fun y hy => ⟨hstop y hy, hne y hy⟩⟩

/-- A booking or a hold takes up a tuner in an interval, the booking held or of a tier no lower than `tier`, the hold of a
higher one, and `P` holds of its multiplex and slot. -/
def BlockedBy (s : State) (tier a z : Nat) (t : TunerId) (P : Nat → Nat → Prop) : Prop :=
  (∃ e ∈ (placeAll s).state.plan.bookings, ∃ q : Place, q.tuner = t ∧ (e.isHeld = true ∨ tier ≤ e.tier)
    ∧ occupies s e q a z ∧ P (s.multiplexOf e.channel) q.slot)
  ∨ ∃ h, (s.tuner t).hold = some h ∧ tier < s.settings.viewerTier ∧ holdOccupies s (settledHold s t h) a z
    ∧ P h.multiplex h.slot

theorem Turn.blockedBy (hn : NumbersOk s) (hf : Formed s) {c : Ranked} {after : List Ranked} {u v : Pass}
    (t : Turn s c after u v) (hc : c.isHold = false) (hx : x ∈ u.laid) {n : Need} {y : TunerId} (hm : x.meets y n)
    {P : Nat → Nat → Prop} (hP : P x.multiplex x.slot) : BlockedBy s c.tier n.start n.stop y P := by
  obtain ⟨rfl, hlo, hne, hhi⟩ := hm
  have hnonempty := t.ready.nonempty x hx
  cases t.laid_before hn hf hx with
  | @booking e stands rank =>
    refine .inl ⟨e, stands.mem, _, rfl, rank.imp_right ?_, stands.occupies hnonempty hlo hne hhi, stands.multiplex ▸ hP⟩
    rintro ⟨d, hbefore, -, htier⟩
    exact htier ▸ tier_le_of_ordered hbefore
  | @hold h hh hx hrank =>
    refine .inr ⟨h, hh, tier_lt_of_hold hrank rfl hc, holdOccupies_of_extent hx hnonempty hlo hne hhi, ?_⟩
    rw [hx] at hP
    exact hP

/-! ### A CLASHED booking (R96, R101) -/

/-- A CLASHED booking with time ahead was made so by its turn. -/
theorem clashed_turn (hn : NumbersOk s) {c : Booking} (hc : c ∈ (placeAll s).state.plan.bookings)
    (hstate : c.state = some .clashed)
    (hahead : s.present < c.winEnd ∨ .inl c.number ∈ (rankedCandidates s).map Ranked.subject) :
    ∃ b after u v, Turn s (bookingRank s b) after u v ∧ b ∈ s.plan.bookings
      ∧ c = b.clashedWith (partnersOf s u.laid (b.need s))
      ∧ (s.hasService b.channel = true → choosePlace s u.laid (b.need s) = none)
      ∧ (∀ r f id g, s.request? b.request = some r → r.kind = .series f → b.episode = some id →
        Airing s u.state.guide.entries r f id g → s.hasService g.channel = true →
        choosePlace s u.laid (airNeed s r g) = none) := by
  cases origin hn hc with
  | kept hb hno =>
    rcases kept_cases hb hno with ⟨hheld, -⟩ | ⟨-, -, hend⟩
    · simp [Booking.isHeld, hstate] at hheld
    · exact (hahead.elim (fun h => Nat.not_lt.mpr hend h) hno).elim
  | placed => cases hstate
  | clashed turn hb hc hno hair hnewly => exact ⟨_, _, _, _, turn, hb, rfl, hno, hair⟩
  | alternate => cases hstate
  | ran hb hx =>
    obtain ⟨p, -, hrec, -⟩ := overrunExtent_some hx
    rw [hstate] at hrec
    cases hrec
  | cut turn hb hx =>
    obtain ⟨p, -, hrec, -⟩ := overrunExtent_some hx
    exact absurd (hrec.symm.trans hstate) (by simp)

theorem clashed_blocked (hn : NumbersOk s) (hf : Formed s) {c : Booking} (hc : c ∈ (placeAll s).state.plan.bookings)
    (hstate : c.state = some .clashed) (hfits : max c.winStart s.present < c.winEnd) (hsvc : s.hasService c.channel = true)
    {y : TunerId} (hon : (s.tuner y).enabled = true) (hmask : (s.tuner y).mask.getLsbD (s.networkOf c.channel) = true) :
    BlockedBy s c.tier (max c.winStart s.present) c.winEnd y (fun m _ => m ≠ s.multiplexOf c.channel)
      ∨ ∀ k ≤ 2, BlockedBy s c.tier (max c.winStart s.present) c.winEnd y (fun _ j => j = k) := by
  obtain ⟨b, after, u, v, turn, hb, rfl, hno, -⟩ := clashed_turn hn hc hstate (.inl ((le_max_right _ _).trans_lt hfits))
  rcases blocked_of_choosePlace (hno hsvc) hfits hon hmask with ⟨x, hx, hm, hmux⟩ | hslots
  · exact .inl (turn.blockedBy hn hf rfl hx hm hmux)
  · refine .inr fun k hk => ?_
    obtain ⟨x, hx, hm, hslot⟩ := hslots k hk
    exact turn.blockedBy hn hf rfl hx hm hslot

theorem mem_partnersOf {laid : List Extent} {n : Need} {m : Nat} (h : m ∈ partnersOf s laid n) :
    ∃ x ∈ laid, x.claimant = .booking m ∧ (s.tuner x.tuner).enabled = true
      ∧ (s.tuner x.tuner).mask.getLsbD n.network = true ∧ x.overlaps n.start n.stop = true := by
  obtain ⟨x, hx, hm⟩ := List.mem_filterMap.mp (mem_dedupe.mp (List.mem_of_mem_take h))
  split at hm
  · rename_i k hk
    split at hm
    · rename_i hcond
      cases hm
      simp only [Tuner.reaches, Bool.and_eq_true] at hcond
      exact ⟨x, hx, hk, hcond.1.1, hcond.1.2, hcond.2⟩
    · cases hm
  · cases hm

/-- The partners of a clash take up its time on the tuners that carry it (R101). -/
theorem Turn.partner (hn : NumbersOk s) (hf : Formed s) {c : Ranked} {after : List Ranked} {u v : Pass}
    (t : Turn s c after u v) {n : Need} {m : Nat} (h : m ∈ partnersOf s u.laid n) :
    ∃ b ∈ (placeAll s).state.plan.bookings, b.number = m ∧ ∃ p : Place, (s.tuner p.tuner).enabled = true
      ∧ (s.tuner p.tuner).mask.getLsbD n.network = true ∧ occupies s b p n.start n.stop := by
  obtain ⟨x, hx, hclaimant, hon, hmask, hover⟩ := mem_partnersOf h
  obtain ⟨hlo, hne, hhi⟩ := (overlaps_iff _ _ _).mp hover
  cases t.laid_before hn hf hx with
  | @booking e stands rank =>
    refine ⟨e, stands.mem, ?_, _, hon, hmask, stands.occupies (t.ready.nonempty x hx) hlo hne hhi⟩
    exact Claimant.booking.inj (stands.claimant.symm.trans hclaimant)
  | hold hh hx => rw [hx] at hclaimant; cases hclaimant

theorem partnersOf_empty {laid : List Extent} {n : Need} (h : n.stop ≤ n.start) : partnersOf s laid n = [] := by
  refine List.eq_nil_iff_forall_not_mem.mpr fun m hm => ?_
  obtain ⟨x, -, -, -, -, hover⟩ := mem_partnersOf hm
  exact Nat.not_lt.mpr h ((overlaps_iff _ _ _).mp hover).2.1

theorem dedupe_nodup {α : Type} [DecidableEq α] (xs : List α) : (dedupe xs).Nodup := by
  induction xs with
  | nil => exact List.nodup_nil
  | cons x xs ih =>
    rw [dedupe, List.nodup_cons]
    exact ⟨fun h => by simpa using (List.mem_filter.mp h).2, ih.filter _⟩

theorem partnersOf_short (s : State) (laid : List Extent) (n : Need) :
    (partnersOf s laid n).length ≤ 3 ∧ (partnersOf s laid n).Nodup :=
  ⟨List.length_take_le _ _, (List.take_sublist _ _).nodup (dedupe_nodup _)⟩

/-! ### A cut (R99) -/

/-- Something other than the booking `b` takes up its tuner at an instant against it. -/
def CutFor (s : State) (b : Booking) (p : Place) (i : Nat) : Prop :=
  (∃ e ∈ (placeAll s).state.plan.bookings, e.number ≠ b.number
    ∧ (s.multiplexOf b.channel ≠ s.multiplexOf e.channel ∨ b.place = e.place)
    ∧ ∃ q : Place, q.tuner = p.tuner ∧ occupies s e q i (i + 1))
  ∨ ∃ h, (s.tuner p.tuner).hold = some h ∧ (h.multiplex ≠ s.multiplexOf b.channel ∨ h.slot = p.slot)
    ∧ holdOccupies s (settledHold s p.tuner h) i (i + 1)

/-- A cut is made where something stands in the way: what ends at the cut itself does not. -/
theorem cutFor (hn : NumbersOk s) (hf : Formed s) {b : Booking} {p : Place} (hp : b.place = some p) {x : Extent} {i : Nat}
    {d : Claimant} {after : List Ranked} {u v : Pass} (turn : Turn s (overrunRank s b) after u v)
    (hx : overrunExtent s b = some x) (hfirst : FirstConflict u.laid x i d)
    (stays : b.cutAt i ∈ (placeAll s).state.plan.bookings) : CutFor s b p i := by
  obtain ⟨q, hq, hrec, -, -, rfl⟩ := overrunExtent_some hx
  obtain rfl : p = q := Option.some.inj (hp.symm.trans hq)
  obtain ⟨y, hy, ⟨htuner, hway⟩, -, -, hlo, hhi⟩ := hfirst.found
  have hnonempty := turn.ready.nonempty y hy
  cases turn.laid_before hn hf hy with
  | @booking e stands rank =>
    refine .inl ⟨e, stands.mem, fun hnumber => ?_, ?_, _, htuner,
      stands.occupies hnonempty (Nat.lt_succ_of_le hlo) (Nat.lt_succ_self i) hhi⟩
    · obtain rfl := booking_eq_of_number (placeAll_ready hn).numbers.distinct stands.mem stays hnumber
      obtain ⟨z, hz, hto⟩ := stands.stop
      exact Nat.not_lt.mpr (hto.trans_eq (occupiedTo_recording hrec)) (hhi z hz)
    · rw [hp, stands.place]
      refine hway.imp (fun hmux => fun h => hmux (stands.multiplex.trans h.symm)) fun hslot => ?_
      rw [htuner, hslot]
  | @hold h hh hyh hrank =>
    rw [htuner] at hh hyh
    have hsame : y.multiplex = h.multiplex ∧ y.slot = h.slot := by rw [hyh]; exact ⟨rfl, rfl⟩
    refine .inr ⟨h, hh, hway.imp (fun hmux => hsame.1 ▸ hmux) (fun hslot => hsame.2 ▸ hslot), ?_⟩
    exact holdOccupies_of_extent hyh hnonempty (Nat.lt_succ_of_le hlo) (Nat.lt_succ_self i) hhi

/-! ### A viewer hold (R100) -/

/-- A hold that has been settled: it stands without end, or yields. -/
inductive HoldFate (s : State) (t : TunerId) (h : ViewerHold) : Prop
  | stands (hyield : (placeAll s).yield t = none) (hlaid : holdUntil s t h none ∈ (placeAll s).laid)
  | yields {i : Nat} {d : Claimant} {after : List Ranked} {u v : Pass} (turn : Turn s (holdRank s t) after u v)
      (hyield : (placeAll s).yield t = some (i, d.reported)) (hfirst : FirstConflict u.laid (holdUntil s t h none) i d)
      (hlaid : s.present < i → holdUntil s t h (some i) ∈ (placeAll s).laid)

theorem hold_fate (hn : NumbersOk s) {t : TunerId} {h : ViewerHold} (hh : (s.tuner t).hold = some h) : HoldFate s t h := by
  obtain ⟨after, u, v, turn⟩ := turn_of_mem hn
    (mem_rankedCandidates.mpr (.inr (.inr ⟨t, by rw [hh]; rfl, rfl⟩)))
  have htaken := turn.taken
  generalize hd : holdRank s t = d at htaken
  cases htaken with
  | placed | clashed | replaced | ran | cut => cases congrArg Ranked.candidate hd
  | @stood y k claims hk hfree =>
    obtain rfl : t = y := Candidate.hold.inj (congrArg Ranked.candidate hd)
    obtain rfl : h = k := Option.some.inj (hh.symm.trans hk)
    exact .stands ((turn.yield rfl).trans (turn.yield_before rfl))
      (turn.laid_subset (List.mem_append_right _ List.mem_cons_self))
  | @yielded y k i d claims hk hfirst =>
    obtain rfl : t = y := Candidate.hold.inj (congrArg Ranked.candidate hd)
    obtain rfl : h = k := Option.some.inj (hh.symm.trans hk)
    refine .yields turn ((turn.yield rfl).trans (Pass.withYield_same _ _ _)) hfirst fun hlt => turn.laid_subset ?_
    rw [Pass.withYield_laid]
    dsimp only
    rw [if_pos hlt]
    exact List.mem_append_right _ List.mem_cons_self

theorem present_le_occupiedFrom (s : State) (b : Booking) : s.present ≤ occupiedFrom s b := by
  unfold occupiedFrom
  split
  · exact le_rfl
  · exact le_max_right _ _

/-- A hold yields to a booking that begins against it at the yield time. -/
theorem yield_to (hn : NumbersOk s) (hf : Formed s) {t : TunerId} {h : ViewerHold} (hh : (s.tuner t).hold = some h)
    {i n : Nat} (hy : (placeAll s).yield t = some (i, n)) : ∃ b ∈ (placeAll s).state.plan.bookings, b.number = n
      ∧ (∃ p, b.place = some p ∧ p.tuner = t ∧ (s.multiplexOf b.channel ≠ h.multiplex ∨ p.slot = h.slot)
        ∧ occupies s b p i (i + 1)) ∧ occupiedFrom s b = i := by
  cases hold_fate hn hh with
  | stands hyield => rw [hyield] at hy; cases hy
  | @yields j d after u v turn hyield hfirst hlaid =>
    obtain ⟨rfl, rfl⟩ := Prod.mk.inj (Option.some.inj (hyield.symm.trans hy))
    obtain ⟨y, hy, ⟨htuner, hway⟩, hclaimant, hj, hlo, hhi⟩ := hfirst.found
    cases turn.laid_before hn hf hy with
    | @booking e stands rank =>
      refine ⟨e, stands.mem, ?_, ⟨_, stands.place, htuner, stands.multiplex ▸ hway,
        stands.occupies (turn.ready.nonempty y hy) (Nat.lt_succ_of_le hlo) (Nat.lt_succ_self _) hhi⟩, ?_⟩
      · rw [← hclaimant, stands.claimant]; rfl
      · have hfrom : s.present ≤ occupiedFrom s e := by
          unfold occupiedFrom
          split
          · exact le_rfl
          · exact le_max_right _ _
        have hj : j = max y.start s.present := hj
        rcases stands.first with hstart | hstart | ⟨z, hz, hzt, hzs, hzm, hcovers⟩
        · rw [hj, hstart, max_eq_left hfrom]
        · have := stands.start
          rw [hj, hstart, max_self]
          exact le_antisymm (hstart ▸ this) hfrom
        · have hagainst : z.against (holdUntil s t h none) := ⟨hzt.trans htuner, by rw [hzm, hzs]; exact hway⟩
          have hle := hfirst.least z (turn.earlier.laid_subset hz) hagainst s.present hcovers ⟨le_rfl, fun _ h => by cases h⟩
          have := stands.start
          omega
    | @hold k hk hyk hrank =>
      rw [show y.tuner = t from htuner] at hyk
      have hstop : y.stop = some j := by rw [hyk, hyield]; rfl
      exact absurd (hhi j hstop) (Nat.lt_irrefl j)

/-- What stands against a hold begins no earlier than the hold's yield time. -/
theorem yields_by (hn : NumbersOk s) {t : TunerId} {h : ViewerHold} (hh : (s.tuner t).hold = some h) {b : Booking}
    (hb : b ∈ (placeAll s).state.plan.bookings) {p : Place} (hp : p.tuner = t)
    (hway : s.multiplexOf b.channel ≠ h.multiplex ∨ p.slot = h.slot) {a z : Nat} (hocc : occupies s b p a z) :
    ∃ i n, (placeAll s).yield t = some (i, n) ∧ i ≤ occupiedFrom s b := by
  obtain ⟨hplaced, hplace, hmeet⟩ := hocc
  obtain ⟨y, hy⟩ := covered hn hb hplaced hplace le_rfl
    ((le_max_left _ _).trans_lt (hmeet.trans_le (min_le_left _ _)))
  have hfrom := present_le_occupiedFrom s b
  have hclash : ∀ stop, holdUntil s t h stop ∈ (placeAll s).laid → ¬ (holdUntil s t h stop).covers (occupiedFrom s b) := by
    intro stop hlaid hcovers
    have hnew : holdUntil s t h stop ∉ (begun s).laid := fun hmem => by
      obtain ⟨e, -, hx⟩ := List.mem_filterMap.mp hmem
      obtain ⟨q, -, -, -, heq⟩ := fixedExtent_some hx
      cases congrArg Extent.claimant heq
    refine placeAll_apart hn _ hlaid y hy.laid (by rw [hy.claimant]; rintro ⟨⟩) hnew ⟨?_, ?_⟩ _ hcovers hy.covers
    · exact hp.symm.trans hy.tuner.symm
    · rw [hy.multiplex, hy.slot]; exact hway.imp Ne.symm Eq.symm
  cases hold_fate hn hh with
  | stands hyield hlaid => exact absurd ⟨hfrom, fun _ h => by cases h⟩ (hclash _ hlaid)
  | @yields i d after u v turn hyield hfirst hlaid =>
    refine ⟨i, _, hyield, Nat.not_lt.mp fun hlt => ?_⟩
    exact hclash _ (hlaid (hfrom.trans_lt hlt)) ⟨hfrom, fun z hz => by cases hz; exact hlt⟩

end

end Sys2Proof.Machine

/-! PROOFS. What a pass reports (R102, R103, R109). -/

namespace Sys2Proof.Machine

/-! ### Notices that join (R156, R161, R162) -/

/-- At most `n` notices have joined a queue, each of them one that `P` holds of; with room for them all, none has given
way. -/
structure Joins (P : Notice → Prop) (n : Nat) (q r : List Notice) : Prop where
  length : r.length ≤ q.length + n
  fresh : ∀ m ∈ r, m ∈ q ∨ P m
  kept : q.length + n ≤ 24 → q ⊆ r

namespace Joins
variable {P Q : Notice → Prop} {n m : Nat} {q r t : List Notice}

theorem refl (P : Notice → Prop) (q : List Notice) : Joins P 0 q q := ⟨le_rfl, fun _ => .inl, fun _ => List.Subset.refl _⟩

theorem trans (h : Joins P n q r) (k : Joins P m r t) : Joins P (n + m) q t where
  length := by have := h.length; have := k.length; omega
  fresh x hx := (k.fresh x hx).elim (h.fresh x) .inr
  kept hroom := List.Subset.trans (h.kept (by omega)) (k.kept (by have := h.length; omega))

theorem weaken (h : Joins P n q r) (hle : n ≤ m) (hPQ : ∀ x, P x → Q x) : Joins Q m q r where
  length := h.length.trans (Nat.add_le_add_left hle _)
  fresh x hx := (h.fresh x hx).imp_right (hPQ x)
  kept hroom := h.kept (by omega)

end Joins

theorem dropOldestEdge_subset {q r : List Notice} (h : dropOldestEdge q = some r) : r ⊆ q := by
  induction q generalizing r with
  | nil => cases h
  | cons n ns ih =>
    simp only [dropOldestEdge] at h
    split at h
    · cases h; exact List.subset_cons_self _ _
    · obtain ⟨t, ht, rfl⟩ := Option.map_eq_some_iff.mp h
      exact List.cons_subset_cons _ (ih ht)

theorem joinNotice_joins (s : State) (n : Notice) :
    Joins (· = n) 1 s.outbox.notices (s.joinNotice n).outbox.notices := by
  have hcap : Config.maxNotices = 24 := rfl
  unfold State.joinNotice
  split
  · exact ⟨by simp, fun m hm => (List.mem_append.mp hm).imp_right List.mem_singleton.mp,
      fun _ => List.subset_append_left _ _⟩
  · rename_i hfull
    split
    · rename_i q hq
      have hlength := (dropOldestEdge_spec hq).1
      refine ⟨by simp; omega, fun m hm => ?_, fun hroom => absurd hroom (by omega)⟩
      exact (List.mem_append.mp hm).imp (fun h => dropOldestEdge_subset hq h) List.mem_singleton.mp
    · exact (Joins.refl _ _).weaken (Nat.zero_le _) fun _ => id

theorem edgeEvent_notices_joins (s : State) (n : Notice) :
    Joins (· = n) 1 s.outbox.notices (s.edgeEvent n).outbox.notices := by
  unfold State.edgeEvent
  split
  · exact (Joins.refl _ _).weaken (Nat.zero_le _) fun _ => id
  · exact joinNotice_joins s n

theorem sample_joins (s : State) (l : LevelSource) :
    Joins (fun m => m.source = .level l) 1 s.outbox.notices (s.sample l).outbox.notices := by
  unfold State.sample
  split
  · exact (joinNotice_joins s _).weaken le_rfl fun m hm => hm ▸ notice_source _ _
  · exact (Joins.refl _ _).weaken (Nat.zero_le _) fun _ => id

/-! ### What step 4 reports -/

/-- A notice is of a booking's end. -/
def Notice.IsEnd (n : Notice) : Prop := ∃ x, n = .bookingEnd x

/-- How many candidates of bookings, open or overrun, are in a list. -/
def bookingsIn (cs : List Ranked) : Nat := (cs.filter fun c => !c.isHold).length

section
variable {s : State}

/-- A candidate of a booking brings one notice or one newly CLASHED booking, a hold neither. -/
theorem Taken.reports {w v : Pass} {c : Ranked} (h : Taken s w c v) :
    ∃ k j, Joins Notice.IsEnd k w.state.outbox.notices v.state.outbox.notices
    ∧ v.newly.length ≤ w.newly.length + j ∧ k + j ≤ bookingsIn [c] := by
  have hsilent : Joins Notice.IsEnd 0 w.state.outbox.notices w.state.outbox.notices := .refl _ _
  cases h with
  | placed => exact ⟨0, 0, hsilent, le_rfl, Nat.zero_le _⟩
  | clashed =>
    refine ⟨0, 1, hsilent, ?_, le_rfl⟩
    dsimp only
    split
    · exact Nat.le_succ _
    · simp
  | replaced _ _ _ _ _ _ _ _ _ _ _ _ _ _ hnotices =>
    refine ⟨1, 0, ?_, le_rfl, le_rfl⟩
    rw [hnotices]
    exact (edgeEvent_notices_joins _ _).weaken le_rfl fun m hm => ⟨_, hm⟩
  | ran => exact ⟨0, 0, hsilent, le_rfl, Nat.zero_le _⟩
  | cut => exact ⟨0, 0, hsilent, le_rfl, Nat.zero_le _⟩
  | stood => exact ⟨0, 0, hsilent, le_rfl, Nat.zero_le _⟩
  | yielded => rw [Pass.withYield_state, Pass.withYield_newly]; exact ⟨0, 0, hsilent, le_rfl, Nat.zero_le _⟩

theorem Steps.reports {w v : Pass} {cs ds : List Ranked} (h : Steps s w cs v ds) :
    ∃ k j, Joins Notice.IsEnd k w.state.outbox.notices v.state.outbox.notices ∧ v.newly.length ≤ w.newly.length + j
      ∧ k + j + bookingsIn ds ≤ bookingsIn cs := by
  induction h with
  | refl => exact ⟨0, 0, .refl _ _, le_rfl, by omega⟩
  | @cons w v u c cs ds ready taken rest ih =>
    obtain ⟨k, j, hjoins, hnewly, hcount⟩ := ih
    obtain ⟨k', j', hjoins', hnewly', hcount'⟩ := taken.reports
    have hcons : bookingsIn (c :: cs) = bookingsIn [c] + bookingsIn cs := by
      unfold bookingsIn
      rw [← List.length_append, ← List.filter_append]; rfl
    exact ⟨k' + k, j' + j, hjoins'.trans hjoins, by omega, by omega⟩

theorem bookingsIn_ranked (s : State) : bookingsIn (rankedCandidates s) ≤ s.plan.bookings.length := by
  have hperm : bookingsIn (rankedCandidates s) = bookingsIn
      ((s.plan.bookings.map (candidatesOf s)).flatten ++ holdCandidate s .a ++ holdCandidate s .b) :=
    ((sortBy_perm _ _).filter _).length_eq
  have hhold : ∀ x, (holdCandidate s x).filter (fun c => !c.isHold) = [] := by
    intro x
    rw [holdCandidate_eq]
    split <;> rfl
  have hflat := (flatten_candidates_subjects s s.plan.bookings).length_le
  rw [List.length_map, List.length_map] at hflat
  rw [hperm, bookingsIn, List.filter_append, List.filter_append, hhold, hhold, List.append_nil, List.append_nil]
  exact (List.length_filter_le _ _).trans hflat

/-- Step 4 leaves room for what it has to report where there was room for one notice of each booking. -/
theorem placeAll_reports (hn : NumbersOk s) : ∃ k, Joins Notice.IsEnd k s.outbox.notices (placeAll s).state.outbox.notices
    ∧ k + (placeAll s).newly.length ≤ s.plan.bookings.length := by
  obtain ⟨k, j, hjoins, hnewly, hcount⟩ := (placeAll_steps hn).reports
  refine ⟨k, hjoins, ?_⟩
  have hle := bookingsIn_ranked s
  have hempty : (begun s).newly.length = 0 := rfl
  omega

/-- A newly CLASHED booking is CLASHED and was not (R102). -/
theorem newly_clashed (hn : NumbersOk s) {n : Nat} (h : n ∈ (placeAll s).newly) : ∃ b ∈ s.plan.bookings, b.number = n
    ∧ b.state ≠ some .clashed ∧ ∃ ps, b.clashedWith ps ∈ (placeAll s).state.plan.bookings := by
  rcases (placeAll_steps hn).turning (fun w _ => n ∈ w.newly) h with
    hno | ⟨c, after, u, v, hu, hready, htaken, hv, hnot, hmem⟩
  · cases hno
  · have turn : Turn s c after u v := ⟨hu, hready, htaken, hv⟩
    cases htaken with
    | @clashed b bs hb hc hno hair hbs =>
      dsimp only at hmem
      split at hmem
      · exact absurd hmem hnot
      · rename_i hstate
        obtain rfl := List.mem_singleton.mp ((List.mem_append.mp hmem).resolve_left hnot)
        exact ⟨b, hb, rfl, hstate, _, turn.stays (x := b.clashedWith _) (hbs.mem_iff.mpr List.mem_cons_self) rfl⟩
    | yielded => rw [Pass.withYield_newly] at hmem; exact absurd hmem hnot
    | _ => exact absurd hmem hnot

end

end Sys2Proof.Machine

/-! PROOFS. Steps 5 to 7 of a pass: clashes, flags and what is handed on (R102, R103, R106, R109, R117). -/

namespace Sys2Proof.Machine

/-! ### Steps 5 and 6 -/

/-- A state with the notices, the lost count and the in-service flags of another. -/
def State.heard (s u : State) : State :=
  { s with
    outbox := { s.outbox with notices := u.outbox.notices, lost := u.outbox.lost }
    alerts := { s.alerts with inService := u.alerts.inService } }

/-- From `s` to `u` notices alone have joined or gone. -/
def Heard (s u : State) : Prop := u = s.heard u

namespace Heard
variable {s u v : State}

theorem refl (s : State) : Heard s s := rfl

theorem trans (h : Heard s u) (k : Heard u v) : Heard s v :=
  calc v = u.heard v := k
    _ = (s.heard u).heard v := congrArg (fun x : State => x.heard v) (show u = s.heard u from h)
    _ = s.heard v := rfl

theorem read {α : Type} (h : Heard s u) (f : State → α) (hf : f (s.heard u) = f s) : f u = f s :=
  (congrArg f (show u = s.heard u from h)).trans hf

theorem plan (h : Heard s u) : u.plan = s.plan := h.read State.plan rfl

end Heard

theorem edgeEvent_heard (s : State) (n : Notice) : Heard s (s.edgeEvent n) := by
  unfold State.edgeEvent
  split
  · exact .refl s
  · unfold Heard
    have halerts : (s.joinNotice n).alerts = s.alerts := by rw [joinNotice_eq]
    conv_lhs => rw [joinNotice_eq]
    simp only [State.heard, halerts]

theorem sample_heard (s : State) (l : LevelSource) : Heard s (s.sample l) := sample_eq s l

theorem clashEvent_of_mem {s : State} (h : (s.plan.bookings.map Booking.number).Nodup) {b : Booking}
    (hb : b ∈ s.plan.bookings) : clashEvent s b.number = s.edgeEvent (.clashNew b.number b.partners) := by
  rw [clashEvent, booking?_of_mem h hb]

theorem clashEvent_heard (s : State) (n : Nat) : Heard s (clashEvent s n) := by
  unfold clashEvent
  split
  · exact edgeEvent_heard _ _
  · exact .refl s

/-- A notice announces one of some bookings of a list as newly CLASHED. -/
def Announces (bs : List Booking) (ns : List Nat) (m : Notice) : Prop :=
  ∃ b ∈ bs, b.number ∈ ns ∧ m = .clashNew b.number b.partners

theorem clashEvent_joins (s : State) (n : Nat) :
    Joins (Announces s.plan.bookings [n]) 1 s.outbox.notices (clashEvent s n).outbox.notices := by
  unfold clashEvent
  split
  · rename_i b hb
    obtain ⟨hmem, hnumber⟩ := booking?_mem hb
    exact (edgeEvent_notices_joins _ _).weaken le_rfl fun m hm =>
      ⟨b, hmem, hnumber ▸ List.mem_singleton_self _, hnumber ▸ hm⟩
  · exact (Joins.refl _ _).weaken (Nat.zero_le _) fun _ => id

theorem clashEvents_heard (ns : List Nat) (s : State) : Heard s (ns.foldl clashEvent s) := by
  induction ns generalizing s with
  | nil => exact .refl s
  | cons n ns ih => exact (clashEvent_heard s n).trans (ih _)

theorem clashEvents_joins (ns : List Nat) (s : State) : Joins (Announces s.plan.bookings ns) ns.length
    s.outbox.notices (ns.foldl clashEvent s).outbox.notices := by
  induction ns generalizing s with
  | nil => exact .refl _ _
  | cons n ns ih =>
    have hrest := ih (clashEvent s n)
    rw [(clashEvent_heard s n).plan] at hrest
    have hone := clashEvent_joins s n
    refine ((hone.weaken le_rfl ?_).trans (hrest.weaken le_rfl ?_)).weaken (by rw [List.length_cons]; omega) fun _ => id
    · rintro m ⟨b, hb, hn, hm⟩
      exact ⟨b, hb, List.mem_cons.mpr (.inl (List.mem_singleton.mp hn)), hm⟩
    · rintro m ⟨b, hb, hn, hm⟩
      exact ⟨b, hb, List.mem_cons_of_mem _ hn, hm⟩

/-- With room, and the source unmasked, each of them is announced. -/
theorem clashEvents_announce {ns : List Nat} {s : State} (hd : (s.plan.bookings.map Booking.number).Nodup)
    (hmask : s.alerts.masks.edge.clashNew = false) (hroom : s.outbox.notices.length + ns.length ≤ 24) {b : Booking}
    (hb : b ∈ s.plan.bookings) (hn : b.number ∈ ns) :
    .clashNew b.number b.partners ∈ (ns.foldl clashEvent s).outbox.notices := by
  induction ns generalizing s with
  | nil => cases hn
  | cons n ns ih =>
    have hplan := (clashEvent_heard s n).plan
    have hmasks : (clashEvent s n).alerts.masks = s.alerts.masks := (clashEvent_heard s n).read (fun u => u.alerts.masks) rfl
    have hone := (clashEvent_joins s n).length
    rw [List.length_cons] at hroom
    rcases List.mem_cons.mp hn with rfl | hn
    · refine (clashEvents_joins ns _).kept (by omega) ?_
      rw [clashEvent_of_mem hd hb, edgeEvent_joins (n := .clashNew b.number b.partners) hmask (by omega)]
      exact List.mem_append_right _ List.mem_cons_self
    · exact ih (hplan ▸ hd) (hmasks ▸ hmask) (by omega) (hplan ▸ hb) hn

/-- A state with the plan, the notices, the counts and the in-service flags of another. -/
def State.reported (s u : State) : State :=
  { s with
    plan := u.plan
    outbox := { s.outbox with notices := u.outbox.notices, lost := u.outbox.lost }
    alerts := { s.alerts with
      inService := u.alerts.inService, clashCount := u.alerts.clashCount, spaceCount := u.alerts.spaceCount } }

/-- From `s` to `u` nothing else has changed. -/
def Reporting (s u : State) : Prop := u = s.reported u

namespace Reporting
variable {s u v : State}

theorem trans (h : Reporting s u) (k : Reporting u v) : Reporting s v :=
  calc v = u.reported v := k
    _ = (s.reported u).reported v := congrArg (fun x : State => x.reported v) (show u = s.reported u from h)
    _ = s.reported v := rfl

theorem read {α : Type} (h : Reporting s u) (f : State → α) (hf : f (s.reported u) = f s) : f u = f s :=
  (congrArg f (show u = s.reported u from h)).trans hf

end Reporting

theorem Heard.reporting {s u : State} (h : Heard s u) : Reporting s u := by
  have hu : u = s.heard u := h
  unfold Reporting
  conv_lhs => rw [hu]
  rw [hu]
  rfl

/-- What steps 5 and 6 make of the outcome of step 4. -/
structure Reported (w : Pass) (r : State) : Prop where
  flags : ∃ u : State, r.plan = { w.state.plan with
    occupancy := w.laid, bookings := flagSpace u 0 w.state.plan.bookings }
  frame : Reporting w.state r
  clashes : r.alerts.clashCount = (w.state.inState .clashed).length
  shorts : r.alerts.spaceCount = flaggedCount r
  notices : Joins (fun m => Announces w.state.plan.bookings w.newly m ∨ ∃ l, m.source = .level l) (w.newly.length + 2)
    w.state.outbox.notices r.outbox.notices
  announced : (w.state.plan.bookings.map Booking.number).Nodup → w.state.alerts.masks.edge.clashNew = false →
    w.state.outbox.notices.length + w.newly.length + 2 ≤ 24 → ∀ b ∈ w.state.plan.bookings, b.number ∈ w.newly →
    .clashNew b.number b.partners ∈ r.outbox.notices

theorem reportPass_reported (w : Pass) : Reported w (reportPass w).state := by
  obtain ⟨s, hs⟩ : ∃ s : State, s = { w.state with plan := { w.state.plan with occupancy := w.laid } } := ⟨_, rfl⟩
  obtain ⟨t, ht⟩ : ∃ t, t = w.newly.foldl clashEvent s := ⟨_, rfl⟩
  obtain ⟨u, hu⟩ : ∃ u, u = t.reportClashes (t.inState .clashed).length := ⟨_, rfl⟩
  have hr : (reportPass w).state = spacePart u := by rw [hu, ht, hs]; rfl
  have hst : Heard s t := ht ▸ clashEvents_heard _ _
  have htu : Heard { t with alerts := { t.alerts with clashCount := (t.inState .clashed).length } } u :=
    hu ▸ sample_heard _ _
  have hur : Heard { u.withBookings (flagSpace u 0 u.plan.bookings) with alerts := { u.alerts with
      spaceCount := flaggedCount (u.withBookings (flagSpace u 0 u.plan.bookings)) } } (spacePart u) := sample_heard _ _
  have hplan : u.plan = s.plan := htu.plan.trans hst.plan
  have hbookings : s.plan.bookings = w.state.plan.bookings := by rw [hs]
  have hjoins : Joins (fun m => Announces w.state.plan.bookings w.newly m ∨ ∃ l, m.source = .level l)
      w.newly.length s.outbox.notices t.outbox.notices := by
    rw [ht, ← hbookings]
    exact (clashEvents_joins _ _).weaken le_rfl fun _ => .inl
  have hclash : Joins (fun m => Announces w.state.plan.bookings w.newly m ∨ ∃ l, m.source = .level l) 1
      t.outbox.notices u.outbox.notices := by
    rw [hu]
    exact Joins.weaken (sample_joins { t with alerts := { t.alerts with clashCount := (t.inState .clashed).length } } _)
      le_rfl fun _ hm => .inr ⟨_, hm⟩
  have hspace : Joins (fun m => Announces w.state.plan.bookings w.newly m ∨ ∃ l, m.source = .level l) 1
      u.outbox.notices (spacePart u).outbox.notices :=
    Joins.weaken (sample_joins { u.withBookings (flagSpace u 0 u.plan.bookings) with alerts := { u.alerts with
      spaceCount := flaggedCount (u.withBookings (flagSpace u 0 u.plan.bookings)) } } _) le_rfl fun _ hm => .inr ⟨_, hm⟩
  have hsn : s.outbox = w.state.outbox := by rw [hs]
  rw [hr]
  refine {
    flags := ⟨u, ?_⟩
    frame := ?_
    clashes := ?_
    shorts := spacePart_spaceCount u
    notices := ?_
    announced := fun hd hmask hroom b hb hn => ?_ }
  · rw [spacePart_plan, hplan, hs]
  · have hws : Reporting w.state s := hs ▸ rfl
    have hcount : Reporting t { t with alerts := { t.alerts with clashCount := (t.inState .clashed).length } } := rfl
    have hflags : Reporting u { u.withBookings (flagSpace u 0 u.plan.bookings) with alerts := { u.alerts with
      spaceCount := flaggedCount (u.withBookings (flagSpace u 0 u.plan.bookings)) } } := rfl
    exact ((hws.trans hst.reporting).trans (hcount.trans htu.reporting)).trans (hflags.trans hur.reporting)
  · have hcounted : u.alerts.clashCount = (t.inState .clashed).length := htu.read (fun x => x.alerts.clashCount) rfl
    have hkept : (spacePart u).alerts.clashCount = u.alerts.clashCount := hur.read (fun x => x.alerts.clashCount) rfl
    rw [hkept, hcounted, State.inState, hst.plan, hbookings]
    rfl
  · rw [← hsn]; exact hjoins.trans (hclash.trans hspace)
  · have hone : .clashNew b.number b.partners ∈ t.outbox.notices := by
      rw [ht]
      exact clashEvents_announce (by rw [hbookings]; exact hd) (by rw [hs]; exact hmask) (by rw [hsn]; omega)
        (by rw [hbookings]; exact hb) hn
    have hlength := hjoins.length
    rw [hsn] at hlength
    exact (hclash.trans hspace).kept (by omega) hone

end Sys2Proof.Machine

/-! PROOFS. What a pass hands on, and how its outcome reads off step 4 (R106, R117). -/

namespace Sys2Proof.Machine

/-! ### A booking's flag and expiries -/

/-- A booking as a pass leaves it: flagged, its expiries in line with its state (R109, R117). -/
structure Dressed (set : Settings) (c d : Booking) : Prop where
  aligned : d = alignBooking set { c with spaceShort := d.spaceShort }
  unflagged : c.state ≠ some .planned → c.state ≠ some .late → c.state ≠ some .clashed → d.spaceShort = c.spaceShort

theorem alignBooking_face (set : Settings) (c : Booking) : alignBooking set c = { c with
    windowExpiry := (alignBooking set c).windowExpiry, lateExpiry := (alignBooking set c).lateExpiry
    provExpiry := (alignBooking set c).provExpiry } := by
  unfold alignBooking; split <;> rfl

theorem alignBooking_planned {set : Settings} {c : Booking} (h : c.state = some .planned) :
    alignBooking set c = { c with windowExpiry := some c.winStart, lateExpiry := none } := by
  unfold alignBooking; rw [h]

theorem alignBooking_clashed {set : Settings} {c : Booking} (h : c.state = some .clashed) :
    alignBooking set c = { c with windowExpiry := none, lateExpiry := some (lateLimitOf set c) } := by
  unfold alignBooking; rw [h]

theorem alignBooking_recording {set : Settings} {c : Booking} (h : c.state = some .recording) :
    alignBooking set c = { c with provExpiry := some c.provEnd } := by
  unfold alignBooking; rw [h]

theorem alignBooking_held {set : Settings} {c : Booking} (h : c.isHeld = true) :
    alignBooking set c = { c with provExpiry := (alignBooking set c).provExpiry } := by
  unfold alignBooking
  split
  · rename_i hs; simp [Booking.isHeld, hs] at h
  · rename_i hs; simp [Booking.isHeld, hs] at h
  · rfl
  · rfl

namespace Dressed
variable {set : Settings} {c d : Booking}

theorem face (h : Dressed set c d) : d = { c with
    spaceShort := d.spaceShort, windowExpiry := d.windowExpiry, lateExpiry := d.lateExpiry
    provExpiry := d.provExpiry } := by
  have haligned := h.aligned
  rw [alignBooking_face] at haligned
  generalize alignBooking set { c with spaceShort := d.spaceShort } = e at haligned
  rw [haligned]

theorem state (h : Dressed set c d) : d.state = c.state := by rw [h.face]
theorem number (h : Dressed set c d) : d.number = c.number := by rw [h.face]
theorem channel (h : Dressed set c d) : d.channel = c.channel := by rw [h.face]
theorem place (h : Dressed set c d) : d.place = c.place := by rw [h.face]
theorem winStart (h : Dressed set c d) : d.winStart = c.winStart := by rw [h.face]
theorem winEnd (h : Dressed set c d) : d.winEnd = c.winEnd := by rw [h.face]
theorem provEnd (h : Dressed set c d) : d.provEnd = c.provEnd := by rw [h.face]
theorem tier (h : Dressed set c d) : d.tier = c.tier := by rw [h.face]
theorem partners (h : Dressed set c d) : d.partners = c.partners := by rw [h.face]
theorem isHeld (h : Dressed set c d) : d.isHeld = c.isHeld := by rw [h.face]; rfl
theorem isOpen (h : Dressed set c d) : d.isOpen = c.isOpen := by rw [h.face]; rfl

theorem held (h : Dressed set c d) (hheld : c.isHeld = true) :
    d = { c with spaceShort := d.spaceShort, provExpiry := d.provExpiry } := by
  have haligned := h.aligned
  rw [alignBooking_held (show Booking.isHeld { c with spaceShort := d.spaceShort } = true from hheld)] at haligned
  generalize alignBooking set { c with spaceShort := d.spaceShort } = e at haligned
  rw [haligned]

theorem planned (h : Dressed set c d) (hs : c.state = some .planned) :
    d.windowExpiry = some c.winStart ∧ d.lateExpiry = none := by
  rw [h.aligned, alignBooking_planned (c := { c with spaceShort := d.spaceShort }) hs]
  exact ⟨rfl, rfl⟩

theorem clashed (h : Dressed set c d) (hs : c.state = some .clashed) :
    d.windowExpiry = none ∧ d.lateExpiry = some (lateLimitOf set c) := by
  rw [h.aligned, alignBooking_clashed (c := { c with spaceShort := d.spaceShort }) hs]
  exact ⟨rfl, rfl⟩

theorem recording (h : Dressed set c d) (hs : c.state = some .recording) : d.provExpiry = some c.provEnd := by
  rw [h.aligned, alignBooking_recording (c := { c with spaceShort := d.spaceShort }) hs]

theorem lateLimit (h : Dressed set c d) (any : Settings) : lateLimitOf any d = lateLimitOf any c := by
  unfold lateLimitOf; rw [h.winStart, h.winEnd]

theorem occupies (h : Dressed set c d) {s t : State} (hp : t.present = s.present) (p : Place) (a z : Nat) :
    occupies t d p a z ↔ Machine.occupies s c p a z := by
  have hfrom : occupiedFrom t d = occupiedFrom s c := by unfold occupiedFrom; rw [h.isHeld, h.winStart, hp]
  have hto : occupiedTo d = occupiedTo c := by unfold occupiedTo; rw [h.state, h.isHeld, h.provEnd, h.winEnd]
  have hplaced : d.isPlaced = c.isPlaced := by unfold Booking.isPlaced; rw [h.state, h.isHeld]
  unfold Machine.occupies
  rw [hfrom, hto, hplaced, h.place]

theorem occupiedFrom (h : Dressed set c d) {s t : State} (hp : t.present = s.present) :
    Machine.occupiedFrom t d = Machine.occupiedFrom s c := by unfold Machine.occupiedFrom; rw [h.isHeld, h.winStart, hp]

end Dressed

theorem flagSpace_dressed (u : State) (set : Settings) (n : Nat) (bs : List Booking) :
    List.Forall₂ (Dressed set) bs ((flagSpace u n bs).map (alignBooking set)) := by
  induction bs generalizing n with
  | nil => exact .nil
  | cons b bs ih =>
    simp only [flagSpace, List.map_cons]
    refine .cons ?_ (ih _)
    have hflag : ∀ c, (alignBooking set c).spaceShort = c.spaceShort := fun c => by rw [alignBooking_face]
    split
    · rename_i hs
      exact ⟨by rw [hflag], fun h k _ => (hs.elim h k).elim⟩
    · split
      · rename_i hs
        exact ⟨by rw [hflag], fun _ _ h => absurd hs h⟩
      · exact ⟨by rw [hflag], fun _ _ _ => hflag b⟩

theorem forall₂_left {α β : Type} {R : α → β → Prop} {xs : List α} {ys : List β} (h : List.Forall₂ R xs ys) {x : α}
    (hx : x ∈ xs) : ∃ y ∈ ys, R x y := by
  induction h with
  | nil => cases hx
  | cons hxy _ ih =>
    rcases List.mem_cons.mp hx with rfl | hx
    · exact ⟨_, List.mem_cons_self, hxy⟩
    · obtain ⟨y, hy, hr⟩ := ih hx
      exact ⟨y, List.mem_cons_of_mem _ hy, hr⟩

/-! ### Step 7: what a pass hands on (R106) -/

/-- A state with the tuners, the wake expiry with its cause and the agenda of another. -/
def State.handed (s u : State) : State :=
  { s with
    tunerA := u.tunerA, tunerB := u.tunerB, agenda := u.agenda
    host := { s.host with wakeExpiry := u.host.wakeExpiry, expiryCause := u.host.expiryCause } }

/-- From `s` to `u` nothing else has changed. -/
def Handing (s u : State) : Prop := u = s.handed u

namespace Handing
variable {s u v : State}

theorem refl (s : State) : Handing s s := rfl

theorem trans (h : Handing s u) (k : Handing u v) : Handing s v :=
  calc v = u.handed v := k
    _ = (s.handed u).handed v := congrArg (fun x : State => x.handed v) (show u = s.handed u from h)
    _ = s.handed v := rfl

theorem read {α : Type} (h : Handing s u) (f : State → α) (hf : f (s.handed u) = f s) : f u = f s :=
  (congrArg f (show u = s.handed u from h)).trans hf

end Handing

theorem atOnce_handing (s : State) (d : Due) (n : Nat) : Handing s (s.atOnce d n) := by
  unfold State.atOnce; split <;> rfl

theorem withTuner_handing (s : State) (t : TunerId) (x : Tuner) : Handing s (s.withTuner t x) := by cases t <;> rfl

theorem setWarning_handing (s : State) (t : TunerId) (h : ViewerHold) : Handing s (s.setWarning t h) := by
  unfold State.setWarning
  simp only []
  split
  · exact (withTuner_handing _ _ _).trans (atOnce_handing _ _ _)
  · exact withTuner_handing _ _ _

theorem writeYield_handing (s : State) (t : TunerId) (y : Option (Nat × Nat)) : Handing s (s.writeYield t y) := by
  unfold State.writeYield
  split
  · exact .refl s
  · simp only []
    split
    · exact withTuner_handing _ _ _
    · exact setWarning_handing _ _ _

theorem recomputeWake_handing (s : State) : Handing s (recomputeWake s) := by
  unfold recomputeWake
  split
  · simp only []
    split
    · exact Handing.trans (u := { s with host := { s.host with
        wakeExpiry := (computeWake s).1, expiryCause := (computeWake s).2 } }) rfl (atOnce_handing _ _ _)
    · rfl
  · exact .refl s

/-- The dues of the bookings' own expiries, in list order. -/
def duesOf (s : State) : List Due := (s.plan.bookings.map (alignDues s)).flatten

/-- The tuners written in turn, the agenda begun afresh. -/
def yieldsWritten (w : Pass) : State :=
  (State.writeYield { alignExpiries w.state with agenda := [] } .a w.yieldA).writeYield .b w.yieldB

theorem handOn_eq (w : Pass) : handOn w = { recomputeWake (yieldsWritten w) with
    agenda := (recomputeWake (yieldsWritten w)).agenda ++ (w.state.agenda ++ duesOf w.state) } := rfl

theorem handOn_handing (w : Pass) :
    Handing (w.state.withBookings (w.state.plan.bookings.map (alignBooking w.state.settings))) (handOn w) := by
  have hagenda : Handing (w.state.withBookings (w.state.plan.bookings.map (alignBooking w.state.settings)))
      { alignExpiries w.state with agenda := [] } := rfl
  have hlast : Handing (recomputeWake (yieldsWritten w)) (handOn w) := rfl
  exact (((hagenda.trans (writeYield_handing _ _ _)).trans (writeYield_handing _ _ _)).trans
    (recomputeWake_handing _)).trans hlast

/-! ### The warnings, and the wake expiry (R23, R24, R142) -/

theorem atOnce_agenda (s : State) (d : Due) (n : Nat) :
    (s.atOnce d n).agenda = s.agenda ++ if n ≤ s.present then [d] else [] := by
  unfold State.atOnce
  split
  · rfl
  · exact (List.append_nil _).symm

theorem writeYield_agenda (s : State) (t : TunerId) (y : Option (Nat × Nat)) :
    (s.writeYield t y).agenda = s.agenda ∨ (s.writeYield t y).agenda = s.agenda ++ [.warning t] := by
  have htuner : ∀ x, (s.withTuner t x).agenda = s.agenda := fun x => by cases t <;> rfl
  unfold State.writeYield
  split
  · exact .inl rfl
  · simp only []
    split
    · exact .inl (htuner _)
    · unfold State.setWarning
      simp only []
      split
      · rw [atOnce_agenda, htuner]
        split
        · exact .inr rfl
        · exact .inl (List.append_nil _)
      · exact .inl (htuner _)

theorem yieldsWritten_agenda (w : Pass) : (yieldsWritten w).agenda = [] ∨ (yieldsWritten w).agenda = [.warning .a]
    ∨ (yieldsWritten w).agenda = [.warning .b] ∨ (yieldsWritten w).agenda = [.warning .a, .warning .b] := by
  unfold yieldsWritten
  rcases writeYield_agenda { alignExpiries w.state with agenda := [] } .a w.yieldA with ha | ha <;>
    rcases writeYield_agenda (State.writeYield { alignExpiries w.state with agenda := [] } .a w.yieldA) .b w.yieldB with
      hb | hb <;> rw [hb, ha] <;> simp

/-- The wake expiry, due at once where it is reached. -/
def wakeDues (s : State) : List Due :=
  match s.host.wakeExpiry with
  | some x => if (s.host.state = .sleeping ∨ s.host.state = .wakeFailed) ∧ x ≤ s.present then [.wake] else []
  | none => []

theorem holdsWake_iff (x : HostState) : x.holdsWake = true ↔ x = .sleeping ∨ x = .wakeFailed := by
  cases x <;> simp [HostState.holdsWake]

theorem recomputeWake_spec (s : State) : (recomputeWake s).agenda = s.agenda ++ wakeDues (recomputeWake s)
    ∧ (s.host.state.holdsWake = true →
      ((recomputeWake s).host.wakeExpiry, (recomputeWake s).host.expiryCause) = computeWake s) := by
  obtain ⟨u, hu⟩ : ∃ u, u = recomputeWake s := ⟨_, rfl⟩
  have hframe : Handing s u := hu ▸ recomputeWake_handing s
  have hstate : u.host.state = s.host.state := hframe.read (fun x => x.host.state) rfl
  have hpresent : u.present = s.present := hframe.read State.present rfl
  rw [← hu]
  by_cases hholds : s.host.state.holdsWake = true
  · have hasleep := (holdsWake_iff _).mp hholds
    unfold recomputeWake at hu
    rw [if_pos hholds] at hu
    simp only [] at hu
    unfold wakeDues
    rw [hstate, hpresent]
    split at hu
    · rename_i x hx
      have hwake : u.host.wakeExpiry = some x ∧ u.host.expiryCause = (computeWake s).2 := by
        rw [hu]; unfold State.atOnce; split <;> exact ⟨hx, rfl⟩
      refine ⟨?_, fun _ => by rw [hwake.1, hwake.2, ← hx]⟩
      rw [hwake.1, hu, atOnce_agenda]
      simp only [hasleep, true_and]
    · rename_i hx
      have hwake : u.host.wakeExpiry = none ∧ u.host.expiryCause = (computeWake s).2 := by rw [hu]; exact ⟨hx, rfl⟩
      refine ⟨?_, fun _ => by rw [hwake.1, hwake.2, ← hx]⟩
      rw [hwake.1, hu]
      exact (List.append_nil _).symm
  · have heq : u = s := by rw [hu, recomputeWake, if_neg hholds]
    refine ⟨?_, fun h => absurd h hholds⟩
    rw [holdsWake_iff] at hholds
    unfold wakeDues
    rw [heq]
    split
    · rw [if_neg (fun h => hholds h.1), List.append_nil]
    · exact (List.append_nil _).symm

end Sys2Proof.Machine

/-! PROOFS. A whole pass read off step 4 (R88 to R106). -/

namespace Sys2Proof.Machine

/-! ### The holds (R23, R24) -/

/-- A hold `h` after the yield time `y` has been written to it. -/
structure Written (set : Settings) (h : ViewerHold) (y : Option (Nat × Nat)) (k : ViewerHold) : Prop where
  rest : k = { h with
    yieldTime := k.yieldTime, yieldBooking := k.yieldBooking, warned := k.warned, warnExpiry := k.warnExpiry }
  time : k.yieldTime = y.map Prod.fst
  booking : k.yieldBooking = y.map Prod.snd
  same : k.yieldTime = h.yieldTime → k.warned = h.warned ∧ k.warnExpiry = h.warnExpiry
  moved : k.yieldTime ≠ h.yieldTime → k.warned = false ∧ k.warnExpiry
    = if set.warnLead = 0 then none else k.yieldTime.map (fun z => z - set.warnLead)

theorem writeYield_written {s : State} {t : TunerId} {h : ViewerHold} (hh : (s.tuner t).hold = some h)
    (y : Option (Nat × Nat)) : ∃ k, ((s.writeYield t y).tuner t).hold = some k ∧ Written s.settings h y k := by
  unfold State.writeYield
  simp only [hh]
  split
  · rename_i hsame
    exact ⟨{ h with yieldTime := y.map Prod.fst, yieldBooking := y.map Prod.snd }, by rw [tuner_withTuner_same],
      ⟨rfl, rfl, rfl, fun _ => ⟨rfl, rfl⟩, fun hne => absurd hsame hne⟩⟩
  · rename_i hne
    refine ⟨_, by rw [setWarning_tuner, tuner_withTuner_same], ⟨rfl, rfl, rfl, fun h => absurd h hne, fun _ => ⟨rfl, ?_⟩⟩⟩
    cases y with
    | none => exact (ite_self _).symm
    | some y =>
      by_cases hlead : s.settings.warnLead = 0
      · simp [warnInstant, hlead]
      · simp [warnInstant, hlead, Nat.pos_of_ne_zero hlead]

theorem writeYield_tuner_other (s : State) {t x : TunerId} (y : Option (Nat × Nat)) (h : x ≠ t) :
    (s.writeYield t y).tuner x = s.tuner x := by
  unfold State.writeYield
  split
  · rfl
  · simp only []
    split
    · exact tuner_withTuner_other _ _ h
    · rw [setWarning_tuner]; exact tuner_withTuner_other _ _ h

theorem handOn_written {w : Pass} {x : TunerId} {h : ViewerHold} (hh : (w.state.tuner x).hold = some h) :
    ∃ k, ((handOn w).tuner x).hold = some k ∧ Written w.state.settings h (w.yield x) k := by
  have htuner : (handOn w).tuner x = (yieldsWritten w).tuner x := by
    have hrecompute := congrFun (recomputeWake_tuner (yieldsWritten w)) x
    rw [← hrecompute]
    cases x <;> rfl
  rw [htuner, yieldsWritten]
  cases x with
  | a =>
    rw [writeYield_tuner_other _ _ (by rintro ⟨⟩)]
    exact writeYield_written (s := { alignExpiries w.state with agenda := [] }) (h := h) (t := .a) hh _
  | b =>
    have hsettings : (State.writeYield { alignExpiries w.state with agenda := [] } .a w.yieldA).settings
        = w.state.settings :=
      (writeYield_handing _ _ _).read State.settings rfl
    rw [← hsettings]
    refine writeYield_written ?_ _
    rw [writeYield_tuner_other _ _ (by rintro ⟨⟩)]
    exact hh

/-! ### Step 1 (R91, R92) -/

theorem mem_formWindows {s : State} {c : Booking} :
    c ∈ (formWindows s).plan.bookings ↔ ∃ b ∈ s.plan.bookings, c = refreshBooking s b := by
  refine (sortBy_perm _ _).mem_iff.trans (List.mem_map.trans ?_)
  exact exists_congr fun b => and_congr_right fun _ => eq_comm

theorem formWindows_numbers {s : State} (h : NumbersOk s) : NumbersOk (formWindows s) := (formWindows_works s).numbers h

theorem formWindows_length (s : State) : (formWindows s).plan.bookings.length = s.plan.bookings.length :=
  (sortBy_perm _ _).length_eq.trans (List.length_map _)

/-- Step 1 takes a window and a tier afresh, and nothing else. -/
theorem refreshBooking_face (s : State) (b : Booking) : refreshBooking s b = { b with
    winStart := (refreshBooking s b).winStart, winEnd := (refreshBooking s b).winEnd
    provEnd := (refreshBooking s b).provEnd, tier := (refreshBooking s b).tier } := by
  unfold refreshBooking
  split
  · rfl
  · split
    · rfl
    · split <;> rfl

theorem refreshBooking_open {s : State} {b : Booking} (h : b.isOpen = true) {r : Request}
    (hr : s.request? b.request = some r) :
    refreshBooking s b = { b.formWindow s.settings r with tier := tierOf s.settings r } := by
  unfold refreshBooking
  rw [hr]
  exact if_pos h

theorem refreshBooking_late {s : State} {b : Booking} (h : b.state = some .late) {r : Request}
    (hr : s.request? b.request = some r) : refreshBooking s b = { b with tier := tierOf s.settings r } := by
  have hopen : ¬ b.isOpen = true := by simp [Booking.isOpen, h]
  unfold refreshBooking
  rw [hr]
  exact (if_neg hopen).trans (if_pos h)

theorem refreshBooking_running {s : State} {b : Booking} (hheld : b.isHeld = true) (h : b.state ≠ some .late) :
    refreshBooking s b = b := by
  have hopen : ¬ b.isOpen = true := (isHeld_iff_not_isOpen b).mp hheld
  unfold refreshBooking
  split
  · rfl
  · rw [if_neg hopen, if_neg h]

theorem refreshBooking_held {s : State} {b : Booking} (hheld : b.isHeld = true) :
    refreshBooking s b = { b with tier := (refreshBooking s b).tier } := by
  by_cases h : b.state = some .late
  · cases hr : s.request? b.request with
    | none => unfold refreshBooking; rw [hr]
    | some r => rw [refreshBooking_late h hr]
  · rw [refreshBooking_running hheld h]

theorem formWindows_formed (s : State) : Formed (formWindows s) := by
  intro c hc hopen r hr
  obtain ⟨b, hb, rfl⟩ := mem_formWindows.mp hc
  have hface := refreshBooking_face s b
  have hb : b.isOpen = true := by rw [hface] at hopen; exact hopen
  have hr : s.request? b.request = some r := by rw [hface] at hr; exact hr
  rw [refreshBooking_open hb hr]
  exact ⟨rfl, rfl⟩

/-! ### The whole pass -/

section
variable {s : State}

/-- Step 4 of a pass begun in `s`. -/
def placed (s : State) : Pass := placeAll (formWindows s)

theorem placed_during (hn : NumbersOk s) : During (formWindows s) (placed s).state :=
  (placeAll_ready (formWindows_numbers hn)).during

theorem planPass_eq (s : State) : planPass s = handOn (reportPass (placed s)) := rfl

/-- From step 4 to the end of the pass, the parts that are neither reported nor handed on stay. -/
theorem planPass_read {α : Type} (f : State → α) (hreported : ∀ u v : State, f (u.reported v) = f u)
    (hhanded : ∀ u v : State, f (u.handed v) = f u)
    (hbookings : ∀ (u : State) (bs : List Booking), f (u.withBookings bs) = f u) :
    f (planPass s) = f (placed s).state := by
  rw [planPass_eq]
  have hhand := (handOn_handing (reportPass (placed s))).read f (hhanded _ _)
  have hreport := (reportPass_reported (placed s)).frame.read f (hreported _ _)
  exact hhand.trans ((hbookings _ _).trans hreport)

theorem planPass_guide (s : State) : (planPass s).guide = (placed s).state.guide :=
  planPass_read State.guide (fun _ _ => rfl) (fun _ _ => rfl) fun _ _ => rfl

theorem planPass_requests (hn : NumbersOk s) : (planPass s).requests = s.requests :=
  (planPass_read State.requests (fun _ _ => rfl) (fun _ _ => rfl) fun _ _ => rfl).trans (placed_during hn).requests

theorem placed_standing (hn : NumbersOk s) : (placed s).state.standing = s.standing :=
  ((placed_during hn).read State.standing rfl).trans (formWindows_works s).standing

theorem planPass_standing (hn : NumbersOk s) : (planPass s).standing = s.standing :=
  (handOn_works _).standing.trans ((reportPass_works _).standing.trans (placed_standing hn))

theorem settings_of_standing {t : State} (h : t.standing = s.standing) : t.settings = s.settings :=
  congrArg Standing.settings h

theorem present_of_standing {t : State} (h : t.standing = s.standing) : t.present = s.present :=
  congrArg Standing.present h

theorem services_of_standing {t : State} (h : t.standing = s.standing) : t.services = s.services :=
  congrArg Standing.services h

theorem planPass_settings (hn : NumbersOk s) : (planPass s).settings = s.settings :=
  settings_of_standing (planPass_standing hn)

theorem planPass_present (hn : NumbersOk s) : (planPass s).present = s.present :=
  present_of_standing (planPass_standing hn)

theorem planPass_services (hn : NumbersOk s) : (planPass s).services = s.services :=
  services_of_standing (planPass_standing hn)

theorem planPass_multiplexOf (hn : NumbersOk s) : (planPass s).multiplexOf = s.multiplexOf := by
  funext channel
  unfold State.multiplexOf State.service?
  rw [planPass_services hn]

theorem reportPass_settings (hn : NumbersOk s) : (reportPass (placed s)).state.settings = s.settings :=
  settings_of_standing ((reportPass_works _).standing.trans (placed_standing hn))

theorem handOn_plan (w : Pass) : (handOn w).plan = { w.state.plan with
    bookings := w.state.plan.bookings.map (alignBooking w.state.settings) } := (handOn_handing w).read State.plan rfl

/-- The pass leaves the bookings of step 4, dressed. -/
theorem planPass_bookings (hn : NumbersOk s) :
    List.Forall₂ (Dressed s.settings) (placed s).state.plan.bookings (planPass s).plan.bookings := by
  obtain ⟨u, hu⟩ := (reportPass_reported (placed s)).flags
  have heq : (planPass s).plan.bookings = (flagSpace u 0 (placed s).state.plan.bookings).map (alignBooking s.settings) := by
    rw [planPass_eq, handOn_plan, reportPass_settings hn, hu]
  rw [heq]
  exact flagSpace_dressed u s.settings 0 _

theorem planPass_occupancy (s : State) : (planPass s).plan.occupancy = (placed s).laid := by
  obtain ⟨u, hu⟩ := (reportPass_reported (placed s)).flags
  rw [planPass_eq, handOn_plan, hu]

theorem formWindows_tuner (s : State) : (formWindows s).tuner = s.tuner := rfl

theorem reportPass_yield (w : Pass) (x : TunerId) : (reportPass w).yield x = w.yield x := by cases x <;> rfl

theorem planPass_hold_written (hn : NumbersOk s) {x : TunerId} {h : ViewerHold} (hh : (s.tuner x).hold = some h) :
    ∃ k, ((planPass s).tuner x).hold = some k ∧ Written s.settings h ((placed s).yield x) k := by
  have htuner : ((reportPass (placed s)).state.tuner x).hold = some h := by
    rw [reportPass_tuner, placed, placeAll_tuner, formWindows_tuner]; exact hh
  have hwritten := handOn_written htuner
  rw [← planPass_eq, reportPass_settings hn] at hwritten
  rw [reportPass_yield] at hwritten
  exact hwritten

end

end Sys2Proof.Machine

/-! PROOFS. The bookings a pass leaves (R92 to R101, R104). -/

namespace Sys2Proof.Machine

section
variable {s : State}

/-- A booking of the list a pass leaves comes from step 4. -/
theorem from_placed (hn : NumbersOk s) {d : Booking} (hd : d ∈ (planPass s).plan.bookings) :
    ∃ c ∈ (placed s).state.plan.bookings, Dressed s.settings c d := forall₂_left (planPass_bookings hn).flip hd

theorem to_planned (hn : NumbersOk s) {c : Booking} (hc : c ∈ (placed s).state.plan.bookings) :
    ∃ d ∈ (planPass s).plan.bookings, Dressed s.settings c d := forall₂_left (planPass_bookings hn) hc

/-- A hold after a pass stands as step 4 has settled it. -/
theorem hold_left (hn : NumbersOk s) {x : TunerId} {h : ViewerHold} (hh : (s.tuner x).hold = some h) :
    ∃ k, ((planPass s).tuner x).hold = some k ∧ k.multiplex = h.multiplex ∧ k.slot = h.slot
      ∧ ∀ a z, holdOccupies (formWindows s) (settledHold (formWindows s) x h) a z → holdOccupies (planPass s) k a z := by
  obtain ⟨k, hk, hwritten⟩ := planPass_hold_written hn hh
  refine ⟨k, hk, by rw [hwritten.rest], by rw [hwritten.rest], fun a z hocc => ?_⟩
  unfold holdOccupies at hocc ⊢
  rw [planPass_present hn, hwritten.time]
  exact hocc

/-! ### Held bookings (R92, R99) -/

/-- A held booking's provisional end has been brought forward to `c.provEnd` by a YIELD cut (R99). -/
def CutTo (s t : State) (b c : Booking) : Prop :=
  b.state = some .recording ∧ max b.winEnd s.present ≤ c.provEnd ∧ c.provEnd < b.provEnd ∧ c.cut = some .yield
    ∧ ∃ p, b.place = some p
      ∧ ((∃ e ∈ t.plan.bookings, e.number ≠ b.number
          ∧ (t.multiplexOf c.channel ≠ t.multiplexOf e.channel ∨ c.place = e.place)
          ∧ ∃ q : Place, q.tuner = p.tuner ∧ occupies t e q c.provEnd (c.provEnd + 1))
        ∨ ∃ h, (t.tuner p.tuner).hold = some h ∧ (h.multiplex ≠ t.multiplexOf b.channel ∨ h.slot = p.slot)
          ∧ holdOccupies t h c.provEnd (c.provEnd + 1))

theorem cutFor_left (hn : NumbersOk s) {b : Booking} {p : Place} {i : Nat} (h : CutFor (formWindows s) b p i) :
    (∃ e ∈ (planPass s).plan.bookings, e.number ≠ b.number
      ∧ (s.multiplexOf b.channel ≠ s.multiplexOf e.channel ∨ b.place = e.place)
      ∧ ∃ q : Place, q.tuner = p.tuner ∧ occupies (planPass s) e q i (i + 1))
    ∨ ∃ h, ((planPass s).tuner p.tuner).hold = some h ∧ (h.multiplex ≠ s.multiplexOf b.channel ∨ h.slot = p.slot)
      ∧ holdOccupies (planPass s) h i (i + 1) := by
  rcases h with ⟨e, he, hne, hway, q, hq, hocc⟩ | ⟨h, hh, hway, hocc⟩
  · obtain ⟨d, hd, hdressed⟩ := to_planned hn he
    refine .inl ⟨d, hd, by rw [hdressed.number]; exact hne, by rw [hdressed.channel, hdressed.place]; exact hway, q, hq, ?_⟩
    exact (hdressed.occupies (planPass_present hn) q _ _).mpr hocc
  · obtain ⟨k, hk, hmux, hslot, hleft⟩ := hold_left hn hh
    exact .inr ⟨k, hk, by rw [hmux, hslot]; exact hway, hleft _ _ hocc⟩

/-- A held booking as step 4 leaves it. -/
theorem held_placed (hn : NumbersOk s) {b : Booking} (hb : b ∈ s.plan.bookings) (hheld : b.isHeld = true) :
    ∃ c ∈ (placed s).state.plan.bookings,
      c = { refreshBooking s b with provEnd := c.provEnd, cut := c.cut }
      ∧ ((c.provEnd = b.provEnd ∧ c.cut = b.cut) ∨ (b.state = some .recording ∧ max b.winEnd s.present ≤ c.provEnd
        ∧ c.provEnd < b.provEnd ∧ c.cut = some .yield
        ∧ ∃ p, b.place = some p ∧ CutFor (formWindows s) (refreshBooking s b) p c.provEnd)) := by
  have hface := refreshBooking_held (s := s) hheld
  have hmem : refreshBooking s b ∈ (formWindows s).plan.bookings := mem_formWindows.mpr ⟨b, hb, rfl⟩
  have hheld' : (refreshBooking s b).isHeld = true := by rw [hface]; exact hheld
  have hnumbers := formWindows_numbers hn
  generalize refreshBooking s b = e at hface hmem hheld'
  have hprov : e.provEnd = b.provEnd := by rw [hface]
  have hcut : e.cut = b.cut := by rw [hface]
  cases held_fate hnumbers hmem hheld' with
  | whole stays => exact ⟨e, stays, rfl, .inl ⟨hprov, hcut⟩⟩
  | @cut x i d after u v turn hx hfirst stays =>
    obtain ⟨p, hp, hrec, -, -, heq⟩ := overrunExtent_some hx
    have hcutFor := cutFor hnumbers (formWindows_formed s) hp turn hx hfirst stays
    refine ⟨e.cutAt i, stays, rfl, .inr ⟨by rw [hface] at hrec; exact hrec, ?_, ?_, rfl, p, by rw [hface] at hp; exact hp,
      hcutFor⟩⟩
    · have hstart := hfirst.start
      rw [heq, hface] at hstart
      exact hstart
    · have hstop := hfirst.stop e.provEnd (by rw [heq])
      rwa [hprov] at hstop

theorem held_left (hn : NumbersOk s) {b : Booking} (hb : b ∈ s.plan.bookings) (hheld : b.isHeld = true) :
    ∃ c ∈ (planPass s).plan.bookings,
      c = { b with
        provEnd := c.provEnd, cut := c.cut, tier := c.tier, spaceShort := c.spaceShort, provExpiry := c.provExpiry }
      ∧ (b.state = some .late → ∀ r, s.request? b.request = some r → c.tier = tierOf s.settings r)
      ∧ (b.state ≠ some .late → c.tier = b.tier ∧ c.spaceShort = b.spaceShort)
      ∧ (b.state = some .recording → c.provExpiry = some c.provEnd)
      ∧ ((c.provEnd = b.provEnd ∧ c.cut = b.cut) ∨ CutTo s (planPass s) b c) := by
  obtain ⟨c, hc, hcb, hfate⟩ := held_placed hn hb hheld
  obtain ⟨d, hd, hdressed⟩ := to_planned hn hc
  have hface := refreshBooking_held (s := s) hheld
  have hcface : c = { b with tier := c.tier, provEnd := c.provEnd, cut := c.cut } := by
    rw [hface] at hcb; rw [hcb]
  have hctier : c.tier = (refreshBooking s b).tier := by rw [hcb]
  have hcstate : c.state = b.state := by rw [hcface]
  have hcheld : c.isHeld = true := by rw [hcface]; exact hheld
  have hdface := hdressed.held hcheld
  have hdcut : d.cut = c.cut := by rw [hdface]
  refine ⟨d, hd, ?_, fun hs r hr => ?_, fun hs => ⟨?_, ?_⟩, fun hs => ?_, ?_⟩
  · rw [hcface] at hdface
    rw [hdface]
  · rw [hdressed.tier, hctier, refreshBooking_late hs hr]
  · rw [hdressed.tier, hctier, refreshBooking_running hheld hs]
  · have hshort : c.spaceShort = b.spaceShort := by rw [hcface]
    rw [← hshort]
    have hopen : ¬ c.isOpen = true := (isHeld_iff_not_isOpen c).mp hcheld
    refine hdressed.unflagged (fun h => hopen (isOpen_of_planned h)) (hcstate ▸ hs) fun h => hopen ?_
    simp [Booking.isOpen, h]
  · rw [hdressed.recording (hcstate.trans hs), hdressed.provEnd]
  · rw [hdressed.provEnd, hdcut]
    refine hfate.imp_right ?_
    rintro ⟨hrec, hlo, hhi, hcut, p, hp, hfor⟩
    refine ⟨hrec, by rwa [hdressed.provEnd], by rwa [hdressed.provEnd], hdcut.trans hcut, p, hp, ?_⟩
    have hleft := cutFor_left hn hfor
    have hchannel : (refreshBooking s b).channel = b.channel := by rw [hface]
    have hnumber : (refreshBooking s b).number = b.number := by rw [hface]
    have hplace : (refreshBooking s b).place = b.place := by rw [hface]
    rw [hchannel, hnumber, hplace] at hleft
    have hdchannel : d.channel = b.channel := by rw [hdressed.channel, hcface]
    have hdplace : d.place = b.place := by rw [hdressed.place, hcface]
    rw [planPass_multiplexOf hn, hdressed.provEnd, hdchannel, hdplace]
    exact hleft

end

end Sys2Proof.Machine

/-! PROOFS. The open bookings a pass leaves (R91, R96 to R105). -/

namespace Sys2Proof.Machine

section
variable {s : State}

/-! ### Each open booking stays, or has an alternate (R98, R101, R105) -/

theorem open_left (hn : NumbersOk s) {b : Booking} (hb : b ∈ s.plan.bookings) (hopen : b.isOpen = true) :
    (∃ c ∈ (planPass s).plan.bookings, c.number = b.number ∧ c.request = b.request ∧ c.key = b.key
      ∧ c.channel = b.channel ∧ c.episode = b.episode ∧ c.progStart = b.progStart ∧ c.progDuration = b.progDuration
      ∧ c.alternate = b.alternate ∧ c.accurate = b.accurate)
    ∨ (b.episode ≠ none ∧ ∃ c ∈ (planPass s).plan.bookings, c.alternate = true ∧ c.state = some .planned
      ∧ c.request = b.request ∧ c.episode = b.episode) := by
  have hface := refreshBooking_face s b
  have hmem : refreshBooking s b ∈ (formWindows s).plan.bookings := mem_formWindows.mpr ⟨b, hb, rfl⟩
  have hopen' : (refreshBooking s b).isOpen = true := by rw [hface]; exact hopen
  have hnumbers := formWindows_numbers hn
  generalize refreshBooking s b = e at hface hmem hopen'
  have hsame : ∀ c ∈ (placed s).state.plan.bookings,
      c = { e with state := c.state, place := c.place, partners := c.partners } →
      ∃ c ∈ (planPass s).plan.bookings, c.number = b.number ∧ c.request = b.request ∧ c.key = b.key
        ∧ c.channel = b.channel ∧ c.episode = b.episode ∧ c.progStart = b.progStart ∧ c.progDuration = b.progDuration
        ∧ c.alternate = b.alternate ∧ c.accurate = b.accurate := by
    intro c hc hce
    obtain ⟨d, hd, hdressed⟩ := to_planned hn hc
    refine ⟨d, hd, ?_⟩
    rw [hdressed.face, hce, hface]
    exact ⟨rfl, rfl, rfl, rfl, rfl, rfl, rfl, rfl, rfl⟩
  by_cases hcand : isCandidate (formWindows s) e = true
  · cases open_fate hnumbers hmem hcand with
    | placed stays => exact .inl (hsame _ stays rfl)
    | clashed stays => exact .inl (hsame _ stays rfl)
    | @replaced r id g p n hr hid hg stays =>
      obtain ⟨d, hd, hdressed⟩ := to_planned hn stays
      have hepisode : e.episode = b.episode := by rw [hface]
      have hrequest : e.request = b.request := by rw [hface]
      rw [hepisode] at hid
      refine .inr ⟨by rw [hid]; rintro ⟨⟩, d, hd, ?_⟩
      rw [hdressed.face, hid, ← hg, ← hrequest, ← (request?_spec hr).2]
      exact ⟨rfl, rfl, rfl, rfl⟩
  · refine .inl (hsame e (kept_stays hnumbers hmem fun hsubject => ?_) rfl)
    rcases candidate_of_subject hnumbers hmem hsubject with h | h
    · exact hcand h
    · rw [overrunExtent_of_open hopen'] at h; cases h

/-! ### Windows, tiers and states of the open bookings (R91, R92) -/

/-- What step 4 leaves of the open bookings is formed as step 1 formed them. -/
theorem placeAll_formed (hn : NumbersOk s) (hf : Formed s) {c : Booking} (hc : c ∈ (placeAll s).state.plan.bookings)
    (hopen : c.isOpen = true) {r : Request} (hr : s.request? c.request = some r) :
    c.tier = tierOf s.settings r ∧ c = c.formWindow s.settings r := by
  have hchanged : ∀ {b : Booking}, b ∈ s.plan.bookings → isCandidate s b = true → s.request? b.request = some r →
      b.tier = tierOf s.settings r ∧ b = b.formWindow s.settings r :=
    fun hb hcand => hf _ hb ((isCandidate_iff s _).mp hcand).1 r
  cases origin hn hc with
  | kept hb hno => exact hf c hb hopen r hr
  | @placed b p _ _ _ _ hb hcand =>
    obtain ⟨htier, hwindow⟩ := hchanged hb hcand hr
    exact ⟨htier, congrArg (fun x : Booking => x.placedAt p) hwindow⟩
  | @clashed b _ _ _ _ hb hcand =>
    obtain ⟨htier, hwindow⟩ := hchanged hb hcand hr
    exact ⟨htier, congrArg (fun x : Booking => x.clashedWith _) hwindow⟩
  | @alternate b q g p n _ _ _ _ hb hq =>
    have hrequest : s.request? q.number = some r := hr
    rw [(request?_spec hq).2, hq] at hrequest
    obtain rfl := Option.some.inj hrequest
    exact ⟨rfl, rfl⟩
  | ran hb hx => rw [overrunExtent_of_open hopen] at hx; cases hx
  | @cut b x i _ _ _ _ _ hb hx =>
    have hopen : b.isOpen = true := hopen
    rw [overrunExtent_of_open hopen] at hx
    cases hx

theorem formWindow_times {set : Settings} {r : Request} {b : Booking} (h : b = b.formWindow set r) :
    b.winStart = b.progStart - r.prePad.getD set.prePad
      ∧ b.winEnd = min (b.winStart + 43200) (min (b.progStart + b.progDuration + r.postPad.getD set.postPad) 4294967295)
      ∧ b.provEnd = b.winEnd := by
  obtain ⟨w, hw⟩ : ∃ w, w = windowOf b.progStart b.progDuration (prePadOf set r) (postPadOf set r) := ⟨_, rfl⟩
  have hform : b = { b with winStart := w.1, winEnd := w.2, provEnd := w.2 } := by rw [hw]; exact h
  rw [windowOf_eq] at hw
  have hstart : b.winStart = w.1 := by rw [hform]
  have hend : b.winEnd = w.2 := by rw [hform]
  have hprov : b.provEnd = w.2 := by rw [hform]
  rw [hstart, hend, hprov, hw]
  exact ⟨rfl, rfl, rfl⟩

/-- An open booking has a state when step 4 is done. -/
theorem placeAll_state (hn : NumbersOk s) {c : Booking} (hc : c ∈ (placeAll s).state.plan.bookings)
    (hopen : c.isOpen = true) : c.state = some .planned ∨ c.state = some .clashed := by
  cases origin hn hc with
  | kept hb hno =>
    rcases kept_cases hb hno with ⟨hheld, -⟩ | ⟨-, hne, -⟩
    · exact absurd hopen ((isHeld_iff_not_isOpen c).mp hheld)
    · simp only [Booking.isOpen, Bool.or_eq_true, beq_iff_eq] at hopen
      exact hopen.imp_left fun h => h.resolve_left hne
  | placed => exact .inl rfl
  | clashed => exact .inr rfl
  | alternate => exact .inl rfl
  | ran hb hx => rw [overrunExtent_of_open hopen] at hx; cases hx
  | @cut b x i _ _ _ _ _ hb hx =>
    have hopen : b.isOpen = true := hopen
    rw [overrunExtent_of_open hopen] at hx
    cases hx

/-- A PLANNED booking with time ahead is on a tuner that carries it (R96, R98). -/
theorem placeAll_planned (hn : NumbersOk s) {c : Booking} (hc : c ∈ (placeAll s).state.plan.bookings)
    (hstate : c.state = some .planned) (hahead : s.present < c.winEnd) : c.partners = [] ∧ ∃ p, c.place = some p
      ∧ p.slot ≤ 2 ∧ s.hasService c.channel = true ∧ (s.tuner p.tuner).enabled = true
      ∧ (s.tuner p.tuner).mask.getLsbD (s.networkOf c.channel) = true := by
  have hopen := isOpen_of_planned hstate
  cases origin hn hc with
  | kept hb hno =>
    rcases kept_cases hb hno with ⟨hheld, -⟩ | ⟨-, -, hend⟩
    · exact absurd hopen ((isHeld_iff_not_isOpen c).mp hheld)
    · exact absurd hahead (Nat.not_lt.mpr hend)
  | @placed b p _ _ _ _ _ _ hsvc hfit => exact ⟨rfl, p, rfl, hfit.slot, hsvc, hfit.enabled, hfit.carries⟩
  | clashed => cases hstate
  | @alternate b r g p n _ _ _ _ _ _ hsvc hfit => exact ⟨rfl, p, rfl, hfit.slot, hsvc, hfit.enabled, hfit.carries⟩
  | ran hb hx => rw [overrunExtent_of_open hopen] at hx; cases hx
  | @cut b x i _ _ _ _ _ hb hx =>
    have hopen : b.isOpen = true := hopen
    rw [overrunExtent_of_open hopen] at hx
    cases hx

/-- A CLASHED booking with time ahead has no place, and partners that take up its time (R101). -/
theorem placeAll_clashed (hn : NumbersOk s) (hf : Formed s) {c : Booking} (hc : c ∈ (placeAll s).state.plan.bookings)
    (hstate : c.state = some .clashed) (hahead : s.present < c.winEnd) : c.place = none ∧ c.partners.length ≤ 3
      ∧ c.partners.Nodup ∧ ∀ n ∈ c.partners, ∃ b ∈ (placeAll s).state.plan.bookings, b.number = n
        ∧ ∃ p : Place, (s.tuner p.tuner).enabled = true
          ∧ (s.tuner p.tuner).mask.getLsbD (s.networkOf c.channel) = true
          ∧ occupies s b p (max c.winStart s.present) c.winEnd := by
  obtain ⟨b, after, u, v, turn, hb, rfl, -, -⟩ := clashed_turn hn hc hstate (.inl hahead)
  obtain ⟨hshort, hnodup⟩ := partnersOf_short s u.laid (b.need s)
  exact ⟨rfl, hshort, hnodup, fun n hn' => turn.partner hn hf hn'⟩

theorem open_formed (hn : NumbersOk s) {d : Booking} (hd : d ∈ (planPass s).plan.bookings) (hopen : d.isOpen = true) :
    (d.state = some .planned ∨ d.state = some .clashed)
    ∧ (∀ r, s.request? d.request = some r → d.tier = tierOf s.settings r
      ∧ d.winStart = d.progStart - r.prePad.getD (planPass s).settings.prePad
      ∧ d.winEnd = min (d.winStart + 43200)
        (min (d.progStart + d.progDuration + r.postPad.getD s.settings.postPad) 4294967295)
      ∧ d.provEnd = d.winEnd)
    ∧ (d.state = some .planned → d.windowExpiry = some d.winStart ∧ d.lateExpiry = none)
    ∧ (d.state = some .clashed → d.windowExpiry = none ∧ d.lateExpiry = some (lateLimitOf s.settings d))
    ∧ (d.state = some .planned → s.present < d.winEnd → d.partners = [] ∧ ∃ p, d.place = some p ∧ p.slot ≤ 2
      ∧ s.hasService d.channel = true ∧ (s.tuner p.tuner).enabled = true
      ∧ (s.tuner p.tuner).mask.getLsbD (s.networkOf d.channel) = true)
    ∧ (d.state = some .clashed → s.present < d.winEnd → d.place = none ∧ d.partners.length ≤ 3 ∧ d.partners.Nodup
      ∧ ∀ n ∈ d.partners, ∃ b ∈ (planPass s).plan.bookings, b.number = n ∧ ∃ p : Place, (s.tuner p.tuner).enabled = true
        ∧ (s.tuner p.tuner).mask.getLsbD (s.networkOf d.channel) = true
        ∧ occupies (planPass s) b p (max d.winStart s.present) d.winEnd) := by
  obtain ⟨c, hc, hdressed⟩ := from_placed hn hd
  have hnumbers := formWindows_numbers hn
  have hformed := formWindows_formed s
  rw [hdressed.isOpen] at hopen
  have hrequest : d.request = c.request := by rw [hdressed.face]
  have hprog : d.progStart = c.progStart ∧ d.progDuration = c.progDuration := by rw [hdressed.face]; exact ⟨rfl, rfl⟩
  rw [hdressed.state, hdressed.tier, hdressed.winStart, hdressed.winEnd, hdressed.provEnd, hdressed.place,
    hdressed.partners, hdressed.channel, hdressed.lateLimit, hrequest, hprog.1, hprog.2, planPass_settings hn]
  refine ⟨placeAll_state hnumbers hc hopen, fun r hr => ?_, hdressed.planned, hdressed.clashed,
    placeAll_planned hnumbers hc, fun hs hahead => ?_⟩
  · obtain ⟨htier, hwindow⟩ := placeAll_formed hnumbers hformed hc hopen hr
    exact ⟨htier, formWindow_times hwindow⟩
  · obtain ⟨hplace, hshort, hnodup, hpartners⟩ := placeAll_clashed hnumbers hformed hc hs hahead
    refine ⟨hplace, hshort, hnodup, fun n hmem => ?_⟩
    obtain ⟨b, hb, hbn, p, hon, hmask, hocc⟩ := hpartners n hmem
    obtain ⟨e, he, hedressed⟩ := to_planned hn hb
    exact ⟨e, he, hedressed.number.trans hbn, p, hon, hmask, (hedressed.occupies (planPass_present hn) p _ _).mpr hocc⟩

/-! ### A booking whose time is over when it is first placed (R94) -/

/-- A new booking is a candidate of every pass. -/
theorem subject_of_new {b : Booking} (hb : b ∈ s.plan.bookings) (hs : b.state = none) :
    .inl b.number ∈ (rankedCandidates s).map Ranked.subject := by
  have hcand : isCandidate s b = true := (isCandidate_iff s b).mpr ⟨by simp [Booking.isOpen, hs], .inr hs⟩
  exact List.mem_map.mpr ⟨_, mem_rankedCandidates.mpr (.inl ⟨b, hb, hcand, rfl⟩), rfl⟩

theorem placeAll_new_over (hn : NumbersOk s) {b c : Booking} (hb : b ∈ s.plan.bookings)
    (hc : c ∈ (placeAll s).state.plan.bookings) (hs : b.state = none) (hnumber : c.number = b.number)
    (hover : c.winEnd ≤ s.present) : c.state = some .clashed ∧ c.place = none ∧ c.partners = [] := by
  have hempty : ∀ start, ¬ max start s.present < c.winEnd := fun start =>
    Nat.not_lt.mpr (hover.trans (le_max_right _ _))
  have hnot : ∀ {e : Booking} {x : Extent}, e ∈ s.plan.bookings → overrunExtent s e = some x → e.number ≠ b.number := by
    intro e x he hx heb
    obtain ⟨p, -, hrec, -⟩ := overrunExtent_some hx
    rw [booking_eq_of_number hn.distinct he hb heb, hs] at hrec
    cases hrec
  cases origin hn hc with
  | kept hc hno => exact absurd (hnumber ▸ subject_of_new hb hs) hno
  | placed _ _ _ _ hfit => exact absurd hfit.nonempty (hempty _)
  | clashed => exact ⟨rfl, rfl, partnersOf_empty (hover.trans (le_max_right _ _))⟩
  | alternate _ _ _ _ hfit => exact absurd hfit.nonempty (hempty _)
  | ran he hx => exact absurd hnumber (hnot he hx)
  | @cut b' _ _ _ _ _ _ _ he hx => exact absurd hnumber (hnot (e := b') he hx)

theorem new_over_left (hn : NumbersOk s) {b d : Booking} (hb : b ∈ s.plan.bookings) (hd : d ∈ (planPass s).plan.bookings)
    (hs : b.state = none) (hnumber : d.number = b.number) (hover : d.winEnd ≤ s.present) :
    d.state = some .clashed ∧ d.place = none ∧ d.partners = [] := by
  obtain ⟨c, hc, hdressed⟩ := from_placed hn hd
  have hmem : refreshBooking s b ∈ (formWindows s).plan.bookings := mem_formWindows.mpr ⟨b, hb, rfl⟩
  have hface := refreshBooking_face s b
  rw [hdressed.number] at hnumber
  rw [hdressed.winEnd] at hover
  rw [hdressed.state, hdressed.place, hdressed.partners]
  exact placeAll_new_over (formWindows_numbers hn) hmem hc (by rw [hface]; exact hs) (by rw [hface]; exact hnumber) hover

end

end Sys2Proof.Machine

/-! PROOFS. Conflicts, clashes and viewer holds after a pass (R96 to R101, R104). -/

namespace Sys2Proof.Machine

section
variable {s : State}

/-- Nothing PLANNED meets anything else on its tuner (R96). -/
theorem no_conflict_left (hn : NumbersOk s) {c e : Booking} (hc : c ∈ (planPass s).plan.bookings)
    (he : e ∈ (planPass s).plan.bookings) {p q : Place} (hstate : c.state = some .planned) (hne : c.number ≠ e.number)
    (hp : c.place = some p) (hpq : p.tuner = q.tuner)
    (hocc : occupies (planPass s) e q (max c.winStart s.present) c.winEnd) :
    ¬ ((planPass s).multiplexOf c.channel ≠ (planPass s).multiplexOf e.channel ∨ c.place = e.place) := by
  obtain ⟨a, ha, hadressed⟩ := from_placed hn hc
  obtain ⟨b, hb, hbdressed⟩ := from_placed hn he
  have hpresent : (planPass s).present = (formWindows s).present := planPass_present hn
  have hplaces : e.place = some q := hocc.2.1
  rw [hadressed.winStart, hadressed.winEnd, hbdressed.occupies hpresent] at hocc
  rw [hadressed.number, hbdressed.number] at hne
  obtain ⟨hmux, hslot⟩ := no_conflict (formWindows_numbers hn) ha hb (hadressed.state ▸ hstate) hne
    (hadressed.place ▸ hp) hpq hocc
  rw [planPass_multiplexOf hn, hadressed.channel, hbdressed.channel, hp, hplaces, not_or, not_not]
  exact ⟨hmux, fun h => hslot (congrArg Place.slot (Option.some.inj h))⟩

/-- What keeps a booking off a tuner keeps it off in the list the pass leaves. -/
theorem blockedBy_left (hn : NumbersOk s) {tier a z : Nat} {x : TunerId} {P : Nat → Nat → Prop}
    (h : BlockedBy (formWindows s) tier a z x P) :
    (∃ e ∈ (planPass s).plan.bookings, ∃ q : Place, q.tuner = x ∧ ((e.isHeld = true ∨ tier ≤ e.tier)
      ∧ occupies (planPass s) e q a z) ∧ P (s.multiplexOf e.channel) q.slot)
    ∨ ∃ h, (((planPass s).tuner x).hold = some h ∧ tier < s.settings.viewerTier ∧ holdOccupies (planPass s) h a z)
      ∧ P h.multiplex h.slot := by
  rcases h with ⟨e, he, q, hq, hrank, hocc, hP⟩ | ⟨h, hh, htier, hocc, hP⟩
  · obtain ⟨d, hd, hdressed⟩ := to_planned hn he
    refine .inl ⟨d, hd, q, hq, ⟨by rw [hdressed.isHeld, hdressed.tier]; exact hrank, ?_⟩, by rw [hdressed.channel]; exact hP⟩
    exact (hdressed.occupies (planPass_present hn) q a z).mpr hocc
  · obtain ⟨k, hk, hmux, hslot, hleft⟩ := hold_left hn hh
    exact .inr ⟨k, ⟨hk, htier, hleft _ _ hocc⟩, by rw [hmux, hslot]; exact hP⟩

/-- A CLASHED booking fits nowhere among what is held or ranks no lower (R101). -/
theorem clashed_left (hn : NumbersOk s) {c : Booking} (hc : c ∈ (planPass s).plan.bookings)
    (hstate : c.state = some .clashed) (hfits : max c.winStart s.present < c.winEnd)
    (hsvc : s.hasService c.channel = true) (x : TunerId) (hon : (s.tuner x).enabled = true)
    (hmask : (s.tuner x).mask.getLsbD (s.networkOf c.channel) = true) :
    (∃ e ∈ (planPass s).plan.bookings, ∃ q : Place, q.tuner = x ∧ ((e.isHeld = true ∨ c.tier ≤ e.tier)
      ∧ occupies (planPass s) e q (max c.winStart s.present) c.winEnd)
      ∧ (planPass s).multiplexOf e.channel ≠ (planPass s).multiplexOf c.channel)
    ∨ (∃ h, (((planPass s).tuner x).hold = some h ∧ c.tier < s.settings.viewerTier
        ∧ holdOccupies (planPass s) h (max c.winStart s.present) c.winEnd)
      ∧ h.multiplex ≠ (planPass s).multiplexOf c.channel)
    ∨ ∀ k ≤ 2, (∃ e ∈ (planPass s).plan.bookings, (e.isHeld = true ∨ c.tier ≤ e.tier)
        ∧ occupies (planPass s) e ⟨x, k⟩ (max c.winStart s.present) c.winEnd)
      ∨ ∃ h, (((planPass s).tuner x).hold = some h ∧ c.tier < s.settings.viewerTier
        ∧ holdOccupies (planPass s) h (max c.winStart s.present) c.winEnd) ∧ h.slot = k := by
  obtain ⟨a, ha, hdressed⟩ := from_placed hn hc
  rw [hdressed.channel] at hsvc hmask
  rw [hdressed.winStart, hdressed.winEnd] at hfits
  rw [planPass_multiplexOf hn, hdressed.winStart, hdressed.winEnd, hdressed.tier, hdressed.channel]
  rcases clashed_blocked (formWindows_numbers hn) (formWindows_formed s) ha (hdressed.state ▸ hstate) hfits hsvc hon hmask
    with hmux | hslots
  · rcases blockedBy_left hn hmux with h | h
    · exact .inl h
    · exact .inr (.inl h)
  · refine .inr (.inr fun k hk => ?_)
    rcases blockedBy_left hn (hslots k hk) with ⟨e, he, q, rfl, ⟨hrank, hocc⟩, rfl⟩ | h
    · exact .inl ⟨e, he, hrank, hocc⟩
    · exact .inr h

/-! ### No free airing (R104) -/

/-- A free entry is named by no booking. -/
theorem PinsOk.unnamed (h : PinsOk s) {g : GuideEntry} (hg : g ∈ s.guide.entries) (hpins : g.pins = 0) {b : Booking}
    (hb : b ∈ s.plan.bookings) : b.key ≠ .guideSlot g.slot := by
  intro hkey
  have hcount := h.count g hg
  rw [hpins] at hcount
  have hmem : b ∈ s.plan.bookings.filter (fun b => b.key == .guideSlot g.slot) :=
    List.mem_filter.mpr ⟨hb, beq_iff_eq.mpr hkey⟩
  rw [List.eq_nil_of_length_eq_zero hcount.symm] at hmem
  cases hmem

/-- When a booking stays CLASHED no free airing of its episode fits. -/
theorem no_airing (hn : NumbersOk s) {c : Booking} (hc : c ∈ (placeAll s).state.plan.bookings)
    (hstate : c.state = some .clashed)
    (hahead : s.present < c.winEnd ∨ .inl c.number ∈ (rankedCandidates s).map Ranked.subject) {r : Request}
    {f : SeriesFields} {id : Nat} (hr : s.request? c.request = some r) (hkind : r.kind = .series f)
    (hid : c.episode = some id) {g : GuideEntry} (hg : Airing s (placeAll s).state.guide.entries r f id g)
    (hfree : ∀ b ∈ s.plan.bookings, b.key ≠ .guideSlot g.slot) (hsvc : s.hasService g.channel = true) :
    choosePlace s (placeAll s).laid (airNeed s r g) = none := by
  obtain ⟨b, after, u, v, turn, hb, rfl, -, hair⟩ := clashed_turn hn hc hstate hahead
  have hsteps : Steps s u (bookingRank s b :: after) (placeAll s) [] := .cons turn.ready turn.taken turn.later
  have hthen : Airing s u.state.guide.entries r f id g := { hg with mem := hsteps.entry hg.mem hg.unpinned hfree }
  exact choosePlace_none_of_subset (hair r f id g hr hkind hid hthen hsvc) hsteps.laid_subset

theorem fitSlot_congr {t : State} (h : t.standing = s.standing) (xs : List Extent) (n : Need) (x : TunerId) :
    fitSlot t xs n x = fitSlot s xs n x := by
  have hreaches : (t.tuner x).reaches = (s.tuner x).reaches := by
    cases x with
    | a =>
      obtain ⟨hon, hmask⟩ := TunerConfig.mk.inj (congrArg Standing.tunerA h)
      funext k
      exact congrArg₂ (fun e m => e && BitVec.getLsbD m k) hon hmask
    | b =>
      obtain ⟨hon, hmask⟩ := TunerConfig.mk.inj (congrArg Standing.tunerB h)
      funext k
      exact congrArg₂ (fun e m => e && BitVec.getLsbD m k) hon hmask
  unfold fitSlot
  rw [hreaches]

theorem choosePlace_congr {t : State} (h : t.standing = s.standing) (xs : List Extent) (n : Need) :
    choosePlace t xs n = choosePlace s xs n := by
  unfold choosePlace
  rw [fitSlot_congr h, fitSlot_congr h]

theorem no_airing_left (hn : NumbersOk s) (hpins : PinsOk s) {c : Booking} (hc : c ∈ (planPass s).plan.bookings)
    (hstate : c.state = some .clashed)
    (hahead : s.present < c.winEnd ∨ ∃ b ∈ s.plan.bookings, b.state = none ∧ b.number = c.number) {r : Request}
    {f : SeriesFields} {id : Nat} (hr : s.request? c.request = some r) (hkind : r.kind = .series f)
    (hid : c.episode = some id) {g : GuideEntry} (hg : g ∈ (planPass s).guide.entries) (hgs : g ∈ s.guide.entries)
    (hfree : g.pins = 0) (hseries : g.series = some f.seriesId) (hepisode : g.episode = some id)
    (hsvc : s.hasService g.channel = true) (hchannel : f.channel = 0 ∨ g.channel = f.channel)
    (hstands : g.withdrawn = false) (hsettled : r.number ∉ g.settled) (hstart : s.present < g.start)
    (hnear : g.start < min (s.present + s.settings.horizonDays * 86400) 4294967295) :
    choosePlace (planPass s) (planPass s).plan.occupancy (airNeed s r g) = none := by
  obtain ⟨a, ha, hdressed⟩ := from_placed hn hc
  have hrequest : c.request = a.request := by rw [hdressed.face]
  have hep : c.episode = a.episode := by rw [hdressed.face]
  rw [planPass_guide] at hg
  have hairing : Airing (formWindows s) (placed s).state.guide.entries r f id g :=
    ⟨hg, hseries, hepisode, by split; exacts [hsvc, hchannel.resolve_left ‹_›], hstands, hsettled, hfree, hstart, hnear⟩
  have hunnamed : ∀ b ∈ (formWindows s).plan.bookings, b.key ≠ .guideSlot g.slot := by
    intro b hb
    obtain ⟨e, he, rfl⟩ := mem_formWindows.mp hb
    have hkey : (refreshBooking s e).key = e.key := by rw [refreshBooking_face]
    rw [hkey]
    exact hpins.unnamed hgs hfree he
  have hcand : s.present < a.winEnd ∨ .inl a.number ∈ (rankedCandidates (formWindows s)).map Ranked.subject := by
    rw [hdressed.winEnd, hdressed.number] at hahead
    refine hahead.imp_right ?_
    rintro ⟨b, hb, hs, hnumber⟩
    have hface := refreshBooking_face s b
    have hsubject := subject_of_new (mem_formWindows.mpr ⟨b, hb, rfl⟩) (by rw [hface]; exact hs)
    have hrefreshed : (refreshBooking s b).number = a.number := by rw [hface]; exact hnumber
    rwa [hrefreshed] at hsubject
  have hnone := no_airing (formWindows_numbers hn) ha (hdressed.state ▸ hstate) hcand (hrequest ▸ hr) hkind (hep ▸ hid)
    hairing hunnamed hsvc
  rw [choosePlace_congr (planPass_standing hn), planPass_occupancy]
  rw [choosePlace_congr (formWindows_works s).standing] at hnone
  exact hnone

/-! ### Viewer holds (R23, R100) -/

theorem hold_yields_left (hn : NumbersOk s) {x : TunerId} {h : ViewerHold} (hh : (s.tuner x).hold = some h) :
    ∃ k, ((planPass s).tuner x).hold = some k
      ∧ k = { h with
        yieldTime := k.yieldTime, yieldBooking := k.yieldBooking, warned := k.warned, warnExpiry := k.warnExpiry }
      ∧ (k.yieldTime = h.yieldTime → k.warned = h.warned ∧ k.warnExpiry = h.warnExpiry)
      ∧ (k.yieldTime ≠ h.yieldTime → k.warned = false ∧ k.warnExpiry
        = if s.settings.warnLead = 0 then none else k.yieldTime.map (fun y => y - s.settings.warnLead))
      ∧ (k.yieldBooking.isSome = k.yieldTime.isSome)
      ∧ (∀ y n, k.yieldTime = some y → k.yieldBooking = some n → ∃ b ∈ (planPass s).plan.bookings, b.number = n
        ∧ (∃ p, b.place = some p ∧ p.tuner = x ∧ ((planPass s).multiplexOf b.channel ≠ h.multiplex ∨ p.slot = h.slot)
          ∧ occupies (planPass s) b p y (y + 1)) ∧ occupiedFrom (planPass s) b = y)
      ∧ ∀ b ∈ (planPass s).plan.bookings, ∀ p : Place, ∀ a z, p.tuner = x →
        ((planPass s).multiplexOf b.channel ≠ h.multiplex ∨ p.slot = h.slot) → occupies (planPass s) b p a z →
        ∃ y, k.yieldTime = some y ∧ y ≤ occupiedFrom (planPass s) b := by
  have hnumbers := formWindows_numbers hn
  have hpresent : (planPass s).present = (formWindows s).present := planPass_present hn
  obtain ⟨k, hk, hwritten⟩ := planPass_hold_written hn hh
  rw [planPass_multiplexOf hn]
  refine ⟨k, hk, hwritten.rest, hwritten.same, hwritten.moved, ?_, fun y n hy hbn => ?_, fun d hd p a z hp hway hocc => ?_⟩
  · rw [hwritten.time, hwritten.booking, Option.isSome_map, Option.isSome_map]
  · rw [hwritten.time] at hy
    rw [hwritten.booking] at hbn
    obtain ⟨⟨i, m⟩, hyield, rfl⟩ := Option.map_eq_some_iff.mp hy
    rw [hyield] at hbn
    cases hbn
    obtain ⟨b, hb, hnumber, ⟨p, hp, hpx, hway, hocc⟩, hfrom⟩ := yield_to hnumbers (formWindows_formed s) hh hyield
    obtain ⟨d, hd, hdressed⟩ := to_planned hn hb
    refine ⟨d, hd, hdressed.number.trans hnumber, ⟨p, hdressed.place.trans hp, hpx,
      by rw [hdressed.channel]; exact hway, ?_⟩, ?_⟩
    · exact (hdressed.occupies hpresent p _ _).mpr hocc
    · exact (hdressed.occupiedFrom hpresent).trans hfrom
  · obtain ⟨b, hb, hdressed⟩ := from_placed hn hd
    rw [hdressed.occupies hpresent] at hocc
    rw [hdressed.channel] at hway
    obtain ⟨i, n, hyield, hle⟩ := yields_by hnumbers hh hb hp hway hocc
    refine ⟨i, by rw [hwritten.time, placed, hyield]; rfl, ?_⟩
    rw [hdressed.occupiedFrom hpresent]
    exact hle

end

end Sys2Proof.Machine

/-! PROOFS. What a pass announces, counts and makes due (R90, R102, R103, R106, R109, R117, R142). -/

namespace Sys2Proof.Machine

section
variable {s : State}

/-! ### The newly CLASHED (R102) -/

/-- A booking that is CLASHED and was not is among the newly CLASHED. -/
theorem newly_of_clashed (hn : NumbersOk s) {c : Booking} (hc : c ∈ (placeAll s).state.plan.bookings)
    (hstate : c.state = some .clashed) (hnot : ∀ b ∈ s.plan.bookings, b.number = c.number → b.state ≠ some .clashed) :
    c.number ∈ (placeAll s).newly := by
  have hopen : c.isOpen = true := by simp [Booking.isOpen, hstate]
  cases origin hn hc with
  | kept hb hno => exact absurd hstate (hnot c hb rfl)
  | placed => cases hstate
  | @clashed b _ _ _ _ hb _ _ _ hnewly => exact hnewly (hnot b hb rfl)
  | alternate => cases hstate
  | ran hb hx => exact absurd hstate (hnot c hb rfl)
  | @cut b _ _ _ _ _ _ _ hb hx => exact absurd hstate (hnot b hb rfl)

theorem placed_numbers (hn : NumbersOk s) : NumbersOk (placed s).state := (placeAll_ready (formWindows_numbers hn)).numbers

theorem refreshed_states {b : Booking} : (refreshBooking s b).number = b.number ∧ (refreshBooking s b).state = b.state := by
  rw [refreshBooking_face]; exact ⟨rfl, rfl⟩

theorem handOn_outbox (w : Pass) : (handOn w).outbox = w.state.outbox := (handOn_handing w).read State.outbox rfl

theorem handOn_alerts (w : Pass) : (handOn w).alerts = w.state.alerts := (handOn_handing w).read State.alerts rfl

theorem planPass_outbox (s : State) : (planPass s).outbox = (reportPass (placed s)).state.outbox := by
  rw [planPass_eq, handOn_outbox]

theorem planPass_alerts (s : State) : (planPass s).alerts = (reportPass (placed s)).state.alerts := by
  rw [planPass_eq, handOn_alerts]

theorem placed_masks (hn : NumbersOk s) : (placed s).state.alerts.masks = s.alerts.masks :=
  congrArg Standing.masks (placed_standing hn)

/-- Step 4 leaves room to announce what it has made CLASHED. -/
theorem placed_reports (hn : NumbersOk s) : ∃ k, Joins Notice.IsEnd k s.outbox.notices (placed s).state.outbox.notices
    ∧ k + (placed s).newly.length ≤ s.plan.bookings.length := by
  obtain ⟨k, hjoins, hcount⟩ := placeAll_reports (formWindows_numbers hn)
  rw [formWindows_length] at hcount
  exact ⟨k, hjoins, hcount⟩

theorem clash_announced (hn : NumbersOk s) {c : Booking} (hc : c ∈ (planPass s).plan.bookings)
    (hstate : c.state = some .clashed)
    (hnot : ∀ b ∈ s.plan.bookings, b.number = c.number → b.state ≠ some .clashed)
    (hmask : s.alerts.masks.edge.clashNew = false)
    (hroom : s.outbox.notices.length + s.plan.bookings.length + 2 ≤ 24) :
    .clashNew c.number c.partners ∈ (planPass s).outbox.notices := by
  obtain ⟨a, ha, hdressed⟩ := from_placed hn hc
  obtain ⟨k, hjoins, hcount⟩ := placed_reports hn
  have hlength := hjoins.length
  rw [hdressed.number] at hnot ⊢
  rw [hdressed.partners, planPass_outbox]
  refine (reportPass_reported (placed s)).announced (placed_numbers hn).distinct ((placed_masks hn).symm ▸ hmask) (by omega)
    a ha (newly_of_clashed (formWindows_numbers hn) ha (hdressed.state ▸ hstate) fun b hb hnumber => ?_)
  obtain ⟨e, he, rfl⟩ := mem_formWindows.mp hb
  rw [refreshed_states.2]
  exact hnot e he (refreshed_states.1.symm.trans hnumber)

theorem announced_clash (hn : NumbersOk s) {n : Nat} {ps : List Nat} (h : .clashNew n ps ∈ (planPass s).outbox.notices)
    (hnew : .clashNew n ps ∉ s.outbox.notices) :
    (∃ c ∈ (planPass s).plan.bookings, c.number = n ∧ c.partners = ps ∧ c.state = some .clashed)
      ∧ ∀ b ∈ s.plan.bookings, b.number = n → b.state ≠ some .clashed := by
  rw [planPass_outbox] at h
  obtain ⟨k, hjoins, -⟩ := placed_reports hn
  have hsource : Announces (placed s).state.plan.bookings (placed s).newly (.clashNew n ps) := by
    rcases (reportPass_reported (placed s)).notices.fresh _ h with hmem | hann | ⟨l, hl⟩
    · rcases hjoins.fresh _ hmem with hmem | ⟨x, hx⟩
      · exact absurd hmem hnew
      · cases hx
    · exact hann
    · cases hl
  obtain ⟨c, hc, hnewly, heq⟩ := hsource
  obtain ⟨rfl, rfl⟩ := Notice.clashNew.inj heq
  obtain ⟨b, hb, hnumber, hwas, qs, hclashed⟩ := newly_clashed (formWindows_numbers hn) hnewly
  obtain rfl := booking_eq_of_number (placed_numbers hn).distinct hclashed hc hnumber
  obtain ⟨d, hd, hdressed⟩ := to_planned hn hc
  refine ⟨⟨d, hd, hdressed.number, hdressed.partners, hdressed.state⟩, fun e he hen => ?_⟩
  have hmem : refreshBooking s e ∈ (formWindows s).plan.bookings := mem_formWindows.mpr ⟨e, he, rfl⟩
  have hsame := booking_eq_of_number (formWindows_numbers hn).distinct hmem hb (refreshed_states.1.trans hen)
  rw [← refreshed_states (s := s) (b := e) |>.2, hsame]
  exact hwas

/-! ### The counts (R103, R109) -/

theorem forall₂_filter_length {α β : Type} {R : α → β → Prop} {p : α → Bool} {q : β → Bool} {xs : List α} {ys : List β}
    (h : List.Forall₂ R xs ys) (hpq : ∀ x y, R x y → q y = p x) : (ys.filter q).length = (xs.filter p).length := by
  induction h with
  | nil => rfl
  | cons hxy _ ih =>
    rw [List.filter_cons, List.filter_cons, hpq _ _ hxy]
    split
    · rw [List.length_cons, List.length_cons, ih]
    · exact ih

theorem clashCount_left (hn : NumbersOk s) :
    (planPass s).alerts.clashCount = ((planPass s).inState .clashed).length := by
  rw [planPass_alerts, (reportPass_reported (placed s)).clashes]
  exact (forall₂_filter_length (planPass_bookings hn) fun _ _ h => by rw [h.state]).symm

theorem spaceCount_left (s : State) : (planPass s).alerts.spaceCount = flaggedCount (planPass s) := by
  rw [planPass_alerts, (reportPass_reported (placed s)).shorts]
  unfold flaggedCount
  have hbookings : (planPass s).plan.bookings = (reportPass (placed s)).state.plan.bookings.map
      (alignBooking (reportPass (placed s)).state.settings) := by rw [planPass_eq, handOn_plan]
  rw [hbookings, List.filter_map, List.length_map]
  refine congrArg List.length (List.filter_congr fun b _ => ?_)
  rw [Function.comp_apply, alignBooking_face]

/-! ### The wake expiry and the agenda (R90, R142) -/

theorem computeWake_recomputed (s : State) : computeWake (recomputeWake s) = computeWake s :=
  (recomputeWake_handing s).read computeWake rfl

theorem recomputeWake_state (s : State) : (recomputeWake s).host.state = s.host.state :=
  (recomputeWake_handing s).read (fun x => x.host.state) rfl

theorem handOn_wake (w : Pass) (h : (handOn w).host.state = .sleeping ∨ (handOn w).host.state = .wakeFailed) :
    ((handOn w).host.wakeExpiry, (handOn w).host.expiryCause) = computeWake (handOn w) := by
  have hagenda : ∀ (u : State) (ds : List Due), computeWake { u with agenda := ds } = computeWake u := fun _ _ => rfl
  rw [handOn_eq] at h ⊢
  rw [hagenda, computeWake_recomputed]
  refine (recomputeWake_spec _).2 ((holdsWake_iff _).mpr ?_)
  rw [← recomputeWake_state]
  exact h

theorem planPass_wake (h : (planPass s).host.state = .sleeping ∨ (planPass s).host.state = .wakeFailed) :
    ((planPass s).host.wakeExpiry, (planPass s).host.expiryCause) = computeWake (planPass s) := by
  rw [planPass_eq] at h ⊢
  exact handOn_wake _ h

theorem handOn_agenda (w : Pass) : ∃ warned, (handOn w).agenda
      = warned ++ wakeDues (handOn w) ++ w.state.agenda ++ duesOf w.state
    ∧ (warned = [] ∨ warned = [.warning .a] ∨ warned = [.warning .b] ∨ warned = [.warning .a, .warning .b]) := by
  refine ⟨_, ?_, yieldsWritten_agenda w⟩
  have hdues : ∀ (u : State) (ds : List Due), wakeDues { u with agenda := ds } = wakeDues u := fun _ _ => rfl
  rw [handOn_eq, hdues, ← (recomputeWake_spec _).1, List.append_assoc]

theorem mem_movedDue {present : Nat} {old new : Option Nat} {d e : Due} (h : e ∈ movedDue present old new d) : e = d := by
  unfold movedDue at h
  split at h
  · split at h
    · exact List.mem_singleton.mp h
    · cases h
  · cases h

/-- An expiry that has moved and is reached is due. -/
theorem movedDue_reached {present i : Nat} {old new : Option Nat} {d : Due} (hnew : new = some i) (hold : old ≠ some i)
    (hi : i ≤ present) : d ∈ movedDue present old new d := by
  unfold movedDue
  rw [hnew]
  exact List.mem_ite_nil_right.mpr ⟨⟨hold, hi⟩, List.mem_singleton_self d⟩

theorem mem_duesOf {u : State} {d : Due} (h : d ∈ duesOf u) :
    ∃ n, d = .windowStart n ∨ d = .lateLimit n ∨ d = .provisionalEnd n := by
  obtain ⟨ds, hds, hd⟩ := List.mem_flatten.mp h
  obtain ⟨b, -, rfl⟩ := List.mem_map.mp hds
  unfold alignDues at hd
  simp only [List.mem_append] at hd
  rcases hd with (hd | hd) | hd
  · exact ⟨_, .inl (mem_movedDue hd)⟩
  · exact ⟨_, .inr (.inl (mem_movedDue hd))⟩
  · exact ⟨_, .inr (.inr (mem_movedDue hd))⟩

theorem Reporting.agenda {u v : State} (h : Reporting u v) : v.agenda = u.agenda := h.read State.agenda rfl

theorem During.agenda {u v : State} (h : During u v) : v.agenda = u.agenda := h.read State.agenda rfl

theorem formWindows_agenda (s : State) : (formWindows s).agenda = s.agenda := rfl

theorem reportPass_agenda (hn : NumbersOk s) : (reportPass (placed s)).state.agenda = s.agenda := by
  rw [(reportPass_reported (placed s)).frame.agenda, (placed_during hn).agenda, formWindows_agenda]

theorem planPass_agenda (hn : NumbersOk s) : ∃ warned, (planPass s).agenda
      = warned ++ wakeDues (planPass s) ++ s.agenda ++ duesOf (reportPass (placed s)).state
    ∧ (warned = [] ∨ warned = [.warning .a] ∨ warned = [.warning .b] ∨ warned = [.warning .a, .warning .b]) := by
  rw [planPass_eq, ← reportPass_agenda hn]
  exact handOn_agenda _

/-! ### The bookings' own expiries (R117) -/

/-- A booking's expiries before the pass, or none. -/
def ExpiriesOf (s : State) (c : Booking) : Prop :=
  (∃ b ∈ s.plan.bookings, b.number = c.number ∧ b.windowExpiry = c.windowExpiry ∧ b.lateExpiry = c.lateExpiry
    ∧ b.provExpiry = c.provExpiry)
  ∨ (c.windowExpiry = none ∧ c.lateExpiry = none ∧ c.provExpiry = none)

theorem placeAll_expiries (hn : NumbersOk s) {c : Booking} (hc : c ∈ (placeAll s).state.plan.bookings) : ExpiriesOf s c := by
  cases origin hn hc with
  | kept hb hno => exact .inl ⟨c, hb, rfl, rfl, rfl, rfl⟩
  | @placed b _ _ _ _ _ hb => exact .inl ⟨b, hb, rfl, rfl, rfl, rfl⟩
  | @clashed b _ _ _ _ hb => exact .inl ⟨b, hb, rfl, rfl, rfl, rfl⟩
  | alternate => exact .inr ⟨rfl, rfl, rfl⟩
  | ran hb hx => exact .inl ⟨c, hb, rfl, rfl, rfl, rfl⟩
  | @cut b _ _ _ _ _ _ _ hb hx => exact .inl ⟨b, hb, rfl, rfl, rfl, rfl⟩

theorem flagSpace_face (u : State) (n : Nat) (bs : List Booking) :
    List.Forall₂ (fun c d : Booking => d = { c with spaceShort := d.spaceShort }) bs (flagSpace u n bs) := by
  induction bs generalizing n with
  | nil => exact .nil
  | cons b bs ih =>
    simp only [flagSpace]
    refine .cons ?_ (ih _)
    split
    · rfl
    · split <;> rfl

theorem reported_expiries (hn : NumbersOk s) {e : Booking} (he : e ∈ (reportPass (placed s)).state.plan.bookings) :
    ExpiriesOf s e := by
  obtain ⟨u, hu⟩ := (reportPass_reported (placed s)).flags
  rw [hu] at he
  obtain ⟨c, hc, heq⟩ := forall₂_left (flagSpace_face u 0 _).flip he
  have hplaced : ExpiriesOf (formWindows s) c := placeAll_expiries (formWindows_numbers hn) hc
  have hsame : ExpiriesOf (formWindows s) e := by rw [heq]; exact hplaced
  refine hsame.imp_left ?_
  rintro ⟨b, hb, hrest⟩
  obtain ⟨a, ha, rfl⟩ := mem_formWindows.mp hb
  refine ⟨a, ha, ?_⟩
  rw [refreshBooking_face] at hrest
  exact hrest

/-- An expiry that no booking of the number had before is not the one the booking has kept. -/
theorem ExpiriesOf.moved {c : Booking} (h : ExpiriesOf s c) {i : Nat} :
    ((∀ b ∈ s.plan.bookings, b.number = c.number → b.windowExpiry ≠ some i) → c.windowExpiry ≠ some i)
    ∧ ((∀ b ∈ s.plan.bookings, b.number = c.number → b.lateExpiry ≠ some i) → c.lateExpiry ≠ some i)
    ∧ ((∀ b ∈ s.plan.bookings, b.number = c.number → b.provExpiry ≠ some i) → c.provExpiry ≠ some i) := by
  rcases h with ⟨b, hb, hnumber, hwindow, hlate, hprov⟩ | ⟨hwindow, hlate, hprov⟩
  · rw [← hwindow, ← hlate, ← hprov]
    exact ⟨fun h => h b hb hnumber, fun h => h b hb hnumber, fun h => h b hb hnumber⟩
  · rw [hwindow, hlate, hprov]
    exact ⟨fun _ => nofun, fun _ => nofun, fun _ => nofun⟩

theorem dues_left (hn : NumbersOk s) {c : Booking} (hc : c ∈ (planPass s).plan.bookings) :
    (c.state = some .planned → c.winStart ≤ s.present → (∀ b ∈ s.plan.bookings, b.number = c.number →
      b.windowExpiry ≠ some c.winStart) → .windowStart c.number ∈ (planPass s).agenda)
    ∧ (c.state = some .clashed → lateLimitOf s.settings c ≤ s.present → (∀ b ∈ s.plan.bookings, b.number = c.number →
      b.lateExpiry ≠ some (lateLimitOf s.settings c)) → .lateLimit c.number ∈ (planPass s).agenda)
    ∧ (c.state = some .recording → c.provEnd ≤ s.present → (∀ b ∈ s.plan.bookings, b.number = c.number →
      b.provExpiry ≠ some c.provEnd) → .provisionalEnd c.number ∈ (planPass s).agenda) := by
  obtain ⟨r, hr⟩ : ∃ r, r = (reportPass (placed s)).state := ⟨_, rfl⟩
  obtain ⟨warned, hagenda, -⟩ := planPass_agenda hn
  have hsettings : r.settings = s.settings := hr ▸ reportPass_settings hn
  have hpresent : r.present = s.present :=
    hr ▸ present_of_standing ((reportPass_works (placed s)).standing.trans (placed_standing hn))
  have hbookings : (planPass s).plan.bookings = r.plan.bookings.map (alignBooking r.settings) := by
    rw [hr, planPass_eq, handOn_plan]
  rw [hbookings, hsettings] at hc
  obtain ⟨e, he, rfl⟩ := List.mem_map.mp hc
  have hmoved := fun {i} => (reported_expiries hn (hr ▸ he)).moved (i := i)
  have hmem : ∀ d, d ∈ alignDues r e → d ∈ (planPass s).agenda := fun d hd => by
    rw [hagenda, ← hr]
    exact List.mem_append_right _ (List.mem_flatten.mpr ⟨_, List.mem_map_of_mem he, hd⟩)
  have hface : (alignBooking s.settings e).number = e.number ∧ (alignBooking s.settings e).state = e.state
      ∧ (alignBooking s.settings e).winStart = e.winStart ∧ (alignBooking s.settings e).provEnd = e.provEnd
      ∧ lateLimitOf s.settings (alignBooking s.settings e) = lateLimitOf s.settings e := by
    rw [alignBooking_face]; exact ⟨rfl, rfl, rfl, rfl, rfl⟩
  obtain ⟨hnumber, hstate, hstart, hend, hlimit⟩ := hface
  rw [hnumber, hstate, hstart, hend, hlimit]
  unfold alignDues at hmem
  rw [hsettings, hpresent] at hmem
  refine ⟨fun hs hi hold => hmem _ ?_, fun hs hi hold => hmem _ ?_, fun hs hi hold => hmem _ ?_⟩
  · refine List.mem_append_left _ (List.mem_append_left _ (movedDue_reached ?_ (hmoved.1 hold) hi))
    rw [alignBooking_planned hs]
  · refine List.mem_append_left _ (List.mem_append_right _ (movedDue_reached ?_ (hmoved.2.1 hold) hi))
    rw [alignBooking_clashed hs]
  · refine List.mem_append_right _ (movedDue_reached ?_ (hmoved.2.2 hold) hi)
    rw [alignBooking_recording hs]

end

/-! ### The obligation -/

theorem passes_when_set (s : State) : (s.clockSet = false → passIfSet s = s ∧ deriveAndPass s = s)
    ∧ (s.clockSet = true → passIfSet s = planPass s ∧ deriveAndPass s = planPass (derive s)) := by
  unfold passIfSet deriveAndPass
  exact ⟨fun h => by rw [h]; exact ⟨rfl, rfl⟩, fun h => by rw [h]; exact ⟨rfl, rfl⟩⟩

/-- Settles O31: each conjunct is read off the turns of the candidates in step 4, and off what steps 5 to 7 report and hand
on of their outcome. -/
theorem passPlacesOrClashes : Obligations.PassPlacesOrClashes := by
  refine ⟨passes_when_set, before_iff, rankedCandidates_ordered, fun s xs n x => ⟨fitSlot_iff s xs n x, carries_iff xs x n⟩,
    fun s xs claims n => ⟨fun k => choosePlace_a, fun k => choosePlace_b, fun ha hb => choosePlace_none_iff.mpr ⟨ha, hb⟩,
      fun p => tryPlace_some, tryPlace_none⟩, fun s hn => ?_⟩
  refine ⟨planPass_standing hn, planPass_requests hn, fun b hb hheld => held_left hn hb hheld,
    fun b hb hopen => open_left hn hb hopen, fun c hc hopen => open_formed hn hc hopen,
    fun b hb c hc => new_over_left hn hb hc,
    fun c hc e he p q hstate hahead hne hp hpq hocc => no_conflict_left hn hc he hstate hne hp hpq hocc,
    fun c hc hstate hfits hsvc => clashed_left hn hc hstate hfits hsvc,
    fun hpins c hc hstate hahead r f id hr hkind hid g => no_airing_left hn hpins hc hstate hahead hr hkind hid,
    fun x h hh => hold_yields_left hn hh, fun c hc => clash_announced hn hc, fun n ps => announced_clash hn,
    clashCount_left hn, spaceCount_left s, planPass_wake, ?agenda, fun c hc => dues_left hn hc⟩
  case agenda =>
    obtain ⟨warned, hagenda, hwarned⟩ := planPass_agenda hn
    have hpresent := planPass_present hn
    refine ⟨warned, duesOf (reportPass (placed s)).state, ?_, hwarned, fun d => mem_duesOf⟩
    generalize planPass s = t at hagenda hpresent ⊢
    rw [hagenda, ← hpresent]
    rfl

end Sys2Proof.Machine

/-! PROOFS. The steps of a finish (R132), and a finish that a pass makes in favour of an alternate airing (R105). -/

namespace Sys2Proof.Machine

/-! ### What an announcement touches -/

/-- A state with the notices, the alert table and the image of another. -/
def State.told (s u : State) : State :=
  { s with
    outbox := { s.outbox with notices := u.outbox.notices, lost := u.outbox.lost }
    alerts := u.alerts
    image := u.image }

/-- From `s` to `u` something has at most been announced. -/
def Tells (s u : State) : Prop := u = s.told u

namespace Tells
variable {s u : State}

theorem refl (s : State) : Tells s s := rfl

/-- What reads none of the touched parts reads the same. -/
theorem read {α : Type} (h : Tells s u) (f : State → α) (hf : f (s.told u) = f s) : f u = f s :=
  (congrArg f (show u = s.told u from h)).trans hf

theorem requests (h : Tells s u) : u.requests = s.requests := h.read State.requests rfl
theorem guide (h : Tells s u) : u.guide = s.guide := h.read State.guide rfl
theorem run (h : Tells s u) : u.run = s.run := h.read State.run rfl
theorem panel (h : Tells s u) : u.panel = s.panel := h.read State.panel rfl
theorem directives (h : Tells s u) : u.outbox.directives = s.outbox.directives :=
  h.read (fun x => x.outbox.directives) rfl

end Tells

theorem noteChange_tells (c : StoredContent) (t : State) : Tells t (State.noteChange c t) := noteChange_eq c t

theorem joinNotice_tells (s : State) (n : Notice) : Tells s (s.joinNotice n) := by
  unfold Tells
  conv_lhs => rw [joinNotice_eq]
  have halerts : (s.joinNotice n).alerts = s.alerts := by rw [joinNotice_eq]
  have himage : (s.joinNotice n).image = s.image := by rw [joinNotice_eq]
  rw [State.told, halerts, himage]

theorem edgeEvent_tells (s : State) (n : Notice) : Tells s (s.edgeEvent n) := by
  unfold State.edgeEvent
  split
  · exact .refl s
  · exact joinNotice_tells s n

theorem announceEnd_tells (b : Booking) (e : Ending) (s : State) : Tells s (announceEnd b e s) := by
  unfold announceEnd
  split
  · exact edgeEvent_tells s _
  · exact .refl s

/-- While the queue has room, a change of stored content adds at most a notice of the image. -/
theorem noteChange_notices (c : StoredContent) {t : State} (h : t.outbox.notices.length < 24) :
    (State.noteChange c t).outbox.notices = t.outbox.notices
      ∨ ∃ x, (State.noteChange c t).outbox.notices = t.outbox.notices ++ [.storeStale x] := by
  have samples (u : State) (hu : u.outbox = t.outbox) : (u.sample .storeStale).outbox.notices = t.outbox.notices
      ∨ ∃ x, (u.sample .storeStale).outbox.notices = t.outbox.notices ++ [.storeStale x] := by
    rw [← hu] at h ⊢
    unfold State.sample
    split
    · refine .inr ⟨u.alerts.image, ?_⟩
      exact congrArg (fun v : State => v.outbox.notices) (if_pos h)
    · exact .inl rfl
  unfold State.noteChange
  split
  · exact .inl rfl
  · unfold State.markChanged
    split
    · unfold State.setImageState
      split
      · exact .inl rfl
      · exact samples _ rfl
    all_goals exact .inl rfl

/-! ### Steps 1 to 3: the directives and the list -/

/-- The END due (R131). -/
def endsDue (b : Booking) (r : Option Reason) : List Directive :=
  match r, b.place with
  | some r, some p => [.endRec b.number p r]
  | _, _ => []

theorem queueEnd_directives (b : Booking) (r : Option Reason) (s : State) :
    queueEnd b r s = s.withDirectives (s.outbox.directives ++ endsDue b r) := by
  unfold queueEnd endsDue
  cases r with
  | none => rw [List.append_nil]; rfl
  | some r =>
    cases b.place with
    | none => rw [List.append_nil]; rfl
    | some p => rfl

/-- The directives after steps 1 and 2. -/
def directivesLeft (b : Booking) (r : Option Reason) (ds : List Directive) : List Directive :=
  if b.state = some .due then withoutBegin b.number (ds ++ endsDue b r) else ds ++ endsDue b r

/-- The state after steps 1 to 3. -/
def departed (b : Booking) (r : Option Reason) (s : State) : State :=
  (s.withDirectives (directivesLeft b r s.outbox.directives)).withBookings (others b.number s.plan.bookings)

/-! ### Step 4: the entry -/

theorem mem_repinned {f : Nat → Nat} {k : OccurrenceKey} {es : List GuideEntry} {x : GuideEntry}
    (h : x ∈ repinned f k es) : ∃ y ∈ es, y.slot = x.slot ∧ y.settled = x.settled
      ∧ x.pins = if k = .guideSlot y.slot then f y.pins else y.pins := by
  cases k with
  | localDay d => exact ⟨x, h, rfl, rfl, rfl⟩
  | guideSlot n =>
    obtain ⟨y, hy, rfl⟩ := List.mem_map.mp h
    refine ⟨y, hy, ?_⟩
    by_cases hn : y.slot = n
    · rw [if_pos (beq_iff_eq.mpr hn), if_pos (congrArg OccurrenceKey.guideSlot hn.symm)]
      exact ⟨rfl, rfl, rfl⟩
    · rw [if_neg (mt beq_iff_eq.mp hn), if_neg fun hkey => hn (OccurrenceKey.guideSlot.inj hkey).symm]
      exact ⟨rfl, rfl, rfl⟩

theorem settlesEntry_iff (e : Ending) : settlesEntry e = true
    ↔ ∀ r code, e ≠ .outcome .withdrawn r code ∧ e ≠ .outcome .replaced r code := by
  cases e with
  | cancel => simp [settlesEntry]
  | outcome o r code => cases o <;> simp [settlesEntry]

theorem mem_settleFor (n : Nat) (ns : List Nat) : n ∈ settleFor n ns := by
  unfold settleFor
  split
  · rename_i h; simpa using h
  · exact (insertBy_perm _ _ _).mem_iff.mpr (List.mem_cons_self ..)

/-- Step 4 touches the guide's entries alone. -/
theorem releaseEntry_eq (b : Booking) (e : Ending) (s : State) :
    releaseEntry b e s = s.withEntries (releaseEntry b e s).guide.entries := by
  unfold releaseEntry
  cases b.key with
  | localDay d => rfl
  | guideSlot n => simp only []; split <;> rfl

theorem releaseEntry_slots (b : Booking) (e : Ending) (s : State) :
    (releaseEntry b e s).guide.entries.map GuideEntry.slot = s.guide.entries.map GuideEntry.slot := by
  have hsame := slots_of_faces (releaseEntry_same b e s).entries
  rw [hsame, pinDown_entries, slots_repinned]

/-- The entry a booking names is pinned once less, and settled where the ending settles it. -/
theorem releaseEntry_named {b : Booking} {n : Nat} (hkey : b.key = .guideSlot n) (e : Ending) {s : State} {x : GuideEntry}
    (hx : x ∈ (releaseEntry b e s).guide.entries) (hslot : x.slot = n) : ∃ y ∈ s.guide.entries, y.slot = n
      ∧ x.pins = y.pins - 1 ∧ x.settled = if settlesEntry e = true then settleFor b.request y.settled else y.settled := by
  have unpinned {z : GuideEntry} (hz : z ∈ (s.pinDown (.guideSlot n)).guide.entries) (hn : z.slot = n) :
      ∃ y ∈ s.guide.entries, y.slot = n ∧ z.pins = y.pins - 1 ∧ z.settled = y.settled := by
    rw [pinDown_entries] at hz
    obtain ⟨y, hy, hyslot, hsettled, hpins⟩ := mem_repinned hz
    rw [if_pos (by rw [hyslot, hn])] at hpins
    exact ⟨y, hy, hyslot.trans hn, hpins, hsettled.symm⟩
  unfold releaseEntry at hx
  rw [hkey] at hx
  by_cases hsettles : settlesEntry e = true
  · simp only [hsettles, if_true] at hx ⊢
    obtain ⟨z, hz, rfl⟩ := List.mem_map.mp hx
    by_cases hzn : z.slot = n
    · rw [if_pos (beq_iff_eq.mpr hzn)]
      obtain ⟨y, hy, hyslot, hpins, hsettled⟩ := unpinned hz hzn
      exact ⟨y, hy, hyslot, hpins, congrArg (settleFor b.request) hsettled⟩
    · rw [if_neg (mt beq_iff_eq.mp hzn)] at hslot
      exact absurd hslot hzn
  · simp only [hsettles] at hx ⊢
    exact unpinned hx hslot

/-! ### Step 5: the request (R65, R69) -/

/-- The finish report removes the request. -/
def reportRemoves (r : Request) (e : Ending) (s : State) : Bool :=
  if r.state = .dropping then (s.liveOf r.number).isEmpty else endsRequest r e

/-- An entry that a removed request leaves. -/
def unsettled (n : Nat) (x : GuideEntry) : GuideEntry := { x with settled := x.settled.filter (fun m => m != n) }

/-- The Request Table after a finish report. -/
def requestsLeft (r : Request) (b : Booking) (e : Ending) (s : State) : List Request :=
  if reportRemoves r e s = true then s.requests.filter (fun q => q.number != r.number)
  else if r.state = .dropping then s.requests
  else s.requests.map (fun q => if q.number == r.number then requestAfter q b s.present e else q)

/-- The entries after a finish report. -/
def entriesLeft (r : Request) (e : Ending) (s : State) : List GuideEntry :=
  if reportRemoves r e s = true then s.guide.entries.map (unsettled r.number) else s.guide.entries

/-- Changing what is filtered out makes no difference. -/
theorem filter_map_number {n : Nat} {f : Request → Request} (hf : ∀ q, (f q).number = q.number) (rs : List Request) :
    (rs.map fun q => if q.number == n then f q else q).filter (fun q => q.number != n)
      = rs.filter (fun q => q.number != n) := by
  induction rs with
  | nil => rfl
  | cons q rs ih =>
    rw [List.map_cons, List.filter_cons, List.filter_cons, ih]
    by_cases hq : q.number = n
    · simp [hq, hf]
    · simp [hq]

section
variable {s : State} {b : Booking} {r : Request} {e : Ending}

theorem applyReport_none (h : s.request? b.request = none) : applyReport b e s = s := by
  unfold applyReport; rw [h]

theorem applyReport_some (h : s.request? b.request = some r) : Tells
    { s with requests := requestsLeft r b e s, guide := { s.guide with entries := entriesLeft r e s } }
    (applyReport b e s) := by
  have hwritten : applyReport b e s = State.noteChange s.storedContent
      { s with requests := requestsLeft r b e s, guide := { s.guide with entries := entriesLeft r e s } } := by
    unfold applyReport requestsLeft entriesLeft reportRemoves
    rw [h]
    simp only [State.changing]
    congr 1
    by_cases hdropping : r.state = .dropping
    · simp only [hdropping, if_true]
      split <;> rfl
    · simp only [hdropping, if_false]
      split
      · exact congrArg (fun rs => { s.removeRequest r.number with requests := rs })
          (filter_map_number (f := fun q => requestAfter q b s.present e) (fun _ => rfl) s.requests)
      · rfl
  rw [hwritten]
  exact noteChange_tells _ _

theorem applyReport_requests (h : s.request? b.request = some r) : (applyReport b e s).requests = requestsLeft r b e s :=
  (applyReport_some h).requests

theorem applyReport_entries (h : s.request? b.request = some r) :
    (applyReport b e s).guide.entries = entriesLeft r e s := by
  rw [(applyReport_some h).guide]

/-- A request found stays in the table exactly if the report does not remove it. -/
theorem mem_requestsLeft (h : s.request? b.request = some r) :
    b.request ∈ (requestsLeft r b e s).map Request.number ↔ reportRemoves r e s = false := by
  obtain ⟨hr, hnumber⟩ := request?_spec h
  have hmem : b.request ∈ s.requests.map Request.number := List.mem_map.mpr ⟨r, hr, hnumber⟩
  unfold requestsLeft
  by_cases hremoves : reportRemoves r e s = true
  · simp [hremoves, hnumber]
  · rw [if_neg hremoves]
    refine iff_of_true ?_ (Bool.eq_false_iff.mpr hremoves)
    split
    · exact hmem
    · have hkept : (s.requests.map fun q => if q.number == r.number then requestAfter q b s.present e else q).map
          Request.number = s.requests.map Request.number := by
        rw [List.map_map]
        refine List.map_congr_left fun q _ => ?_
        rw [Function.comp_apply]
        split <;> rfl
      rw [hkept]; exact hmem

end

/-- What a finish report leaves of an entry: its slot and pins, and of its settled set all but a removed request's number. -/
theorem applyReport_entry {b : Booking} {e : Ending} {s : State} {x : GuideEntry}
    (hx : x ∈ (applyReport b e s).guide.entries) : ∃ z ∈ s.guide.entries, z.slot = x.slot ∧ x.pins = z.pins
      ∧ (∀ m ∈ x.settled, m ∈ z.settled)
      ∧ (b.request ∈ (applyReport b e s).requests.map Request.number → x.settled = z.settled) := by
  cases h : s.request? b.request with
  | none =>
    rw [applyReport_none h] at hx
    exact ⟨x, hx, rfl, rfl, fun _ => id, fun _ => rfl⟩
  | some r =>
    rw [applyReport_entries h] at hx
    rw [applyReport_requests h, mem_requestsLeft h]
    by_cases hremoves : reportRemoves r e s = true
    · rw [entriesLeft, if_pos hremoves] at hx
      obtain ⟨z, hz, rfl⟩ := List.mem_map.mp hx
      exact ⟨z, hz, rfl, rfl, fun m hm => (List.mem_filter.mp hm).1, fun hkept => absurd hremoves (hkept ▸ Bool.false_ne_true)⟩
    · rw [entriesLeft, if_neg hremoves] at hx
      exact ⟨x, hx, rfl, rfl, fun _ => id, fun _ => rfl⟩

theorem applyReport_slots (b : Booking) (e : Ending) (s : State) :
    (applyReport b e s).guide.entries.map GuideEntry.slot = s.guide.entries.map GuideEntry.slot :=
  slots_of_faces (applyReport_same b e s).entries

theorem applyReport_run (b : Booking) (e : Ending) (s : State) : (applyReport b e s).run = s.run := by
  cases h : s.request? b.request with
  | none => rw [applyReport_none h]
  | some r => exact (applyReport_some h).run

theorem applyReport_panel (b : Booking) (e : Ending) (s : State) : (applyReport b e s).panel = s.panel := by
  cases h : s.request? b.request with
  | none => rw [applyReport_none h]
  | some r => exact (applyReport_some h).panel

theorem applyReport_directives (b : Booking) (e : Ending) (s : State) :
    (applyReport b e s).outbox.directives = s.outbox.directives := by
  cases h : s.request? b.request with
  | none => rw [applyReport_none h]
  | some r => exact (applyReport_some h).directives

/-- While the queue has room, a finish report adds at most a notice of the image. -/
theorem applyReport_notices (b : Booking) (e : Ending) {s : State} (h : s.outbox.notices.length < 24) :
    (applyReport b e s).outbox.notices = s.outbox.notices
      ∨ ∃ x, (applyReport b e s).outbox.notices = s.outbox.notices ++ [.storeStale x] := by
  unfold applyReport
  split
  · exact .inl rfl
  · rename_i r _
    have hquiet : ∀ f : State → State, (f s).outbox = s.outbox → (s.changing f).outbox.notices = s.outbox.notices
        ∨ ∃ x, (s.changing f).outbox.notices = s.outbox.notices ++ [.storeStale x] := fun f hf => by
      rw [← hf] at h ⊢
      exact noteChange_notices _ h
    refine hquiet _ ?_
    simp only []
    split
    · split <;> rfl
    · split <;> rfl

/-! ### Step 6: the recording count (R111, R148) -/

/-- A recording less: the last moves the panel lines. -/
theorem setRecordings_pred (s : State) : s.setRecordings (s.run.recordings - 1) = { s with
    run := { s.run with recordings := s.run.recordings - 1 }
    panel := { s.panel with lines :=
      if s.run.recordings = 1 ∧ s.panel.staged.recLast.enable = true then s.panel.staged.recLast.pattern
      else s.panel.lines } } := by
  unfold State.setRecordings
  simp only []
  rw [if_neg fun h => by omega]
  by_cases hone : s.run.recordings = 1
  · rw [if_pos ⟨hone, by omega⟩]
    by_cases hon : s.panel.staged.recLast.enable = true
    · rw [if_pos ⟨hone, hon⟩]; exact if_pos hon
    · rw [if_neg fun h => hon h.2]; exact if_neg hon
  · rw [if_neg fun h => hone h.1, if_neg fun h => hone h.1]

/-- Step 6 of a finish. -/
def countLowered (b : Booking) (s : State) : State :=
  if b.state = some .recording then s.setRecordings (s.run.recordings - 1) else s

theorem countLowered_eq (b : Booking) (s : State) : countLowered b s = { s with
    run := { s.run with
      recordings := if b.state = some .recording then s.run.recordings - 1 else s.run.recordings }
    panel := { s.panel with
      lines := if b.state = some .recording ∧ s.run.recordings = 1 ∧ s.panel.staged.recLast.enable = true
        then s.panel.staged.recLast.pattern else s.panel.lines } } := by
  unfold countLowered
  by_cases h : b.state = some .recording
  · simp only [h, if_true, true_and]
    exact setRecordings_pred s
  · simp only [h, if_false, false_and]

/-! ### Steps 1 to 7 (R132) -/

/-- The state after steps 1 to 4. -/
def released (e : Ending) (r : Option Reason) (b : Booking) (s : State) : State := releaseEntry b e (departed b r s)

/-- The state after steps 1 to 6. -/
def reported (e : Ending) (r : Option Reason) (b : Booking) (s : State) : State :=
  countLowered b (applyReport b e (released e r b s))

theorem finishBooking_eq (e : Ending) (r : Option Reason) (b : Booking) (s : State) :
    finishBooking e r b s = announceEnd b e (reported e r b s) := by
  have hdirectives : (if b.state = some .due then (queueEnd b r s).withdrawBegin b.number else queueEnd b r s)
      = s.withDirectives (directivesLeft b r s.outbox.directives) := by
    rw [queueEnd_directives, directivesLeft]
    split <;> rfl
  unfold finishBooking
  simp only []
  rw [hdirectives]
  rfl

section
variable (e : Ending) (w : Option Reason) (b : Booking) (s : State)

theorem released_eq : released e w b s = (departed b w s).withEntries (released e w b s).guide.entries :=
  releaseEntry_eq b e _

theorem released_run : (released e w b s).run = s.run := by rw [released_eq]; rfl
theorem released_panel : (released e w b s).panel = s.panel := by rw [released_eq]; rfl
theorem released_requests : (released e w b s).requests = s.requests := by rw [released_eq]; rfl
theorem released_present : (released e w b s).present = s.present := by rw [released_eq]; rfl
theorem released_notices : (released e w b s).outbox.notices = s.outbox.notices := by rw [released_eq]; rfl
theorem released_directives :
    (released e w b s).outbox.directives = directivesLeft b w s.outbox.directives := by rw [released_eq]; rfl
theorem released_request? (n : Nat) : (released e w b s).request? n = s.request? n := by
  rw [State.request?, released_requests]; rfl

theorem released_liveOf (n : Nat) : (released e w b s).liveOf n
    = s.plan.bookings.filter (fun c => c.number != b.number && c.request == n) := by
  have hbookings : (released e w b s).plan.bookings = others b.number s.plan.bookings := by rw [released_eq]; rfl
  rw [State.liveOf, hbookings, others, List.filter_filter]
  exact List.filter_congr fun c _ => Bool.and_comm _ _

theorem reported_guide : (reported e w b s).guide = (applyReport b e (released e w b s)).guide := by
  rw [reported, countLowered_eq]

theorem reported_requests : (reported e w b s).requests = (applyReport b e (released e w b s)).requests := by
  rw [reported, countLowered_eq]

theorem reported_outbox : (reported e w b s).outbox = (applyReport b e (released e w b s)).outbox := by
  rw [reported, countLowered_eq]

theorem finishBooking_guide : (finishBooking e w b s).guide = (applyReport b e (released e w b s)).guide := by
  rw [finishBooking_eq, (announceEnd_tells b e _).guide, reported_guide]

theorem finishBooking_requests : (finishBooking e w b s).requests = (applyReport b e (released e w b s)).requests := by
  rw [finishBooking_eq, (announceEnd_tells b e _).requests, reported_requests]

theorem finishBooking_directives :
    (finishBooking e w b s).outbox.directives = directivesLeft b w s.outbox.directives := by
  rw [finishBooking_eq, (announceEnd_tells b e _).directives, reported_outbox, applyReport_directives,
    released_directives]

theorem finishBooking_recordings : (finishBooking e w b s).run.recordings =
    if b.state = some .recording then s.run.recordings - 1 else s.run.recordings := by
  rw [finishBooking_eq, (announceEnd_tells b e _).run, reported, countLowered_eq, applyReport_run, released_run]

theorem finishBooking_lines : (finishBooking e w b s).panel.lines =
    if b.state = some .recording ∧ s.run.recordings = 1 ∧ s.panel.staged.recLast.enable = true then
      s.panel.staged.recLast.pattern
    else s.panel.lines := by
  rw [finishBooking_eq, (announceEnd_tells b e _).panel, reported, countLowered_eq, applyReport_run,
    applyReport_panel, released_run, released_panel]

theorem finishBooking_slots :
    (finishBooking e w b s).guide.entries.map GuideEntry.slot = s.guide.entries.map GuideEntry.slot := by
  rw [finishBooking_guide, applyReport_slots]
  exact releaseEntry_slots b e _

/-- The entry a finished booking names (R30, R31). -/
theorem finishBooking_entry {n : Nat} {x : GuideEntry} (hkey : b.key = .guideSlot n)
    (hx : x ∈ (finishBooking e w b s).guide.entries) (hslot : x.slot = n) : ∃ y ∈ s.guide.entries, y.slot = n
      ∧ x.pins = y.pins - 1
      ∧ (settlesEntry e = true → b.request ∈ (finishBooking e w b s).requests.map Request.number → b.request ∈ x.settled)
      ∧ (¬ settlesEntry e = true → ∀ m ∈ x.settled, m ∈ y.settled) := by
  rw [finishBooking_guide] at hx
  obtain ⟨z, hz, hzslot, hzpins, hsubset, hkept⟩ := applyReport_entry hx
  obtain ⟨y, hy, hyslot, hpins, hsettled⟩ := releaseEntry_named hkey e hz (hzslot.trans hslot)
  refine ⟨y, hy, hyslot, hzpins.trans hpins, fun hsettles hstays => ?_, fun hnot m hm => ?_⟩
  · rw [finishBooking_requests] at hstays
    rw [hkept hstays, hsettled, if_pos hsettles]
    exact mem_settleFor _ _
  · rw [if_neg hnot] at hsettled
    exact hsettled ▸ hsubset m hm

theorem reported_present : (reported e w b s).present = s.present := by
  rw [reported, countLowered_eq]
  exact (applyReport_works b e _).present.trans (released_present e w b s)

theorem reported_masks : (reported e w b s).alerts.masks = s.alerts.masks := by
  rw [reported, countLowered_eq]
  exact (applyReport_works b e _).masks.trans (by rw [released_eq]; rfl)

/-- While the queue has room, steps 1 to 6 add at most a notice of the image. -/
theorem reported_notices (h : s.outbox.notices.length < 24) :
    (reported e w b s).outbox.notices = s.outbox.notices
      ∨ ∃ x, (reported e w b s).outbox.notices = s.outbox.notices ++ [.storeStale x] := by
  rw [← released_notices e w b s] at h ⊢
  rw [reported_outbox]
  exact applyReport_notices b e h

end

/-! ### The request of a finished booking (R65, R69) -/

theorem endsRequest_event {r : Request} {f : EventFields} (h : r.kind = .event f) (e : Ending) :
    endsRequest r e = true ↔ ∀ x code, e ≠ .outcome .withdrawn x code := by
  unfold endsRequest
  rw [h]
  cases e with
  | cancel => simp
  | outcome o x code => cases o <;> simp

theorem endsRequest_timed {r : Request} {f : TimedFields} (h : r.kind = .timed f) (e : Ending) :
    endsRequest r e = true ↔ f.days = 0 := by
  unfold endsRequest
  rw [h]
  exact beq_iff_eq

theorem endsRequest_series {r : Request} {f : SeriesFields} (h : r.kind = .series f) (e : Ending) :
    endsRequest r e = false := by
  unfold endsRequest
  rw [h]

section
variable {e : Ending} {w : Option Reason} {b : Booking} {s : State} {r : Request}

theorem finishBooking_absent (h : s.request? b.request = none) : (finishBooking e w b s).requests = s.requests := by
  rw [finishBooking_requests, applyReport_none (by rw [released_request?, h]), released_requests]

variable (h : s.request? b.request = some r)
include h

theorem finishBooking_found : (finishBooking e w b s).requests = requestsLeft r b e (released e w b s) := by
  rw [finishBooking_requests, applyReport_requests (by rw [released_request?, h])]

theorem finishBooking_dropping (hstate : r.state = .dropping) : (finishBooking e w b s).requests =
    if s.plan.bookings.filter (fun c => c.number != b.number && c.request == b.request) = [] then
      s.requests.filter (fun q => q.number != b.request)
    else s.requests := by
  obtain ⟨-, hnumber⟩ := request?_spec h
  rw [finishBooking_found h, requestsLeft, reportRemoves, if_pos hstate, if_pos hstate, released_liveOf, released_requests,
    hnumber]
  exact if_congr List.isEmpty_iff rfl rfl

theorem finishBooking_goes (hstate : r.state ≠ .dropping) (hends : endsRequest r e = true) :
    (finishBooking e w b s).requests = s.requests.filter (fun q => q.number != b.request) := by
  obtain ⟨-, hnumber⟩ := request?_spec h
  rw [finishBooking_found h, requestsLeft, reportRemoves, if_neg hstate, if_pos hends, released_requests, hnumber]

theorem finishBooking_stays (hstate : r.state ≠ .dropping) (hends : endsRequest r e = false) :
    (finishBooking e w b s).requests
      = s.requests.map (fun q => if q.number == b.request then requestAfter q b s.present e else q) := by
  obtain ⟨-, hnumber⟩ := request?_spec h
  rw [finishBooking_found h, requestsLeft, reportRemoves, if_neg hstate, if_neg (Bool.eq_false_iff.mp hends),
    if_neg hstate, released_requests, released_present, hnumber]

/-- A request that goes leaves every settled set (R69). -/
theorem finishBooking_unsettled (hgone : b.request ∉ (finishBooking e w b s).requests.map Request.number) :
    ∀ x ∈ (finishBooking e w b s).guide.entries, b.request ∉ x.settled := by
  obtain ⟨-, hnumber⟩ := request?_spec h
  have hfound : (released e w b s).request? b.request = some r := by rw [released_request?, h]
  rw [finishBooking_found h, mem_requestsLeft hfound, Bool.not_eq_false] at hgone
  intro x hx
  rw [finishBooking_guide, applyReport_entries hfound, entriesLeft, if_pos hgone] at hx
  obtain ⟨z, -, rfl⟩ := List.mem_map.mp hx
  simp [unsettled, hnumber]

end

/-! ### Steps 7 and 8 -/

section
variable {w : Option Reason} {b : Booking} {s : State}

theorem finishBooking_announced {o : BookingOutcome} {r : Reason} {code : Nat}
    (hmask : s.alerts.masks.edge.bookingEnd = false) (hroom : s.outbox.notices.length < 23) :
    (finishBooking (.outcome o r code) w b s).outbox.notices.getLast?
      = some (.bookingEnd ⟨b.number, b.request, o, r, code, b.begun, s.present, none⟩) := by
  have hlength : (reported (.outcome o r code) w b s).outbox.notices.length < 24 := by
    rcases reported_notices (.outcome o r code) w b s (by omega) with hsame | ⟨x, hsame⟩
    · rw [hsame]; omega
    · rw [hsame, List.length_append, List.length_singleton]; omega
  have hjoins := edgeEvent_joins (s := reported (.outcome o r code) w b s)
    (n := .bookingEnd ⟨b.number, b.request, o, r, code, b.begun, s.present, none⟩)
    ((congrArg (fun m : AlertMasks => m.edge.bookingEnd) (reported_masks _ w b s)).trans hmask) hlength
  rw [finishBooking_eq, announceEnd, reported_present, hjoins]
  exact List.getLast?_concat

theorem finishBooking_cancelled : (finishBooking .cancel w b s).outbox.notices.filter (fun n => n.source == .edge .bookingEnd)
      = s.outbox.notices.filter (fun n => n.source == .edge .bookingEnd) ∨ 24 ≤ s.outbox.notices.length := by
  rcases Nat.lt_or_ge s.outbox.notices.length 24 with hroom | hfull
  · refine .inl ?_
    rw [finishBooking_eq, announceEnd]
    rcases reported_notices .cancel w b s hroom with hsame | ⟨x, hsame⟩
    · rw [hsame]
    · rw [hsame, List.filter_append]
      exact List.append_nil _
  · exact .inr hfull

theorem afterFinish_eq (series : Bool) (t : State) : afterFinish series t =
    if t.clockSet = true then planPass (if series = true then derive t else t) else t := by
  cases series <;> rfl

theorem finishOne_eq (e : Ending) : finishOne e w b s =
    if s.clockSet = true then
      planPass (if s.isSeriesBooking b = true then derive (finishBooking e w b s) else finishBooking e w b s)
    else finishBooking e w b s := by
  rw [finishOne, afterFinish_eq, (finishBooking_works e w b s).clockSet]

end

/-! ### An alternate airing booked (R105) -/

section
variable (w : Pass) (r : Request) (b : Booking) (g : GuideEntry) (p : Place) (n : Need)

theorem withoutClashed_during (s : State) : During s (withoutClashed s b) :=
  ((withBookings_during s _).trans (pinDown_during _ _)).trans (edgeEvent_during _ _)

theorem bookAlternate_during : During w.state (bookAlternate w r b g p n).state := by
  rw [bookAlternate_state]
  exact (withoutClashed_during b w.state).trans (enterBooking_during _ _)

theorem bookAlternate_bookings : (bookAlternate w r b g p n).state.plan.bookings.Perm
    (alternateOf w.state r g p w.state.newNumber :: others b.number w.state.plan.bookings) := by
  rw [bookAlternate_state, enterBooking_bookings, withoutClashed_bookings]
  exact insertBy_perm _ _ _

/-- The clashed booking's pin is released and the alternate's is made (R30). -/
theorem bookAlternate_entries : (bookAlternate w r b g p n).state.guide.entries
    = repinned (· + 1) (.guideSlot g.slot) (repinned (· - 1) b.key w.state.guide.entries) := by
  have hreleased : (withoutClashed w.state b).guide.entries = repinned (· - 1) b.key w.state.guide.entries := by
    rw [withoutClashed, edgeEvent_guide, pinDown_entries]; rfl
  rw [← hreleased]
  exact pinUp_entries (withoutClashed w.state b) (.guideSlot g.slot)

theorem bookAlternate_entry {x : GuideEntry} (hx : x ∈ (bookAlternate w r b g p n).state.guide.entries) :
    ∃ y ∈ w.state.guide.entries, y.slot = x.slot ∧ y.settled = x.settled
      ∧ x.pins = y.pins - (if b.key = .guideSlot y.slot then 1 else 0) + (if y.slot = g.slot then 1 else 0) := by
  rw [bookAlternate_entries] at hx
  obtain ⟨z, hz, hzslot, hzsettled, hzpins⟩ := mem_repinned hx
  obtain ⟨y, hy, hyslot, hysettled, hypins⟩ := mem_repinned hz
  refine ⟨y, hy, hyslot.trans hzslot, hysettled.trans hzsettled, ?_⟩
  have hslot : OccurrenceKey.guideSlot g.slot = .guideSlot z.slot ↔ y.slot = g.slot := by
    rw [OccurrenceKey.guideSlot.injEq, hyslot, eq_comm]
  rw [hzpins, hypins]
  simp only [hslot]
  split <;> split <;> rfl

theorem bookAlternate_announced (hmask : w.state.alerts.masks.edge.bookingEnd = false)
    (hroom : w.state.outbox.notices.length < 24) : (bookAlternate w r b g p n).state.outbox.notices
      = w.state.outbox.notices ++ [.bookingEnd
        ⟨b.number, b.request, .replaced, .replaced, 0, b.begun, w.state.present, some w.state.newNumber⟩] := by
  have hentered : ∀ (s : State) (c : Booking), (s.enterBooking c).outbox = s.outbox := fun s c => by
    unfold State.enterBooking; cases c.key <;> rfl
  have hunpinned : ((w.state.withBookings (others b.number w.state.plan.bookings)).pinDown b.key).outbox
      = w.state.outbox := by rw [pinDown_eq]; rfl
  have halerts : ((w.state.withBookings (others b.number w.state.plan.bookings)).pinDown b.key).alerts
      = w.state.alerts := by rw [pinDown_eq]; rfl
  rw [bookAlternate_state, hentered, withoutClashed, edgeEvent_outbox_congr hunpinned halerts]
  exact congrArg (fun s : State => s.outbox.notices) (edgeEvent_joins (s := w.state) (n := .bookingEnd _) hmask hroom)

end

/-- Settles O34: a finish step by step, and then the finish a pass makes as it books an alternate airing. -/
theorem finishDoesItsSteps : Obligations.FinishDoesItsSteps := by
  refine ⟨fun e endReason b s => ?finish, fun w r b g p n => ?alternate⟩
  case finish =>
    intro t ends settles live
    have hsettles : settlesEntry e = true ↔ settles := settlesEntry_iff e
    refine ⟨(finishBooking_works e endReason b s).standing, finishBooking_bookings e endReason b s,
      finishBooking_directives e endReason b s, finishBooking_recordings e endReason b s, finishBooking_lines e endReason b s,
      finishBooking_slots e endReason b s, fun n x hkey hx hslot => ?entry, finishBooking_absent, fun r hr => ?request,
      ?announced, ?cancelled, finishOne_eq e⟩
    case entry =>
      rw [← hsettles]
      exact finishBooking_entry e endReason b s hkey hx hslot
    case request =>
      intro goes
      have hgoes : endsRequest r e = true ↔ goes := by
        simp only [goes]
        cases hkind : r.kind with
        | event f => exact endsRequest_event hkind e
        | timed f => exact endsRequest_timed hkind e
        | series f => exact iff_of_false (Bool.eq_false_iff.mp (endsRequest_series hkind e)) id
      exact ⟨fun hstate => finishBooking_dropping hr hstate,
        fun hstate hg => finishBooking_goes hr hstate (hgoes.mpr hg),
        fun hstate hg => finishBooking_stays hr hstate (Bool.eq_false_iff.mpr (mt hgoes.mp hg)),
        finishBooking_unsettled hr⟩
    case announced =>
      rintro o r code rfl - hmask hroom
      exact finishBooking_announced hmask hroom
    case cancelled =>
      rintro rfl
      exact finishBooking_cancelled
  case alternate =>
    intro s t
    have hduring : During s t := bookAlternate_during w r b g p n
    have hperm := bookAlternate_bookings w r b g p n
    exact ⟨hduring.requests, hduring.read State.standing rfl, hduring.read State.run rfl,
      hduring.read (fun x => x.outbox.directives) rfl,
      ⟨_, hperm.mem_iff.mpr (List.mem_cons_self ..), rfl, rfl, rfl, rfl, rfl, rfl, rfl, hperm⟩,
      fun x hx => bookAlternate_entry w r b g p n hx, bookAlternate_announced w r b g p n⟩

end Sys2Proof.Machine

/-! PROOFS. The expiries of a booking as commands of their own: LATE_LIMIT and TAKE_DEADLINE (R116), CONFIRM_TIMER (R123),
PROVISIONAL_END (R123, R126, R127). -/

namespace Sys2Proof.Machine

/-! ### An expiry taken outside a save (R184) -/

theorem abandoning_idle {s : State} (h : s.saving = false) (d : Due) (work : State → State) :
    abandoning d work s = work s :=
  if_neg (Bool.eq_false_iff.mp h)

/-- The command of an expiry that outside a save has `work` as its effect. -/
theorem exec_expiry {c : Instr} {d : Due} {work : State → State} {s : State} (hc : exec c s = .next (expire d s))
    (hwork : takeDue d s = if isDue d s = true then abandoning d work s else s) (hr : s.running = true)
    (hsaving : s.saving = false) (hdue : isDue d s = true) : exec c s = .next (settle (work s)) := by
  rw [hc, expire, if_pos hr, hwork, if_pos hdue, abandoning_idle hsaving]

/-! ### An expiry is held and reached -/

section
variable {n e : Nat} {s : State} {b : Booking}

theorem reached_of_le {x : Option Nat} (hx : x = some e) (hle : e ≤ s.present) : reached s.present x = true := by
  rw [hx]; exact decide_eq_true hle

variable (hb : s.booking? n = some b)
include hb

theorem isDue_lateLimit (hstate : b.state = some .clashed ∨ b.state = some .late)
    (hreached : reached s.present b.lateExpiry = true) : isDue (.lateLimit n) s = true := by
  simp only [isDue, hb, hreached, Bool.and_true, Bool.or_eq_true, beq_iff_eq]
  exact hstate

theorem isDue_takeDeadline (hstate : b.state = some .due) (hreached : reached s.present b.takeExpiry = true) :
    isDue (.takeDeadline n) s = true := by
  simp only [isDue, hb, hreached, Bool.and_true, beq_iff_eq]
  exact hstate

theorem isDue_confirmTimer (hstate : b.state = some .starting) (hreached : reached s.present b.confirmExpiry = true) :
    isDue (.confirmTimer n) s = true := by
  simp only [isDue, hb, hreached, Bool.and_true, beq_iff_eq]
  exact hstate

theorem isDue_provisionalEnd (hstate : b.state = some .starting ∨ b.state = some .recording)
    (hreached : reached s.present b.provExpiry = true) : isDue (.provisionalEnd n) s = true := by
  simp only [isDue, hb, hreached, Bool.and_true, Bool.or_eq_true, beq_iff_eq]
  exact hstate

/-! ### Their work on a booking (R116, R123) -/

theorem limitWork_of_ending {en : Ending} (h : limitEnding s b = some en) :
    limitWork n s = finishOne en none b s := by
  unfold limitWork; rw [hb]; simp only [h]

theorem confirmWork_of_booking : confirmWork n s = failUnconfirmed b s := by
  unfold confirmWork; rw [hb]

theorem provEndWork_starting (h : b.state = some .starting) : provEndWork n s = failUnconfirmed b s := by
  unfold provEndWork; rw [hb]; simp only [h]

theorem provEndWork_recording (h : b.state = some .recording) : provEndWork n s = endOrExtend b s := by
  unfold provEndWork; rw [hb]; simp only [h]

end

section
variable {s : State} {b : Booking}

theorem limitEnding_clashed (h : b.state = some .clashed) :
    limitEnding s b = some (.outcome .missed .clash 0) := by
  rw [limitEnding, h]

theorem limitEnding_late (h : b.state = some .late) :
    limitEnding s b = some (.outcome .missed (lateReason s) 0) := by
  rw [limitEnding, h]

theorem limitEnding_due (h : b.state = some .due) :
    limitEnding s b = some (.outcome .missed .notTaken 0) := by
  rw [limitEnding, h]

end

/-- Settles O40: each expiry is held and reached, and its work is the finish its state asks for. -/
theorem deadlinesFinishABooking : Obligations.DeadlinesFinishABooking := by
  refine ⟨fun n e s b hr hsaving hb hle => ?limits, fun n e s b hr hsaving hb hstate hle => ?unconfirmed⟩
  case limits =>
    have late {r : Reason} (he : b.lateExpiry = some e) (hstate : b.state = some .clashed ∨ b.state = some .late)
        (hend : limitEnding s b = some (.outcome .missed r 0)) :
        exec (.lateLimit n) s = .next (settle (finishOne (.outcome .missed r 0) none b s)) := by
      rw [exec_expiry rfl rfl hr hsaving (isDue_lateLimit hb hstate (reached_of_le he hle)), limitWork_of_ending hb hend]
    refine ⟨fun he hclashed => ?_, fun he hlate hawake => ?_, fun he hlate hasleep => ?_, fun he hdue => ?_⟩
    · exact late he (.inl hclashed) (limitEnding_clashed hclashed)
    · exact late he (.inr hlate) ((limitEnding_late hlate).trans (by rw [lateReason, if_pos hawake]))
    · exact late he (.inr hlate) ((limitEnding_late hlate).trans (by rw [lateReason, if_neg hasleep]))
    · show exec (.takeDeadline n) s = _
      rw [exec_expiry rfl rfl hr hsaving (isDue_takeDeadline hb hdue (reached_of_le he hle)),
        limitWork_of_ending hb (limitEnding_due hdue)]
  case unconfirmed =>
    refine ⟨fun he => ?_, fun he => ?_⟩
    · rw [exec_expiry rfl rfl hr hsaving (isDue_confirmTimer hb hstate (reached_of_le he hle)),
        confirmWork_of_booking hb]
      rfl
    · rw [exec_expiry rfl rfl hr hsaving (isDue_provisionalEnd hb (.inl hstate) (reached_of_le he hle)),
        provEndWork_starting hb hstate]
      rfl

/-! ### A RECORDING booking at its provisional end (R126, R127) -/

section
variable {s : State} {b : Booking} {r : Request}

/-- The booking at its provisional end, its ACCURATE flag refreshed from the request (R126). -/
theorem endOrExtend_eq (hreq : s.request? b.request = some r) : endOrExtend b s =
    if extensionDue (s.mapBooking b.number (fun x => { x with accurate := r.accurate })) { b with accurate := r.accurate }
        = true then
      if b.provEnd < capOf s.settings b then
        passIfSet (moveProvEnd b.number (min (b.provEnd + 300) (capOf s.settings b))
          (if b.cut = some .limit then none else b.cut)
          (s.mapBooking b.number (fun x => { x with accurate := r.accurate })))
      else finishRecording { b with accurate := r.accurate, cut := some .limit }
        (s.mapBooking b.number (fun x => { x with accurate := r.accurate }))
    else finishRecording { b with accurate := r.accurate }
      (s.mapBooking b.number (fun x => { x with accurate := r.accurate })) := by
  unfold endOrExtend; rw [hreq]; rfl

theorem isAccurate_iff : isAccurate s b = true ↔
    b.accurate = true ∧ ∃ g, s.entryOf b = some g ∧ g.withdrawn = false := by
  unfold isAccurate
  cases s.entryOf b <;> simp

theorem stillWanted_iff : stillWanted s b = true ↔
    ∃ g, s.entryOf b = some g ∧ (g.status = .running ∨ g.status = .paused ∨ g.hasRun = false) := by
  unfold stillWanted
  cases s.entryOf b <;> simp [or_assoc]

/-- The four tests of R127. -/
theorem extensionDue_iff : extensionDue s b = true ↔ b.accurate = true ∧ b.cut ≠ some .yield ∧ b.winEnd ≤ b.provEnd
    ∧ ∃ g, s.entryOf b = some g ∧ g.withdrawn = false
      ∧ (g.status = .running ∨ g.status = .paused ∨ g.hasRun = false) := by
  simp only [extensionDue, Bool.and_eq_true, isAccurate_iff, stillWanted_iff, bne_iff_ne, decide_eq_true_eq]
  cases s.entryOf b with
  | none => simp
  | some g =>
    simp only [Option.some.injEq, exists_eq_left']
    tauto

/-- A RECORDING booking finishes with the outcome and reason its cut and its times give. -/
theorem finishRecording_eq {o : BookingOutcome} {why : Reason} (h : endOutcome b = (o, why)) :
    finishRecording b s = finishOne (.outcome o why 0) (some why) b s := by
  rw [finishRecording, h]

end

/-- Settles O41: the four tests of R127 decide between the extension and the finish, the cap and the cut between the ways to
finish. -/
theorem provisionalEndExtendsOrFinishes : Obligations.ProvisionalEndExtendsOrFinishes := by
  intro n e s b r hr hsaving hb hrec he hle hreq b' s' onAir longer finish
  obtain ⟨-, rfl⟩ := booking?_spec hb
  have hexec : exec (.provisionalEnd b.number) s = .next (settle (endOrExtend b s)) := by
    rw [exec_expiry rfl rfl hr hsaving (isDue_provisionalEnd hb (.inr hrec) (reached_of_le he hle)),
      provEndWork_recording hb hrec]
  rw [endOrExtend_eq hreq] at hexec
  have hlonger : extensionDue s' b' = true ↔ longer := extensionDue_iff
  have ends (hnot : ¬ longer) {o : BookingOutcome} {why : Reason} (hout : endOutcome b' = (o, why)) : finish b' o why := by
    rw [if_neg (mt hlonger.mp hnot), finishRecording_eq hout] at hexec
    exact hexec
  refine ⟨fun hl hcap => ?_, fun hl hcap => ?_, fun hnot hcut => ?_, fun hnot hcut => ?_, fun hnot hcut t hbegun => ?_⟩
  · rw [if_pos (hlonger.mpr hl), if_pos hcap] at hexec
    exact hexec
  · rw [if_pos (hlonger.mpr hl), if_neg (Nat.not_lt.mpr hcap), finishRecording_eq rfl] at hexec
    exact hexec
  · exact ends hnot (by simp only [endOutcome, b', hcut])
  · exact ends hnot (by simp only [endOutcome, b', hcut])
  · exact ends hnot (by simp only [endOutcome, b', hcut, hbegun])

end Sys2Proof.Machine

/-! PROOFS. The window start of a booking (R113): the booking ending in its way, the late limit past, becoming DUE (R26, R114)
and becoming LATE. -/

namespace Sys2Proof.Machine

/-! ### Nothing to be taken at once -/

section
variable {s : State}

theorem recomputeWake_awake (h : s.host.state = .awake) : recomputeWake s = s := by
  rw [recomputeWake, h]; rfl

theorem atOnce_ahead {d : Due} {t : Nat} (h : s.present < t) : s.atOnce d t = s := if_neg (Nat.not_le.mpr h)

end

section
variable {n : Nat} {s : State} {b : Booking}

/-! ### A window start as a command of its own -/

theorem isDue_windowStart (hb : s.booking? n = some b) (hstate : b.state = some .planned)
    (hreached : reached s.present b.windowExpiry = true) : isDue (.windowStart n) s = true := by
  simp only [isDue, hb, hreached, Bool.and_true, beq_iff_eq]
  exact hstate

theorem windowWork_waits (hb : s.booking? n = some b) {x : Booking} (hx : endingBefore s b = some x) :
    windowWork n s = { provEndWork x.number s with agenda := (provEndWork x.number s).agenda ++ [.windowStart n] } := by
  unfold windowWork; rw [hb]; simp only [hx]

theorem windowWork_opens (hb : s.booking? n = some b) (hx : endingBefore s b = none) :
    windowWork n s = openWindow b s := by
  unfold windowWork; rw [hb]; simp only [hx]

/-! ### The cases of R113 -/

theorem turnedAway_iff : turnedAway s b = true ↔ s.settings.strictSpace = true ∧ b.spaceShort = true := by
  rw [turnedAway, Bool.and_eq_true]

theorem openWindow_past (h : lateLimitOf s.settings b < s.present) :
    openWindow b s = finishOne (pastLimitEnding s b) none b s :=
  if_pos h

/-- Up to its late limit the host decides. -/
theorem openWindow_inTime (h : s.present ≤ lateLimitOf s.settings b) : openWindow b s =
    if s.host.state = .awake ∧ s.run.hold = false then
      if turnedAway s b = true then finishOne (.outcome .skipped .noSpace 0) none b s else becomeDue b s
    else becomeLate b s :=
  if_neg (Nat.not_lt.mpr h)

theorem pastLimitEnding_asleep (h : s.host.state ≠ .awake) :
    pastLimitEnding s b = .outcome .missed .hostAbsent 0 :=
  if_pos h

theorem pastLimitEnding_held (h : s.host.state = .awake) (hhold : s.run.hold = true) :
    pastLimitEnding s b = .outcome .missed .held 0 :=
  (if_neg (not_not.mpr h)).trans (if_pos hhold)

theorem pastLimitEnding_free (h : s.host.state = .awake) (hhold : s.run.hold = false) : pastLimitEnding s b =
    if turnedAway s b = true then .outcome .skipped .noSpace 0 else .outcome .missed .notTaken 0 :=
  (if_neg (not_not.mpr h)).trans (if_neg (Bool.eq_false_iff.mp hhold))

/-! ### Becoming DUE and becoming LATE (R26, R113, R114) -/

/-- Outside a pass a host that is AWAKE has no wake expiry, so a take deadline ahead leaves nothing to be taken at once. -/
theorem becomeDue_awake {p : Place} (hp : b.place = some p) (hawake : s.host.state = .awake)
    (hahead : s.present < takeDeadlineOf s.settings b s.present) :
    let u := displaceViewer b p (s.mapBooking b.number (dueBooking s b))
    becomeDue b s = u.queueDirective (.beginRec (beginFields u b p)) := by
  obtain ⟨u, hu, hdue⟩ := becomeDue_eq hp s
  have hworks : Works s u := by
    rw [hu]; exact (mapBooking_works s _ (dueBooking s b) fun _ => rfl).trans (displaceViewer_works b p _)
  have hpresent : (u.queueDirective (.beginRec (beginFields u b p))).present = s.present := hworks.present
  have hhost : (u.queueDirective (.beginRec (beginFields u b p))).host = s.host := hworks.awake hawake
  rw [hdue, atOnce_ahead (hpresent.trans_lt hahead), recomputeWake_awake (hhost ▸ hawake), hu]

theorem holdConflicts_iff {p : Place} {h : ViewerHold} : holdConflicts s b p h = true ↔
    h.multiplex ≠ s.multiplexOf b.channel ∨ h.slot = p.slot := by
  rw [holdConflicts, Bool.or_eq_true, bne_iff_ne, beq_iff_eq, ne_comm, eq_comm (a := p.slot)]

theorem displaceViewer_none {p : Place}
    (h : ∀ x, (s.tuner p.tuner).hold = some x → holdConflicts s b p x = false) : displaceViewer b p s = s := by
  unfold displaceViewer
  split
  · rename_i x hx; rw [h x hx]; rfl
  · rfl

theorem displaceViewer_some {p : Place} {x : ViewerHold} (hx : (s.tuner p.tuner).hold = some x)
    (h : holdConflicts s b p x = true) : displaceViewer b p s =
      (s.withTuner p.tuner { s.tuner p.tuner with hold := none }).queueYield p.tuner b.number := by
  rw [displaceViewer, hx]
  exact if_pos h

/-- A YIELD queued with a directive right behind it (R26, R114). -/
theorem queueYield_queueDirective (s : State) (t : TunerId) (n : Nat) (x : Directive) :
    (s.queueYield t n).queueDirective x = s.withDirectives
      (s.outbox.directives.filter (fun y => !y.isYieldFor t) ++ [.yieldTuner t n, x]) :=
  congrArg s.withDirectives (List.append_assoc _ [.yieldTuner t n] [x])

theorem displaceViewer_agenda (p : Place) : (displaceViewer b p s).agenda = s.agenda := by
  unfold displaceViewer
  split
  · split
    · exact withTuner_agenda s _ _
    · rfl
  · rfl

/-- A booking made LATE (R113 case 3). -/
def lateBooking (s : State) (b c : Booking) : Booking :=
  { c with
    state := some .late, dueAt := none, windowExpiry := none, takeExpiry := none
    lateExpiry := some (lateLimitOf s.settings b) }

/-- With the late limit ahead, the wake expiry alone may be taken at once. -/
theorem becomeLate_ahead (h : s.present < lateLimitOf s.settings b) :
    becomeLate b s = recomputeWake (s.mapBooking b.number (lateBooking s b)) := by
  have hpresent : (recomputeWake (s.mapBooking b.number (lateBooking s b))).present = s.present :=
    (recomputeWake_works _).present
  exact atOnce_ahead (hpresent.trans_lt h)

end

/-- Settles O39: the window start waits for a booking that is ending, or opens the window by the cases of R113. -/
theorem windowStartTakesItsCase : Obligations.WindowStartTakesItsCase := by
  intro n e s b p hr hagenda hsaving hb hplanned hp he hle
  obtain ⟨-, rfl⟩ := booking?_spec hb
  have hexec : exec (.windowStart b.number) s = .next (settle (windowWork b.number s)) :=
    exec_expiry rfl rfl hr hsaving (isDue_windowStart hb hplanned (reached_of_le he hle))
  refine ⟨fun x hx => by rw [hexec, windowWork_waits hb hx], ?opens⟩
  intro hx strict finish
  rw [windowWork_opens hb hx] at hexec
  have hstrict : turnedAway s b = true ↔ strict := turnedAway_iff
  refine ⟨fun hpast => ?past, fun hin hawake hhold => ?awake, fun hahead hnot => ?late, fun hin => ?both⟩
  case past =>
    rw [openWindow_past hpast] at hexec
    refine ⟨fun hasleep => ?_, fun hawake hhold => ?_, fun hawake hhold hs => ?_, fun hawake hhold hs => ?_⟩
    · rwa [pastLimitEnding_asleep hasleep] at hexec
    · rwa [pastLimitEnding_held hawake hhold] at hexec
    · rwa [pastLimitEnding_free hawake hhold, if_pos (hstrict.mpr hs)] at hexec
    · rwa [pastLimitEnding_free hawake hhold, if_neg (mt hstrict.mp hs)] at hexec
  case awake =>
    rw [openWindow_inTime hin, if_pos ⟨hawake, hhold⟩] at hexec
    refine ⟨fun hs => by rwa [if_pos (hstrict.mpr hs)] at hexec, ?_⟩
    intro hs hahead due begin
    have hsettled : (becomeDue b s).agenda = [] := by
      rw [becomeDue_awake hp hawake hahead]
      exact (displaceViewer_agenda p).trans hagenda
    rw [if_neg (mt hstrict.mp hs), settle_of_agenda hsettled, becomeDue_awake hp hawake hahead] at hexec
    refine ⟨fun hclear => ?_, fun h hh hconflict => ?_⟩
    · have hstays : displaceViewer b p (s.mapBooking b.number (dueBooking s b)) = s.mapBooking b.number (dueBooking s b) :=
        displaceViewer_none fun x hx => Bool.eq_false_iff.mpr fun hc => by
          obtain ⟨hmux, hslot⟩ := hclear x hx
          exact (holdConflicts_iff.mp hc).elim (fun k => k hmux) hslot
      rwa [hstays] at hexec
    · have hgone := displaceViewer_some (s := s.mapBooking b.number (dueBooking s b)) hh (holdConflicts_iff.mpr hconflict)
      rw [hgone, queueYield_queueDirective] at hexec
      obtain ⟨tuner, slot⟩ := p
      cases tuner <;> exact hexec
  case late =>
    rw [openWindow_inTime hahead.le, if_neg hnot, becomeLate_ahead hahead] at hexec
    exact hexec
  case both =>
    rw [openWindow_inTime hin] at hexec
    refine ⟨fun hawake hhold hs => ?_, fun hnot => ?_⟩
    · rwa [if_pos ⟨hawake, hhold⟩, if_neg (mt hstrict.mp hs)] at hexec
    · rwa [if_neg hnot] at hexec

end Sys2Proof.Machine

/-! PROOFS. BOOK_CANCEL and BOOK_STOP (R124, R125), and CONFIRM (R122). -/

namespace Sys2Proof.Machine

/-! ### BOOK_CANCEL and BOOK_STOP (R124, R125) -/

section
variable {w : Word16} {s : State} {b : Booking}

theorem bookCancelWork_range (h : w = 0) : bookCancelWork w s = refuse s .range := if_pos h

theorem bookCancelWork_unknown (h : w ≠ 0) (hb : s.booking? w.toNat = none) :
    bookCancelWork w s = refuse s .unknown := by
  rw [bookCancelWork, if_neg h, hb]

theorem bookCancelWork_found (h : w ≠ 0) (hb : s.booking? w.toNat = some b) : bookCancelWork w s =
    if b.state = some .starting ∨ b.state = some .recording then refuse s .state
    else accept (settle (finishOne .cancel none b s)) .bookCancel := by
  rw [bookCancelWork, if_neg h, hb]

theorem bookStopWork_range (h : w = 0) : bookStopWork w s = refuse s .range := if_pos h

theorem bookStopWork_unknown (h : w ≠ 0) (hb : s.booking? w.toNat = none) :
    bookStopWork w s = refuse s .unknown := by
  rw [bookStopWork, if_neg h, hb]

theorem bookStopWork_found (h : w ≠ 0) (hb : s.booking? w.toNat = some b) : bookStopWork w s =
    if b.state = some .recording then accept (settle (finishOne (.outcome .truncated .hostStop 0) none b s)) .bookStop
    else refuse s .state := by
  rw [bookStopWork, if_neg h, hb]

end

/-- Settles O33: the owners' tests in their order, and then the booking's state. -/
theorem cancelAndStopFinishABooking : Obligations.CancelAndStopFinishABooking := by
  refine fun d w s hr hk => ⟨?cancel, ?stop⟩
  case cancel =>
    intro c u
    refine ⟨fun h => exec_refused rfl hr hk (bookCancelWork_range h),
      fun h hb => exec_refused rfl hr hk (bookCancelWork_unknown h hb), fun b h hb => ⟨fun hon => ?_, fun hs hrec => ?_⟩⟩
    · exact exec_refused rfl hr hk ((bookCancelWork_found h hb).trans (if_pos hon))
    · exact exec_accepted rfl hr hk ((bookCancelWork_found h hb).trans (if_neg (not_or.mpr ⟨hs, hrec⟩)))
  case stop =>
    intro c u
    refine ⟨fun h => exec_refused rfl hr hk (bookStopWork_range h),
      fun h hb => exec_refused rfl hr hk (bookStopWork_unknown h hb), fun b h hb => ⟨fun hnot => ?_, fun hrec => ?_⟩⟩
    · exact exec_refused rfl hr hk ((bookStopWork_found h hb).trans (if_neg hnot))
    · exact exec_accepted rfl hr hk ((bookStopWork_found h hb).trans (if_pos hrec))

/-! ### CONFIRM's owner (R122) -/

section
variable {a : ConfirmArgs} {s : State} {b : Booking}

theorem confirmMessage_range (h : a.booking = 0) : confirmMessage a s = refuse s .range := if_pos h

theorem confirmMessage_notStarting (h : a.booking ≠ 0)
    (hb : ∀ b, s.booking? a.booking.toNat = some b → b.state ≠ some .starting) :
    confirmMessage a s = refuse s .state := by
  rw [confirmMessage, if_neg h]
  cases hfound : s.booking? a.booking.toNat with
  | none => rfl
  | some b => exact if_neg (hb b hfound)

theorem confirmMessage_starting (h : a.booking ≠ 0) (hb : s.booking? a.booking.toNat = some b)
    (hstate : b.state = some .starting) : confirmMessage a s =
      if a.code = 0 then accept (confirmed b s) (.confirm true)
      else accept (settle (finishOne (.outcome .failed .hostFail a.code.toNat) none b s)) (.confirm false) := by
  rw [confirmMessage, if_neg h, hb]
  exact if_pos hstate

end

/-! ### A confirmed booking -/

/-- A booking found after a change in place is the one found before, changed where it is the one meant. -/
theorem booking?_mapBooking (s : State) (n m : Nat) {f : Booking → Booking} (hf : ∀ b, (f b).number = b.number) :
    (s.mapBooking n f).booking? m = (s.booking? m).map (fun b => if b.number == n then f b else b) := by
  have hnumber : ((fun b : Booking => b.number == m) ∘ fun b => if b.number == n then f b else b)
      = fun b => b.number == m := by
    funext b
    rw [Function.comp_apply]
    split
    · rw [hf]
    · rfl
  exact List.find?_map.trans (by rw [hnumber]; rfl)

/-- A recording more: the first moves the panel lines (R111, R148). -/
theorem setRecordings_succ (s : State) : s.setRecordings (s.run.recordings + 1) = { s with
    run := { s.run with recordings := s.run.recordings + 1 }
    panel := { s.panel with lines :=
      if s.run.recordings = 0 ∧ s.panel.staged.recFirst.enable = true then s.panel.staged.recFirst.pattern
      else s.panel.lines } } := by
  unfold State.setRecordings
  simp only [Nat.add_one_ne_zero, and_false, if_false]
  by_cases hzero : s.run.recordings = 0
  · rw [if_pos ⟨hzero, by omega⟩]
    by_cases hon : s.panel.staged.recFirst.enable = true
    · rw [if_pos ⟨hzero, hon⟩]; exact if_pos hon
    · rw [if_neg fun h => hon h.2]; exact if_neg hon
  · rw [if_neg fun h => hzero h.1, if_neg fun h => hzero h.1]

/-- A STARTING booking made RECORDING, with the count and the panel lines that follow (R122 steps 1 to 3). -/
def recordingStarted (b : Booking) (s : State) : State :=
  (s.mapBooking b.number (startRecording s)).setRecordings (s.run.recordings + 1)

theorem recordingStarted_eq (b : Booking) (s : State) : recordingStarted b s =
    { s with
      plan := { s.plan with
        bookings := s.plan.bookings.map (fun x => if x.number == b.number then startRecording s x else x) }
      run := { s.run with recordings := s.run.recordings + 1 }
      panel := { s.panel with lines :=
        if s.run.recordings = 0 ∧ s.panel.staged.recFirst.enable = true then s.panel.staged.recFirst.pattern
        else s.panel.lines } } :=
  setRecordings_succ (s.mapBooking b.number (startRecording s))

section
variable {s : State} {b : Booking}

theorem recordingStarted_booking? (hb : s.booking? b.number = some b) :
    (recordingStarted b s).booking? b.number = some (startRecording s b) := by
  have hfound := booking?_mapBooking s b.number b.number (f := startRecording s) fun _ => rfl
  rw [hb, Option.map_some, if_pos (beq_self_eq_true _)] at hfound
  rw [recordingStarted_eq]
  exact hfound

theorem earlyEndAtConfirm_of_booking {n : Nat} {x : Booking} (h : s.booking? n = some x) : earlyEndAtConfirm n s =
    if earlyEndApplies s x = true then settle (earlyEnd n s) else s := by
  unfold earlyEndAtConfirm; rw [h]

/-- With the provisional end ahead, CONFIRM starts the recording and looks at the early end. -/
theorem confirmed_ahead (hagenda : s.agenda = []) (hb : s.booking? b.number = some b)
    (hahead : ∀ x, b.provExpiry = some x → s.present < x) : confirmed b s =
      if earlyEndApplies (recordingStarted b s) (startRecording s b) = true then
        settle (earlyEnd b.number (recordingStarted b s))
      else recordingStarted b s := by
  have hquiet : (recordingStarted b s).agenda = [] := by rw [recordingStarted_eq]; exact hagenda
  have hpresent : (recordingStarted b s).present = s.present := by rw [recordingStarted_eq]
  have hconfirmed : confirmed b s = earlyEndAtConfirm b.number (settle (recordingStarted b s)) := by
    unfold confirmed
    cases hx : b.provExpiry with
    | none => rfl
    | some x =>
      exact congrArg (fun t => earlyEndAtConfirm b.number (settle t)) (atOnce_ahead (hpresent.trans_lt (hahead x hx)))
  rw [hconfirmed, settle_of_agenda hquiet, earlyEndAtConfirm_of_booking (recordingStarted_booking? hb)]

end

theorem arrive_present (i : Instr) (d : Dest) (s : State) : (arrive i d s).present = s.present :=
  (arrive_present_clock_settings i d s).1

/-- Settles O38: the owner's tests in their order, and for a STARTING booking the code. -/
theorem confirmStartsTheRecording : Obligations.ConfirmStartsTheRecording := by
  rintro d a s ⟨hr, hk, hagenda⟩ c u
  have hpresent : u.present = s.present := arrive_present c d s
  refine ⟨fun h => exec_refused rfl hr hk (confirmMessage_range h),
    fun h hb => exec_refused rfl hr hk (confirmMessage_notStarting h hb), fun b h hb hstate => ?_⟩
  obtain ⟨-, hn⟩ := booking?_spec hb
  have hwork := confirmMessage_starting h hb hstate
  have accepts (hcode : a.code = 0) : exec c s = .next ((confirmed b u).answering d (.accepted (.confirm true))) :=
    exec_accepted rfl hr hk (hwork.trans (if_pos hcode))
  refine ⟨fun hcode => exec_accepted rfl hr hk (hwork.trans (if_neg hcode)), ?ahead,
    fun hcode => ⟨_, accepts hcode, (confirmed_works b u).standing⟩⟩
  case ahead =>
    intro hcode hahead started t
    have hstarted : recordingStarted b u = t := by
      rw [recordingStarted_eq]; simp only [t, started, ← hpresent]; rfl
    have hconfirmed := confirmed_ahead (arrive_agenda c d hagenda) (hn ▸ hb) (hpresent ▸ hahead)
    have hbooking : startRecording u b = started b := by simp only [started, ← hpresent]; rfl
    rw [hstarted, hbooking] at hconfirmed
    refine ⟨fun hearly => ?_, fun hearly => ?_⟩
    · rw [accepts hcode, hconfirmed, if_neg (Bool.eq_false_iff.mp hearly)]
    · rw [accepts hcode, hconfirmed, if_pos hearly]

end Sys2Proof.Machine

/-! PROOFS. HOLD (R120), the LATE bookings it and GREET let go (R115), and GREET as a host restart (R134). -/

namespace Sys2Proof.Machine

theorem arrive_hold (i : Instr) (d : Dest) (s : State) : (arrive i d s).run.hold = s.run.hold := by
  have hworks : (arrive i d s).run.hold = (arrived i d s).run.hold :=
    congrArg Standing.hold (arrive_works i d s).standing
  rw [hworks, arrived]
  split <;> rfl

/-! ### HOLD's owner (R120) -/

section
variable {b : Byte} {s : State}

theorem holdWork_range (h : 1 < b.toNat) : holdWork b s = refuse s .range := by
  rw [holdWork, flagOf_eq_none h]

theorem holdWork_same {v : Bool} (h : flagOf b = some v) (hv : s.run.hold = v) :
    holdWork b s = accept s (.hold v 0) := by
  rw [holdWork, h]
  exact if_pos hv

theorem holdWork_on (h : s.run.hold = false) :
    holdWork 1 s = accept (holdOn s) (.hold true (s.inState .due).length) :=
  if_neg fun hon : s.run.hold = true => Bool.false_ne_true (h.symm.trans hon)

theorem holdWork_off (h : s.run.hold = true) :
    holdWork 0 s = accept (holdOff s).state (.hold false (holdOff s).madeDue) :=
  if_neg fun hoff : s.run.hold = false => Bool.false_ne_true (hoff.symm.trans h)

end

/-- The state with HOLD written and nothing else done. -/
def withHoldFlag (v : Bool) (s : State) : State := { s with run := { s.run with hold := v } }

theorem withHoldFlag_standing (v : Bool) {s t : State} (h : Works (withHoldFlag v s) t) :
    t.standing = { s.standing with hold := v } := h.standing

/-! ### HOLD turned on: the DUE bookings become LATE (R120) -/

/-- A DUE booking made LATE again. -/
def madeLate (set : Settings) (c : Booking) : Booking :=
  { c with state := some .late, dueAt := none, takeExpiry := none, lateExpiry := some (lateLimitOf set c) }

/-- The bookings of some numbers held back, their BEGINs withdrawn. -/
def heldAll (ns : List Nat) (s : State) : State :=
  { s with
    plan := { s.plan with bookings := s.plan.bookings.map (fun x => if x.number ∈ ns then madeLate s.settings x else x) }
    outbox := { s.outbox with directives := s.outbox.directives.filter (fun y => !ns.any y.isBeginFor) } }

theorem heldAll_nil (s : State) : heldAll [] s = s := by
  simp [heldAll]

theorem heldAll_cons (n : Nat) (ns : List Nat) (s : State) : heldAll ns (holdBack n s) = heldAll (n :: ns) s := by
  have hbookings : (s.plan.bookings.map (fun x => if x.number == n then madeLate s.settings x else x)).map
        (fun x => if x.number ∈ ns then madeLate s.settings x else x)
      = s.plan.bookings.map (fun x => if x.number ∈ n :: ns then madeLate s.settings x else x) := by
    rw [List.map_map]
    refine List.map_congr_left fun x _ => ?_
    rw [Function.comp_apply]
    by_cases hn : x.number = n
    · rw [if_pos (beq_iff_eq.mpr hn), if_pos (List.mem_cons.mpr (.inl hn))]
      exact ite_self _
    · simp only [beq_iff_eq, hn, if_false, List.mem_cons, false_or]
  have hdirectives : (s.outbox.directives.filter (fun y => !y.isBeginFor n)).filter (fun y => !ns.any y.isBeginFor)
      = s.outbox.directives.filter (fun y => !(n :: ns).any y.isBeginFor) := by
    rw [List.filter_filter]
    refine List.filter_congr fun y _ => ?_
    rw [List.any_cons, Bool.not_or, Bool.and_comm]
  show { s with
    plan := { s.plan with bookings := _ }
    outbox := { s.outbox with directives := _ } } = heldAll (n :: ns) s
  rw [heldAll, ← hbookings, ← hdirectives]
  rfl

theorem foldl_holdBack (ns : List Nat) (s : State) : ns.foldl (fun u n => holdBack n u) s = heldAll ns s := by
  induction ns generalizing s with
  | nil => exact (heldAll_nil s).symm
  | cons n ns ih => rw [List.foldl_cons, ih, heldAll_cons]

theorem heldAll_booking? (ns : List Nat) (s : State) (n : Nat) : (heldAll ns s).booking? n
    = (s.booking? n).map (fun x => if x.number ∈ ns then madeLate s.settings x else x) := by
  have hnumber : ((fun b : Booking => b.number == n) ∘ fun x => if x.number ∈ ns then madeLate s.settings x else x)
      = fun b => b.number == n := by
    funext x
    rw [Function.comp_apply]
    split <;> rfl
  exact List.find?_map.trans (by rw [hnumber]; rfl)

/-- The numbers of the DUE bookings. -/
def dueNumbers (s : State) : List Nat := (s.inState .due).map Booking.number

theorem mem_dueNumbers {s : State} {n : Nat} :
    n ∈ dueNumbers s ↔ ∃ x ∈ s.plan.bookings, x.state = some .due ∧ x.number = n := by
  simp [dueNumbers, State.inState, and_assoc]

theorem mem_dueNumbers_iff {s : State} (hn : (s.plan.bookings.map Booking.number).Nodup) {x : Booking}
    (hx : x ∈ s.plan.bookings) : x.number ∈ dueNumbers s ↔ x.state = some .due := by
  refine ⟨fun h => ?_, fun h => mem_dueNumbers.mpr ⟨x, hx, h, rfl⟩⟩
  obtain ⟨y, hy, hdue, hnumber⟩ := mem_dueNumbers.mp h
  exact booking_eq_of_number hn hy hx hnumber ▸ hdue

theorem limitReached_madeLate {s : State} (set : Settings) {x : Booking} (h : s.present < lateLimitOf set x) :
    limitReached s (madeLate set x) = false :=
  decide_eq_false (Nat.not_le.mpr h)

/-- HOLD on holds the DUE bookings back and finishes those whose late limit is already reached. -/
theorem holdOn_eq (s : State) : let t := heldAll (dueNumbers s) (withHoldFlag true s)
    holdOn s = settle (finishGroup reachedEnding ((dueNumbers s).filter fun n => (t.booking? n).any (limitReached t)) t) := by
  intro t
  have ht : (dueNumbers s).foldl (fun u n => holdBack n u) (withHoldFlag true s) = t := foldl_holdBack _ _
  rw [← ht]
  have hreached (u : State) (n : Nat) : (match u.booking? n with
      | some b => limitReached u b
      | none => false) = (u.booking? n).any (limitReached u) := by
    cases u.booking? n <;> rfl
  exact congrArg (fun past => settle (finishGroup reachedEnding ((dueNumbers s).filter past) _))
    (funext fun n => hreached _ n)

/-- With every late limit ahead, HOLD on holds the DUE bookings back and does nothing more. -/
theorem holdOn_ahead {s : State} (hagenda : s.agenda = []) (hn : (s.plan.bookings.map Booking.number).Nodup)
    (hahead : ∀ x ∈ s.plan.bookings, x.state = some .due → s.present < lateLimitOf s.settings x) :
    holdOn s = heldAll (dueNumbers s) (withHoldFlag true s) := by
  have hnone : (dueNumbers s).filter (fun n => ((heldAll (dueNumbers s) (withHoldFlag true s)).booking? n).any
      (limitReached (heldAll (dueNumbers s) (withHoldFlag true s)))) = [] := by
    refine List.filter_eq_nil_iff.mpr fun n hmem => Bool.eq_false_iff.mp ?_
    rw [heldAll_booking?]
    cases hfound : (withHoldFlag true s).booking? n with
    | none => rfl
    | some x =>
      obtain ⟨hx, rfl⟩ := booking?_spec (s := s) hfound
      rw [Option.map_some, if_pos hmem]
      exact limitReached_madeLate s.settings (hahead x hx ((mem_dueNumbers_iff hn hx).mp hmem))
  rw [holdOn_eq, hnone]
  exact settle_of_agenda hagenda

/-- What is held back, in the words of the bookings' states. -/
theorem heldAll_dueNumbers {s : State} (hn : (s.plan.bookings.map Booking.number).Nodup) :
    heldAll (dueNumbers s) (withHoldFlag true s) = { s with
      run := { s.run with hold := true }
      plan := { s.plan with bookings := s.plan.bookings.map (fun x =>
        if x.state = some .due then madeLate s.settings x else x) }
      outbox := { s.outbox with directives := s.outbox.directives.filter (fun y =>
        !(s.plan.bookings.any (fun x => x.state == some .due && y.isBeginFor x.number))) } } := by
  have hbookings : s.plan.bookings.map (fun x => if x.number ∈ dueNumbers s then madeLate s.settings x else x)
      = s.plan.bookings.map (fun x => if x.state = some .due then madeLate s.settings x else x) :=
    List.map_congr_left fun x hx => if_congr (mem_dueNumbers_iff hn hx) rfl rfl
  have hbegins : (fun y : Directive => !(dueNumbers s).any y.isBeginFor)
      = fun y => !(s.plan.bookings.any (fun x => x.state == some .due && y.isBeginFor x.number)) := by
    funext y
    rw [dueNumbers, State.inState, List.any_map, List.any_filter]; rfl
  rw [← hbookings, ← hbegins]
  rfl

/-! ### HOLD turned off (R120) -/

/-- What the LATE bookings come to when HOLD is turned off, with one step 8 for those turned away. -/
def letGo (w : LateWork) : State := settle (if w.skipped = 0 then w.state else afterFinish w.series w.state)

theorem holdOff_eq (s : State) : holdOff s =
    { takeLates (withHoldFlag false s) with state := letGo (takeLates (withHoldFlag false s)) } := rfl

theorem letGo_works (w : LateWork) : Works w.state (letGo w) := by
  refine Works.trans ?_ (settle_works _)
  split
  · exact .refl _
  · exact afterFinish_works _ _

/-! ### The LATE bookings (R115) -/

theorem takeLates_held {s : State} (h : s.host.state ≠ .awake ∨ s.run.hold = true) : takeLates s = ⟨s, 0, 0, false⟩ :=
  if_neg fun ⟨hawake, hoff⟩ => h.elim (fun k => k hawake) fun hon => Bool.false_ne_true (hoff.symm.trans hon)

theorem takeLates_free {s : State} (hawake : s.host.state = .awake) (hoff : s.run.hold = false) :
    takeLates s = ((s.inState .late).map Booking.number).foldl takeLate ⟨s, 0, 0, false⟩ :=
  if_pos ⟨hawake, hoff⟩

section
variable {w : LateWork} {n : Nat} {b : Booking} (hb : (clearWay 6 n w.state).booking? n = some b)
include hb

theorem takeLate_notLate (h : b.state ≠ some .late) : takeLate w n = { w with state := clearWay 6 n w.state } := by
  unfold takeLate
  simp only [hb]
  exact if_neg h

theorem takeLate_late (h : b.state = some .late) : takeLate w n =
    if turnedAway (clearWay 6 n w.state) b = true then
      ⟨finishBooking (.outcome .skipped .noSpace 0) none b (clearWay 6 n w.state), w.madeDue, w.skipped + 1,
        w.series || (clearWay 6 n w.state).isSeriesBooking b⟩
    else ⟨becomeDue b (clearWay 6 n w.state), w.madeDue + 1, w.skipped, w.series⟩ := by
  unfold takeLate
  simp only [hb]
  exact if_pos h

end

theorem clearWay_clear {s : State} {n : Nat} {b : Booking} (hb : s.booking? n = some b) (h : endingBefore s b = none)
    (k : Nat) : clearWay k n s = s := by
  cases k with
  | zero => rfl
  | succ k => unfold clearWay; rw [hb]; simp only [h]

theorem clearWay_blocked {s : State} {n : Nat} {b x : Booking} (hb : s.booking? n = some b)
    (h : endingBefore s b = some x) (k : Nat) :
    clearWay (k + 1) n s = clearWay k n (settle (takeDue (.provisionalEnd x.number) s)) := by
  rw [clearWay, hb]; simp only [h]

/-! ### GREET (R134, R139) -/

theorem restartBookings_eq (s : State) : restartBookings s = s.plan.bookings.filter (fun b => s.host.state == .awake
    && (b.state == some .starting || b.state == some .recording)) := by
  unfold restartBookings
  split
  · rename_i h; rw [h]; rfl
  · rename_i h; rw [beq_eq_false_iff_ne.mpr h]; exact (List.filter_eq_nil_iff.mpr fun _ _ => Bool.false_ne_true).symm

/-- What a GREET comes to before its step 8: the holds gone, the interrupted bookings finished, the host AWAKE, the LATE
bookings taken. -/
def restarted (s : State) : LateWork :=
  let f := finishEach (.outcome .truncated .hostRestart 0) none (restartBookings s) s.freeHolds
  takeLates { f with host := f.host.greeted }

/-- The one step 8 of a GREET's holds and finishes, and what it makes due at once. -/
def greeted (s : State) : State :=
  settle (if s.tunerA.hold.isSome = true ∨ s.tunerB.hold.isSome = true ∨ restartBookings s ≠ [] ∨ (restarted s).skipped ≠ 0
    then afterFinish ((restartBookings s).any s.isSeriesBooking || (restarted s).series) (restarted s).state
    else (restarted s).state)

theorem greetWork_eq (x : Unit) (s : State) : greetWork x s =
    accept { greeted s with host := { (greeted s).host with cause := .none } } (.greet s.host.state s.host.cause) := by
  have hcause : (s.holdsViewer || !(restartBookings s).isEmpty || (restarted s).skipped != 0) = true
      ↔ s.tunerA.hold.isSome = true ∨ s.tunerB.hold.isSome = true ∨ restartBookings s ≠ [] ∨ (restarted s).skipped ≠ 0 := by
    simp only [State.holdsViewer, Bool.or_eq_true, bne_iff_ne, Bool.not_eq_true', List.isEmpty_eq_false_iff, or_assoc]
  have hclosed : settle (if (s.holdsViewer || !(restartBookings s).isEmpty || (restarted s).skipped != 0) = true
      then afterFinish ((restartBookings s).any s.isSeriesBooking || (restarted s).series) (restarted s).state
      else (restarted s).state) = greeted s := congrArg settle (if_congr hcause rfl rfl)
  rw [← hclosed]
  rfl

/-- Settles O37: HOLD value by value, then the LATE bookings one by one, and GREET. -/
theorem holdMovesDueAndLate : Obligations.HoldMovesDueAndLate := by
  refine ⟨?hold, fun s => ⟨takeLates_held, takeLates_free⟩, ?late,
    fun s n k b hb => ⟨fun h => clearWay_clear hb h k, fun x h => clearWay_blocked hb h k⟩, ?greet,
    fun set b now => ⟨rfl, rfl⟩⟩
  case hold =>
    rintro d b s ⟨hr, hk, hagenda⟩ c u
    have hhold : u.run.hold = s.run.hold := arrive_hold c d s
    have hquiet : u.agenda = [] := arrive_agenda c d hagenda
    obtain ⟨hpresent, -, hsettings⟩ := arrive_present_clock_settings c d s
    refine ⟨fun h => exec_refused rfl hr hk (holdWork_range h), ?stays_off, ?stays_on, ?on_ahead, ?off, ?on⟩
    case stays_off =>
      rintro rfl hoff
      exact exec_accepted rfl hr hk (holdWork_same rfl (hhold.trans hoff))
    case stays_on =>
      rintro rfl hon
      exact exec_accepted rfl hr hk (holdWork_same rfl (hhold.trans hon))
    case on_ahead =>
      rintro rfl hoff hn hahead
      rw [← hpresent, ← hsettings] at hahead
      rw [← hsettings]
      have hwork := holdWork_on (hhold.trans hoff)
      rw [holdOn_ahead hquiet hn hahead, heldAll_dueNumbers hn] at hwork
      exact exec_accepted rfl hr hk hwork
    case off =>
      rintro rfl hon w
      have hwork := holdWork_off (hhold.trans hon)
      refine ⟨exec_accepted rfl hr hk hwork,
        withHoldFlag_standing false ((takeLates_works _).trans (letGo_works _)), fun hasleep => ?_⟩
      have hheld : takeLates (withHoldFlag false u) = ⟨withHoldFlag false u, 0, 0, false⟩ := takeLates_held (.inl hasleep)
      have hstays : letGo ⟨withHoldFlag false u, 0, 0, false⟩ = withHoldFlag false u := settle_of_agenda hquiet
      rw [holdOff_eq, hheld, hstays] at hwork
      exact exec_accepted rfl hr hk hwork
    case on =>
      rintro rfl hoff
      refine ⟨holdOn u, exec_accepted rfl hr hk (holdWork_on (hhold.trans hoff)), withHoldFlag_standing true ?_⟩
      exact ((Works.foldl (fun t n => holdBack_works n t) _ _).trans (finishGroup_works _ _ _)).trans (settle_works _)
  case late =>
    intro w n b v hb
    refine ⟨fun h => takeLate_notLate hb h, fun h hstrict hshort => ?_, fun h hnot => ?_⟩
    · exact (takeLate_late hb h).trans (if_pos (turnedAway_iff.mpr ⟨hstrict, hshort⟩))
    · exact (takeLate_late hb h).trans (if_neg (mt turnedAway_iff.mp hnot))
  case greet =>
    intro d s hr hk c u freed ended f w t
    have hended : restartBookings u = ended := restartBookings_eq u
    have hwork := greetWork_eq () u
    unfold greeted restarted at hwork
    rw [hended] at hwork
    exact exec_accepted rfl hr hk hwork

end Sys2Proof.Machine

/-! PROOFS. The host record through every step (R137, R138): which of the owners' writes touch it. -/

namespace Sys2Proof.Machine

/-! ### Writes that leave the host record alone -/

section
variable (s : State)

theorem sample_host (l : LevelSource) : (s.sample l).host = s.host := by rw [sample_eq]

theorem sampleAll_host : s.sampleAll.host = s.host := by
  simp only [State.sampleAll, sample_host]

theorem setImageState_host (st : ImageState) : (s.setImageState st).host = s.host := by rw [setImageState_eq]

theorem markChanged_host : s.markChanged.host = s.host := by
  unfold State.markChanged
  split
  · exact setImageState_host s _
  all_goals rfl

theorem noteChange_host (c : StoredContent) : (State.noteChange c s).host = s.host := by rw [noteChange_eq]

theorem withTuner_host (t : TunerId) (x : Tuner) : (s.withTuner t x).host = s.host := by
  cases t <;> rfl

theorem acknowledge_host (l : LevelSource) : (acknowledge l s).host = s.host := sample_host _ l

theorem changeMask_host (x : Source) (v : Bool) : (changeMask x v s).host = s.host := by
  have hmarked : (s.changing fun u => u.setMask x v).host = s.host := noteChange_host _ _
  cases x with
  | edge e => exact hmarked
  | level l =>
    cases v with
    | true => exact hmarked
    | false => exact (sample_host _ l).trans hmarked

/-- A reset leaves the host record as it is (R176). -/
theorem resetCleared_host (defaults : Bool) : (resetCleared defaults s).host = s.host := by
  cases defaults with
  | false => exact sampleAll_host _
  | true => exact (sampleAll_host _).trans (markChanged_host _)

/-- A start puts the host record at its power-on values (R178). -/
theorem start_host (p : Straps) : (s.start p).host = HostRecord.powerOn := by
  refine (sampleAll_host _).trans ?_
  unfold State.loadImage
  split <;> rfl

end

/-! ### The wake outputs (R137, R138) -/

section
variable {s t : State}

theorem wakeOk_of_host (k : WakeOk s) (h : t.host = s.host) : WakeOk t :=
  ⟨by rw [h]; exact k.line, by rw [h]; exact k.timer, by rw [h]; exact k.expiry⟩

theorem wakeOk_powerOn (h : t.host = HostRecord.powerOn) : WakeOk t := by
  constructor <;> rw [h] <;> decide

/-- No write of an owner drives a wake output against the host state. -/
theorem OwnWrite.wakeOk (h : OwnWrite s t) (k : WakeOk s) : WakeOk t := by
  cases h with
  | start p => exact wakeOk_powerOn (start_host s p)
  | stop powered resetLow => exact wakeOk_powerOn rfl
  | greeted => exact ⟨⟨nofun, nofun⟩, nofun, nofun⟩
  | rested => exact ⟨⟨nofun, nofun⟩, nofun, fun _ => rfl⟩
  | causeTold => exact ⟨k.line, k.timer, k.expiry⟩
  | wakeTimer f => exact ⟨k.line, fun ht => k.timer (Option.isSome_map.symm.trans ht), k.expiry⟩
  | configure x enabled mask => exact wakeOk_of_host k (withTuner_host s x _)
  | view x hold set => exact wakeOk_of_host k (withTuner_host s x _)
  | acknowledge l => exact wakeOk_of_host k (acknowledge_host s l)
  | mask x v => exact wakeOk_of_host k (changeMask_host s x v)
  | beginSave => exact wakeOk_of_host k (setImageState_host _ _)
  | capture i => exact wakeOk_of_host k (setImageState_host _ _)
  | writeImage => exact wakeOk_of_host k (setImageState_host _ _)
  | cleared defaults => exact wakeOk_of_host k (resetCleared_host s defaults)
  | _ => exact wakeOk_of_host k rfl

end

/-- Settles O57: a step is made of work, which keeps the wake outputs, and of the owners' writes (`OwnWrite.wakeOk`). -/
theorem stepKeepsTheWakeOutputs : Obligations.StepKeepsTheWakeOutputs := fun _ _ k h =>
  (step_does h).keeps (fun _ _ hw => hw.wake) (fun _ _ hw => hw.wakeOk) k

end Sys2Proof.Machine

/-! PROOFS. The panel lines: triggers, PANEL_STAGE and PANEL_SET (R147 to R150). -/

namespace Sys2Proof.Machine

/-! ### Triggers (R147, R148) -/

theorem StagedPatterns.get_put (p : StagedPatterns) (t x : Trigger) (v : Staged) :
    (p.put t v).get x = if x = t then v else p.get x := by cases t <;> cases x <;> rfl

/-- A trigger moves the lines to its staged pattern where it is enabled, and nothing else (R148). -/
theorem applyTrigger_eq (s : State) (t : Trigger) : s.applyTrigger t = { s with panel := { s.panel with lines :=
    if (s.panel.staged.get t).enable = true then (s.panel.staged.get t).pattern else s.panel.lines } } := by
  unfold State.applyTrigger
  split <;> rfl

theorem triggerOf_eq_none {b : Byte} (h : b.toNat = 0 ∨ 4 < b.toNat) : triggerOf b = none := by
  unfold triggerOf
  split
  case h_5 => rfl
  all_goals omega

/-! ### PANEL_STAGE (R149) -/

/-- A staged pattern replaced, with the Image Store's act. -/
def withStaged (t : Trigger) (g : Staged) (u : State) : State := u.changing (fun v => v.stage t g)

section
variable {a : PanelStageArgs} {u : State}

theorem panelStageWork_busy (h : u.saving = true) : panelStageWork a u = refuse u .busy := if_pos h

theorem panelStageWork_range (h : u.saving = false) (hout : a.trigger.toNat = 0 ∨ 4 < a.trigger.toNat
    ∨ 15 < a.pattern.toNat ∨ 1 < a.enable.toNat) : panelStageWork a u = refuse u .range := by
  unfold panelStageWork
  rw [h, if_neg Bool.false_ne_true]
  rcases or_assoc.mpr hout with ht | hp | he
  · rw [triggerOf_eq_none ht]
  · rw [nibbleOf_eq_none hp]
    cases triggerOf a.trigger <;> rfl
  · rw [flagOf_eq_none he]
    cases triggerOf a.trigger <;> cases nibbleOf a.pattern <;> rfl

theorem panelStageWork_inRange (h : u.saving = false) {x : Trigger} (ht : triggerOf a.trigger = some x)
    (hp : a.pattern.toNat ≤ 15) (he : a.enable.toNat ≤ 1) :
    let g : Staged := ⟨BitVec.ofNat 4 a.pattern.toNat, decide (a.enable = 1)⟩
    panelStageWork a u = accept (withStaged x g u) (.panelStage (u.panel.staged.get x != g)) := by
  unfold panelStageWork
  rw [h, if_neg Bool.false_ne_true, ht, nibbleOf_inRange hp, flagOf_inRange he]
  rfl

end

section
variable (t : Trigger) (g : Staged) (u : State)

theorem withStaged_panel : (withStaged t g u).panel = { u.panel with staged := u.panel.staged.put t g } := by
  unfold withStaged State.changing
  rw [noteChange_eq]
  rfl

theorem withStaged_standing : (withStaged t g u).standing = { u.standing with staged := u.panel.staged.put t g } :=
  (noteChange_works _ _).standing

/-- Staging what already stands changes nothing. -/
theorem withStaged_same (h : u.panel.staged.get t = g) : withStaged t g u = u := by
  have hput : u.panel.staged.put t g = u.panel.staged := by subst h; cases t <;> rfl
  have hstage : u.stage t g = u := by unfold State.stage; rw [hput]
  have hnote : withStaged t g u = State.noteChange u.storedContent (u.stage t g) := rfl
  rw [hnote, hstage]
  exact if_pos rfl

theorem withStaged_notCurrent (h : u.panel.staged.get t ≠ g) : (withStaged t g u).image.state ≠ .current :=
  noteChange_notCurrent fun he => h <| by
    have hput : u.panel.staged.put t g = u.panel.staged := congrArg StoredContent.staged he
    rw [← hput, StagedPatterns.get_put, if_pos rfl]

end

/-- Settles O47: the tests in their order, then the staged pattern replaced (`withStaged`). -/
theorem panelStageReplacesAPattern : Obligations.PanelStageReplacesAPattern := by
  intro d a s hr hk c u
  refine ⟨fun hbusy => exec_refused rfl hr hk (panelStageWork_busy hbusy),
    fun hsave hout => exec_refused rfl hr hk (panelStageWork_range hsave hout), ?_⟩
  intro x hsave hx hp he g
  have hexec := exec_accepted rfl hr hk (panelStageWork_inRange hsave hx hp he)
  refine ⟨fun hsame => ?_, fun hdiffers => ?_⟩
  · rw [withStaged_same x g u hsame, bne_eq_false_iff_eq.mpr hsame] at hexec
    exact hexec
  · rw [bne_iff_ne.mpr hdiffers] at hexec
    have hpanel := withStaged_panel x g u
    refine ⟨withStaged x g u, hexec, withStaged_standing x g u, by rw [hpanel], ?_, fun y hy => ?_,
      withStaged_notCurrent x g u hdiffers⟩
    · rw [hpanel, StagedPatterns.get_put, if_pos rfl]
    · rw [hpanel, StagedPatterns.get_put, if_neg hy]

/-! ### PANEL_SET (R150) -/

section
variable {b : Byte} (u : State)

theorem panelSetWork_range (h : 15 < b.toNat) : panelSetWork b u = refuse u .range := by
  rw [panelSetWork, nibbleOf_eq_none h]

theorem panelSetWork_inRange (h : b.toNat ≤ 15) : panelSetWork b u =
    accept { u with panel := { u.panel with lines := BitVec.ofNat 4 b.toNat } } (.panelSet u.panel.lines) := by
  rw [panelSetWork, nibbleOf_inRange h]

end

/-- Settles O48: a pattern out of range and one in range. -/
theorem panelSetMovesTheLines : Obligations.PanelSetMovesTheLines := fun _ _ _ hr hk =>
  ⟨fun hout => exec_refused rfl hr hk (panelSetWork_range _ hout),
    fun hin => exec_accepted rfl hr hk (panelSetWork_inRange _ hin)⟩

end Sys2Proof.Machine

/-! PROOFS. GREET and REST (R139, R140). -/

namespace Sys2Proof.Machine

/-! ### GREET (R139) -/

/-- A GREET before the LATE bookings are taken: the holds gone, the interrupted bookings finished, the host AWAKE. -/
def awakened (s : State) : State :=
  let f := finishEach (.outcome .truncated .hostRestart 0) none (restartBookings s) s.freeHolds
  { f with host := f.host.greeted }

/-- The finishes of a host restart leave the host record alone: they come about in AWAKE only (R134). -/
theorem restart_host (s : State) :
    (finishEach (.outcome .truncated .hostRestart 0) none (restartBookings s) s.freeHolds).host = s.host := by
  by_cases hawake : s.host.state = .awake
  · exact (finishEach_works _ _ _ s.freeHolds).awake hawake
  · have hnone : restartBookings s = [] := if_neg hawake
    rw [hnone]
    rfl

section
variable (s : State)

theorem restart_works :
    Works s.freeHolds (finishEach (.outcome .truncated .hostRestart 0) none (restartBookings s) s.freeHolds) :=
  finishEach_works _ _ _ _

theorem awakened_host : (awakened s).host = s.host.greeted := congrArg HostRecord.greeted (restart_host s)

theorem awakened_standing : (awakened s).standing = s.standing := (restart_works s).standing

theorem awakened_holds (x : TunerId) : ((awakened s).tuner x).hold = none := by
  have hfreed : (s.freeHolds.tuner x).hold = none := by cases x <;> rfl
  have hkept := (restart_works s).hold_none hfreed
  cases x <;> exact hkept

theorem greeted_works : Works (awakened s) (greeted s) := by
  have htaken : Works (awakened s) (restarted s).state := takeLates_works _
  refine Works.trans ?_ (settle_works _)
  split
  · exact htaken.trans (afterFinish_works _ _)
  · exact htaken

/-- What follows the host's waking leaves its record as GREET wrote it, since the host is AWAKE by then. -/
theorem greeted_host : (greeted s).host = s.host.greeted := by
  have hawake : (awakened s).host.state = .awake := by rw [awakened_host]; rfl
  exact ((greeted_works s).awake hawake).trans (awakened_host s)

end

/-! ### REST (R140) -/

/-- REST's step 1: the holds gone, with a pass and what it makes due at once where one stood (R27). -/
def holdsReleased (s : State) : State := if s.holdsViewer then settle (passIfSet s.freeHolds) else s.freeHolds

/-- REST's steps 2 and 3: the host SLEEPING, the lines moved by its trigger. -/
def rested (s : State) : State := State.applyTrigger { holdsReleased s with host := (holdsReleased s).host.rested } .rest

section
variable (s : State)

theorem holdsReleased_works : Works s.freeHolds (holdsReleased s) := by
  unfold holdsReleased
  split
  · exact settle_passIfSet_works _
  · exact .refl _

theorem rested_works : Works { holdsReleased s with host := (holdsReleased s).host.rested } (rested s) :=
  applyTrigger_works _ .rest

theorem rested_standing : (rested s).standing = s.standing :=
  (rested_works s).standing.trans (holdsReleased_works s).standing

theorem rested_holds (x : TunerId) : ((rested s).tuner x).hold = none := by
  have hfreed : (s.freeHolds.tuner x).hold = none := by cases x <;> rfl
  have hreleased : ((holdsReleased s).tuner x).hold = none := (holdsReleased_works s).hold_none hfreed
  exact (rested_works s).hold_none (by cases x <;> exact hreleased)

end

section
variable {s : State}

theorem restWork_clock (h : s.clockSet = false) : restWork () s = refuse s .clock :=
  if_pos (by rw [h]; rfl)

theorem restWork_state (h : s.clockSet = true) (hheld : ∃ b ∈ s.plan.bookings, b.isHeld = true) :
    restWork () s = refuse s .state :=
  (if_neg (by rw [h]; decide)).trans (if_pos (List.any_eq_true.mpr hheld))

theorem restWork_accepted (h : s.clockSet = true) (hfree : ∀ b ∈ s.plan.bookings, b.isHeld = false) :
    restWork () s = accept (settle (recomputeWake (rested s)))
      (.rest (settle (recomputeWake (rested s))).host.state (computeWake (rested s)).1) :=
  (if_neg (by rw [h]; decide)).trans
    (if_neg (mt List.any_eq_true.mp fun ⟨b, hb, hheld⟩ => Bool.false_ne_true ((hfree b hb).symm.trans hheld)))

theorem holdsReleased_eq (h : s.clockSet = true) : holdsReleased s =
    if s.tunerA.hold.isSome = true ∨ s.tunerB.hold.isSome = true then settle (planPass s.freeHolds) else s.freeHolds := by
  have hpass : passIfSet s.freeHolds = planPass s.freeHolds := if_pos h
  unfold holdsReleased
  rw [hpass]
  exact if_congr Bool.or_eq_true_iff rfl rfl

end

/-- Settles O52: GREET from what it leaves of the host (`greeted_host`), REST test by test. -/
theorem greetAndRestMoveTheHost : Obligations.GreetAndRestMoveTheHost := by
  refine ⟨?greet, ?rest⟩
  case greet =>
    intro d s hr hk c u
    have hworks := greeted_works u
    refine ⟨_, exec_accepted rfl hr hk (greetWork_eq () u), ?_, hworks.hold_none (x := .a) (awakened_holds u .a),
      hworks.hold_none (x := .b) (awakened_holds u .b), hworks.standing.trans (awakened_standing u)⟩
    rw [greeted_host]
    rfl
  case rest =>
    intro d s hr hk c u
    have hclock : u.clockSet = s.clockSet := arrive_clockSet c d s
    rw [← hclock]
    refine ⟨fun hunset => exec_refused rfl hr hk (restWork_clock hunset),
      fun hset hheld => exec_refused rfl hr hk (restWork_state hset hheld), ?_⟩
    intro hset hfree f g p
    have hp : rested u = p := by
      unfold rested
      rw [applyTrigger_eq, holdsReleased_eq hset]
      rfl
    rw [← hp]
    exact ⟨rested_holds u .a, rested_holds u .b, rested_standing u,
      exec_accepted rfl hr hk (restWork_accepted hset hfree)⟩

end Sys2Proof.Machine

/-! PROOFS. The wake expiry (R141, R142), WAKE_EXPIRY and WAKE_TIMEOUT (R143, R144). -/

namespace Sys2Proof.Machine

/-! ### The earliest of some instants -/

theorem earliest_eq_min? (ts : List Nat) : earliest ts = ts.min? := by
  induction ts with
  | nil => rfl
  | cons t ts ih =>
    rw [earliest, ih, List.min?_cons]
    cases ts.min? <;> rfl

/-! ### The instants asked for (R141) -/

/-- A PLANNED booking asks for the host to be awake from an instant on; in WAKE_FAILED its window must start after the
failure. -/
def asksToWake (s : State) (t : Nat) (b : Booking) : Bool :=
  decide (b.state = some .planned ∧ t = b.winStart - s.settings.wakeLead
    ∧ (s.host.state = .wakeFailed → ∀ f ∈ s.host.failure, f < b.winStart))

section
variable {s : State} {t : Nat} {b : Booking}

theorem asksToWake_iff : asksToWake s t b = true ↔ b.state = some .planned ∧ t = b.winStart - s.settings.wakeLead
    ∧ (s.host.state = .wakeFailed → ∀ f, s.host.failure = some f → f < b.winStart) := decide_eq_true_iff

/-- A candidate for the wake expiry (R141) is a PLANNED booking, in WAKE_FAILED one whose window starts after the failure. -/
theorem mem_wakeCandidates : b ∈ wakeCandidates s ↔ b ∈ s.plan.bookings ∧ b.state = some .planned
    ∧ (s.host.state = .wakeFailed → ∀ f, s.host.failure = some f → f < b.winStart) := by
  rw [← and_assoc, wakeCandidates, State.inState, List.mem_filter, List.mem_filter, beq_iff_eq]
  refine and_congr_right fun _ => ?_
  by_cases hfailed : s.host.state = .wakeFailed
  · rw [if_pos hfailed]
    cases s.host.failure <;> simp [hfailed]
  · rw [if_neg hfailed]
    exact iff_of_true rfl fun h => absurd h hfailed

theorem mem_wakeCandidates_at : b ∈ wakeCandidates s ∧ wakeInstant s.settings b = t
    ↔ b ∈ s.plan.bookings ∧ asksToWake s t b = true := by
  rw [mem_wakeCandidates, asksToWake_iff, wakeInstant, eq_comm (b := t)]
  tauto

/-- The first candidate of an instant is the first booking that asks for it. -/
theorem find?_wakeCandidates : (wakeCandidates s).find? (fun c => wakeInstant s.settings c == t)
    = s.plan.bookings.find? (asksToWake s t) := by
  obtain ⟨p, hp⟩ : ∃ p, wakeCandidates s = s.plan.bookings.filter p := ⟨_, List.filter_filter ..⟩
  rw [hp, List.find?_filter]
  refine List.find?_congr fun c hc => ?_
  have hcandidate := mem_wakeCandidates_at (s := s) (t := t) (b := c)
  rw [hp, List.mem_filter] at hcandidate
  rw [Bool.eq_iff_iff, decide_eq_true_iff, beq_iff_eq]
  tauto

end

/-- An instant is asked for by a booking or by the maintenance window (R141). -/
def wakeAsked (s : State) (t : Nat) : Prop :=
  (∃ b ∈ s.plan.bookings, asksToWake s t b = true) ∨ nextMaintenance s = some t

/-- The instants asked for, as the computation lists them. -/
def wakeInstants (s : State) : List Nat :=
  (wakeCandidates s).map (wakeInstant s.settings) ++ (nextMaintenance s).toList

theorem mem_wakeInstants {s : State} {t : Nat} : t ∈ wakeInstants s ↔ wakeAsked s t := by
  rw [wakeInstants, List.mem_append, List.mem_map, Option.mem_toList]
  exact or_congr_left (exists_congr fun b => mem_wakeCandidates_at)

/-! ### The computation (R141, R142) -/

section
variable {s : State} {t : Nat}

theorem computeWake_none (h : ∀ t, ¬ wakeAsked s t) : computeWake s = (none, .none) := by
  have hnil : wakeInstants s = [] := List.eq_nil_iff_forall_not_mem.mpr fun t ht => h t (mem_wakeInstants.mp ht)
  have hearliest : earliest (wakeInstants s) = none := by rw [hnil]; rfl
  unfold wakeInstants at hearliest
  unfold computeWake
  simp only [hearliest]

/-- The earliest instant asked for, with the first booking in list order that asks for it as its cause. -/
theorem computeWake_some (h : wakeAsked s t) (hleast : ∀ u, wakeAsked s u → t ≤ u) : computeWake s =
    (some t, ((s.plan.bookings.find? (asksToWake s t)).map fun b => WakeCause.booking b.number).getD .maint) := by
  have hearliest : earliest (wakeInstants s) = some t := by
    rw [earliest_eq_min?, List.min?_eq_some_iff]
    exact ⟨mem_wakeInstants.mpr h, fun u hu => hleast u (mem_wakeInstants.mp hu)⟩
  unfold wakeInstants at hearliest
  rw [← find?_wakeCandidates]
  unfold computeWake
  simp only [hearliest]
  cases (wakeCandidates s).find? fun c => wakeInstant s.settings c == t <;> rfl

theorem recomputeWake_off (h : s.host.state ≠ .sleeping) (h' : s.host.state ≠ .wakeFailed) : recomputeWake s = s :=
  if_neg fun hholds => ((holdsWake_iff _).mp hholds).elim h h'

end

/-- The host record with its wake expiry computed afresh. -/
def withWake (s : State) : State :=
  { s with host := { s.host with wakeExpiry := (computeWake s).1, expiryCause := (computeWake s).2 } }

theorem atOnce_eq (s : State) (d : Due) (t : Nat) :
    s.atOnce d t = { s with agenda := s.agenda ++ if t ≤ s.present then [d] else [] } := by
  unfold State.atOnce
  split
  · rfl
  · rw [List.append_nil]

/-- In SLEEPING and WAKE_FAILED the computed expiry is held, and due at once where it is reached. -/
theorem recomputeWake_asleep {s : State} (h : s.host.state = .sleeping ∨ s.host.state = .wakeFailed) :
    recomputeWake s = { withWake s with agenda :=
      s.agenda ++ (computeWake s).1.elim [] (fun x => if x ≤ s.present then [.wake] else []) } := by
  unfold recomputeWake
  rw [if_pos ((holdsWake_iff _).mpr h)]
  simp only []
  split
  · rename_i x hx
    rw [atOnce_eq, hx, withWake, hx]
    rfl
  · rename_i hx
    rw [hx, withWake, hx, Option.elim_none, List.append_nil]

/-! ### WAKE_EXPIRY and WAKE_TIMEOUT (R143, R144) -/

section
variable {s : State} {x : Nat}

theorem isDue_wake (hasleep : s.host.state = .sleeping ∨ s.host.state = .wakeFailed)
    (hx : s.host.wakeExpiry = some x) (hle : x ≤ s.present) : isDue .wake s = true := by
  rw [isDue, (holdsWake_iff _).mpr hasleep, hx]
  exact decide_eq_true hle

theorem isDue_wakeTimer (hwaking : s.host.state = .waking) (hx : s.host.wakeTimer = some x) (hle : x ≤ s.present) :
    isDue .wakeTimer s = true := by
  rw [isDue, hwaking, hx]
  exact decide_eq_true hle

/-- The state of a wake that has begun, with its cause (R143). -/
def wakeBegun (c : WakeCause) (s : State) : State := { s with
  host := ⟨.waking, none, s.host.expiryCause, some (s.present + s.settings.wakeTimeout), some s.present, s.host.failure,
    c, true⟩
  panel := { s.panel with lines :=
    if s.panel.staged.wake.enable = true then s.panel.staged.wake.pattern else s.panel.lines } }

theorem wakeWork_eq (c : WakeCause) (s : State) : wakeWork c s = wakeBegun c s := by
  simp only [wakeWork, applyTrigger_eq]
  rfl

/-- Outside a save a wake expiry begins the wake and brings nothing else. -/
theorem expire_wake (hr : s.running = true) (hagenda : s.agenda = []) (hsave : s.saving = false)
    (hasleep : s.host.state = .sleeping ∨ s.host.state = .wakeFailed) (hx : s.host.wakeExpiry = some x)
    (hle : x ≤ s.present) : expire .wake s = wakeBegun s.host.expiryCause s := by
  have hkept : abandonSave s = s := if_neg (Bool.eq_false_iff.mp hsave)
  have htaken : takeDue .wake s = wakeBegun s.host.expiryCause s := by
    rw [takeDue, if_pos (isDue_wake hasleep hx hle), ← wakeWork_eq, hkept]
  have hquiet : (wakeBegun s.host.expiryCause s).agenda = [] := hagenda
  rw [expire, if_pos hr, htaken, settle_of_agenda hquiet]

/-- The state of a wake that has failed (R144). -/
def wakeGivenUp (s : State) : State := { s with host := { s.host with
  state := .wakeFailed, wakeLine := false, wakeTimer := none, failure := some s.present } }

theorem wakeTimeoutWork_eq (s : State) : wakeTimeoutWork s =
    recomputeWake ((wakeGivenUp s).edgeEvent (.wakeFailed (s.host.attempt.getD 0))) := rfl

/-- The timeout hands WAKE_FAILED and has the wake expiry computed afresh. -/
theorem expire_wakeTimer {a : Nat} (hr : s.running = true) (hwaking : s.host.state = .waking)
    (hx : s.host.wakeTimer = some x) (hle : x ≤ s.present) (ha : s.host.attempt = some a) :
    expire .wakeTimer s = settle (recomputeWake ((wakeGivenUp s).edgeEvent (.wakeFailed a))) := by
  have htaken : takeDue .wakeTimer s = recomputeWake ((wakeGivenUp s).edgeEvent (.wakeFailed a)) := by
    rw [takeDue, if_pos (isDue_wakeTimer hwaking hx hle)]
    simp only [wakeTimeoutWork_eq, ha, Option.getD_some]
  rw [expire, if_pos hr, htaken]

end

/-- Settles O53: the two expiries, then the computation from the instants asked for (`computeWake_some`). -/
theorem wakesBeginAndFail : Obligations.WakesBeginAndFail := by
  refine ⟨fun s x hr hagenda hsave hasleep hx hle => ?wake, fun s x a hr hwaking hx hle ha => ?timeout, fun s => ?computed⟩
  case wake => exact congrArg Host.Outcome.next (expire_wake hr hagenda hsave hasleep hx hle)
  case timeout => exact congrArg Host.Outcome.next (expire_wakeTimer hr hwaking hx hle ha)
  case computed =>
    intro asks asked timed
    have hasks (t : Nat) (b : Booking) : asksToWake s t b = true ↔ asks b t := asksToWake_iff
    have hasked (t : Nat) : wakeAsked s t ↔ asked t :=
      or_congr_left (exists_congr fun b => and_congr_right fun _ => hasks t b)
    refine ⟨fun hnone => computeWake_none fun t h => hnone t ((hasked t).mp h), fun t ht hleast => ?earliest,
      recomputeWake_off, fun hasleep => ?asleep⟩
    case earliest =>
      have hcomputed := computeWake_some ((hasked t).mpr ht) fun u hu => hleast u ((hasked u).mp hu)
      refine ⟨fun before b after hsplit hb hbefore => ?booking, fun hnone => ?maint⟩
      case booking =>
        have hfound : s.plan.bookings.find? (asksToWake s t) = some b :=
          List.find?_eq_some_iff_append.mpr ⟨(hasks t b).mpr hb, before, after, hsplit, fun c hc => by
            rw [Bool.not_eq_true', Bool.eq_false_iff, Ne, hasks]
            exact hbefore c hc⟩
        rw [hcomputed, hfound]
        rfl
      case maint =>
        have hmissed : s.plan.bookings.find? (asksToWake s t) = none :=
          List.find?_eq_none.mpr fun b hb h => hnone b hb ((hasks t b).mp h)
        rw [hcomputed, hmissed]
        rfl
    case asleep =>
      rw [recomputeWake_asleep hasleep]
      cases (computeWake s).1 <;> rfl

end Sys2Proof.Machine

/-! PROOFS. The queues through every step (R151, R154, R156, R162): which of the owners' writes touch them. -/

namespace Sys2Proof.Machine

section
variable {s t : State}

/-- What waits in `t` waited in `s`, in the same order, and no source has entered or left service. -/
structure QueuesLeft (s t : State) : Prop where
  directives : t.outbox.directives.Sublist s.outbox.directives := by exact List.Sublist.refl _
  notices : t.outbox.notices.Sublist s.outbox.notices := by exact List.Sublist.refl _
  lost : t.outbox.lost ≤ s.outbox.lost := by exact Nat.le_refl _
  inService : t.alerts.inService = s.alerts.inService := by rfl

theorem QueuesLeft.queuesOk (h : QueuesLeft s t) (k : QueuesOk s) : QueuesOk t where
  notices := h.notices.length_le.trans k.notices
  lost := h.lost.trans k.lost
  level l := by rw [h.inService]; exact (h.notices.filter _).length_le.trans (k.level l)
  yields x := (h.directives.filter _).length_le.trans (k.yields x)

theorem queuesOk_of_empty (hdirectives : s.outbox.directives = []) (hnotices : s.outbox.notices = [])
    (hlost : s.outbox.lost = 0) : QueuesOk s where
  notices := by rw [hnotices]; exact Nat.zero_le _
  lost := by rw [hlost]; exact Nat.zero_le _
  level l := by rw [waitingNotices, hnotices]; exact Nat.zero_le _
  yields x := by rw [waitingYields, hdirectives]; exact Nat.zero_le _

theorem withTuner_queuesLeft (s : State) (x : TunerId) (w : Tuner) : QueuesLeft s (s.withTuner x w) := by
  cases x <;> exact {}

/-! ### A start and a reset (R166, R176, R178) -/

theorem loadImage_queuesLeft (s : State) : QueuesLeft s s.loadImage := by
  unfold State.loadImage
  split <;> exact {}

/-- A start samples the level sources on empty queues. -/
theorem start_queuesOk (s : State) (p : Straps) : QueuesOk (s.start p) :=
  (sampleAll_works _).queues ((loadImage_queuesLeft _).queuesOk (queuesOk_of_empty rfl rfl rfl))

/-- A reset samples the level sources on empty queues, a STORE_STALE notice of the defaults apart. -/
theorem resetCleared_queuesOk (defaults : Bool) (s : State) : QueuesOk (resetCleared defaults s) := by
  refine (sampleAll_works _).queues ?_
  cases defaults with
  | false => exact queuesOk_of_empty rfl rfl rfl
  | true =>
    have hmarked := (markChanged_works ((resetOutbox (resetTables s)).withContent .defaults)).queues
      (queuesOk_of_empty rfl rfl rfl)
    exact QueuesLeft.queuesOk {} hmarked

/-! ### The alert table's owner (R164, R165) -/

/-- A level source taken out of service (R165). -/
def outOfService (l : LevelSource) (s : State) : State :=
  { s with alerts := { s.alerts with inService := s.alerts.inService.put l false } }

theorem acknowledge_eq (l : LevelSource) (s : State) : acknowledge l s = (outOfService l s).sample l := rfl

theorem waits_eq_false_iff {x : Source} : s.waits x = false ↔ ∀ n ∈ s.outbox.notices, n.source ≠ x := by
  simp only [State.waits, List.any_eq_false, beq_iff_eq, ne_eq]

theorem waits_eq_true_iff {x : Source} : s.waits x = true ↔ ∃ n ∈ s.outbox.notices, n.source = x := by
  simp only [State.waits, List.any_eq_true, beq_iff_eq]

theorem waitingNotices_eq_zero {x : Source} (h : s.waits x = false) : waitingNotices s x = 0 :=
  List.length_eq_zero_iff.mpr <| List.filter_eq_nil_iff.mpr fun n hn hx =>
    waits_eq_false_iff.mp h n hn (beq_iff_eq.mp hx)

/-- A source may leave service when none of its notices waits. -/
theorem outOfService_queuesOk {l : LevelSource} (h : s.waits (.level l) = false) (k : QueuesOk s) :
    QueuesOk (outOfService l s) where
  notices := k.notices
  lost := k.lost
  level m := by
    show waitingNotices s (.level m) ≤ if (s.alerts.inService.put l false).get m = true then 1 else 0
    rw [LevelFlags.get_put]
    by_cases hm : m = l
    · rw [hm, waitingNotices_eq_zero h]; exact Nat.zero_le _
    · rw [if_neg hm]; exact k.level m
  yields := k.yields

theorem changeMask_queuesOk (x : Source) (v : Bool) (k : QueuesOk s) : QueuesOk (changeMask x v s) := by
  have hmarked : QueuesOk (s.changing fun u => u.setMask x v) :=
    (noteChange_works _ _).queues (QueuesLeft.queuesOk {} k)
  cases x with
  | edge e => exact hmarked
  | level l =>
    cases v with
    | true => exact hmarked
    | false => exact sample_queues _ l hmarked

/-! ### The step -/

/-- No write of an owner breaks a bound of the queues. -/
theorem OwnWrite.queuesOk (h : OwnWrite s t) (k : QueuesOk s) : QueuesOk t := by
  have left {u : State} (hleft : QueuesLeft s u) : QueuesOk u := hleft.queuesOk k
  cases h with
  | start p => exact start_queuesOk s p
  | stop powered resetLow => exact queuesOk_of_empty rfl rfl rfl
  | cleared defaults => exact resetCleared_queuesOk defaults s
  | configure x enabled mask => exact left (withTuner_queuesLeft s x _)
  | view x hold set => exact left (withTuner_queuesLeft s x _)
  | lostTold => exact left { lost := Nat.zero_le _ }
  | directiveTaken x xs hd => exact left { directives := hd ▸ List.sublist_cons_self x xs }
  | noticeTaken n ns hn => exact left { notices := hn ▸ List.sublist_cons_self n ns }
  | acknowledge l hwaits => exact sample_queues _ l (outOfService_queuesOk hwaits k)
  | mask x v => exact changeMask_queuesOk x v k
  | beginSave => exact setImageState_queues _ _ (left {})
  | capture i => exact setImageState_queues _ _ (left {})
  | writeImage => exact setImageState_queues _ _ (left {})
  | _ => exact left {}

end

/-- Settles O58: a step is made of work, which keeps the queues, and of the owners' writes (`OwnWrite.queuesOk`). -/
theorem stepKeepsTheQueues : Obligations.StepKeepsTheQueues := fun _ _ k h =>
  (step_does h).keeps (fun _ _ hw => hw.queues) (fun _ _ hw => hw.queuesOk) k

end Sys2Proof.Machine

/-! PROOFS. The queues: how a YIELD and a notice join (R154, R156), and how TAKE empties them (R121, R157). -/

namespace Sys2Proof.Machine

/-! ### A YIELD joins (R154) -/

section
variable (s : State) (t : TunerId) (n : Nat)

theorem queueYield_directives : (s.queueYield t n).outbox.directives
    = s.outbox.directives.filter (fun d => !d.isYieldFor t) ++ [.yieldTuner t n] := rfl

theorem queueYield_yields_same :
    (s.queueYield t n).outbox.directives.filter (fun d => d.isYieldFor t) = [.yieldTuner t n] := by
  rw [queueYield_directives, List.filter_append, List.filter_filter]
  have hgone : s.outbox.directives.filter (fun d => d.isYieldFor t && !d.isYieldFor t) = [] :=
    List.filter_eq_nil_iff.mpr fun d _ => by rw [Bool.and_not_self]; exact Bool.false_ne_true
  have hnew : Directive.isYieldFor t (.yieldTuner t n) = true := beq_self_eq_true t
  rw [hgone, List.filter_cons_of_pos hnew, List.filter_nil, List.nil_append]

theorem queueYield_yields_other {u : TunerId} (hu : u ≠ t) :
    (s.queueYield t n).outbox.directives.filter (fun d => d.isYieldFor u)
      = s.outbox.directives.filter (fun d => d.isYieldFor u) := by
  have hnew : ¬ Directive.isYieldFor u (.yieldTuner t n) = true := fun h => hu (beq_iff_eq.mp h).symm
  have hstays (d : Directive) : (d.isYieldFor u && !d.isYieldFor t) = d.isYieldFor u := by
    cases d with
    | yieldTuner x m =>
      by_cases hx : x = u
      · subst hx; simp [Directive.isYieldFor, hu]
      · simp [Directive.isYieldFor, hx]
    | beginRec f => rfl
    | endRec b p r => rfl
  rw [queueYield_directives, List.filter_append, List.filter_filter, List.filter_cons_of_neg hnew, List.filter_nil,
    List.append_nil]
  exact congrArg (fun p => s.outbox.directives.filter p) (funext hstays)

end

/-! ### A notice joins (R156) -/

/-- What gives way is the first edge notice of the queue. -/
theorem dropOldestEdge_append {before after : List Notice} {x : Notice} (hx : x.isEdge = true)
    (hbefore : ∀ y ∈ before, y.isEdge = false) : dropOldestEdge (before ++ x :: after) = some (before ++ after) := by
  induction before with
  | nil => exact if_pos hx
  | cons y ys ih =>
    have hy : y.isEdge = false := hbefore y List.mem_cons_self
    rw [List.cons_append, dropOldestEdge, hy, ih fun z hz => hbefore z (List.mem_cons_of_mem y hz)]
    rfl

section
variable {s : State} {n : Notice}

theorem joinNotice_room (h : s.outbox.notices.length < 24) :
    s.joinNotice n = { s with outbox := { s.outbox with notices := s.outbox.notices ++ [n] } } := if_pos h

theorem joinNotice_full {q : List Notice} (h : 24 ≤ s.outbox.notices.length)
    (hq : dropOldestEdge s.outbox.notices = some q) : s.joinNotice n =
      { s with outbox := { s.outbox with notices := q ++ [n], lost := min (s.outbox.lost + 1) 255 } } := by
  have hfull : ¬ s.outbox.notices.length < Config.maxNotices := Nat.not_lt.mpr h
  rw [State.joinNotice, if_neg hfull, hq]
  rfl

end

/-- Settles O43: the YIELDs of each tuner, then a notice that finds room and one that makes it. -/
theorem queuesMakeRoom : Obligations.QueuesMakeRoom := by
  refine ⟨fun s t n => ⟨rfl, congrArg List.length (queueYield_yields_same s t n), fun u hu =>
    queueYield_yields_other s t n hu⟩, fun s n => ⟨joinNotice_room, fun before x after hsplit hfull hx hbefore => ?_⟩⟩
  exact joinNotice_full hfull (hsplit ▸ dropOldestEdge_append hx hbefore)

/-! ### TAKE (R121, R157) -/

section
variable {s : State}

theorem popItem_directive {x : Directive} {xs : List Directive} (h : s.outbox.directives = x :: xs) :
    popItem s = (.directive x, s.withDirectives xs) := by
  rw [popItem, h]

theorem popItem_notice {n : Notice} {ns : List Notice} (h : s.outbox.directives = [])
    (hn : s.outbox.notices = n :: ns) :
    popItem s = (.notice n, { s with outbox := { s.outbox with notices := ns } }) := by
  rw [popItem, h, hn]

theorem popItem_empty (h : s.outbox.directives = []) (hn : s.outbox.notices = []) : popItem s = (.empty, s) := by
  rw [popItem, h, hn]

theorem takeWork_directive {x : Directive} {xs : List Directive} (h : s.outbox.directives = x :: xs) :
    takeWork .own () s
      = accept (handTaken x (s.withDirectives xs)) (.take (.directive x) xs.length s.outbox.notices.length) := by
  rw [takeWork, popItem_directive h]
  rfl

theorem takeWork_notice {n : Notice} {ns : List Notice} (h : s.outbox.directives = [])
    (hn : s.outbox.notices = n :: ns) : takeWork .own () s
      = accept { s with outbox := { s.outbox with notices := ns } }
        (.take (.notice n) s.outbox.directives.length ns.length) := by
  rw [takeWork, popItem_notice h hn]

theorem takeWork_empty (h : s.outbox.directives = []) (hn : s.outbox.notices = []) : takeWork .own () s
    = accept s (.take .empty s.outbox.directives.length s.outbox.notices.length) := by
  rw [takeWork, popItem_empty h hn]

/-- A directive other than BEGIN asks nothing of Run Control as it is taken. -/
theorem handTaken_other {x : Directive} (h : ∀ f, x ≠ .beginRec f) : handTaken x s = s := by
  cases x with
  | beginRec f => exact absurd rfl (h f)
  | endRec b p r => rfl
  | yieldTuner t b => rfl

/-- With its provisional end ahead, a booking whose BEGIN is taken becomes STARTING and nothing more follows (R121). -/
theorem beginTaken_ahead {n : Nat} {b : Booking} (hagenda : s.agenda = []) (hb : s.booking? n = some b)
    (hahead : s.present < b.provEnd) : beginTaken n s = s.mapBooking n (startStarting s) := by
  have hstarted : (s.mapBooking n (startStarting s)).atOnce (.provisionalEnd n) b.provEnd
      = s.mapBooking n (startStarting s) := atOnce_ahead hahead
  have hquiet : (s.mapBooking n (startStarting s)).agenda = [] := hagenda
  rw [beginTaken, hb]
  simp only []
  rw [hstarted, settle_of_agenda hquiet]

end

/-- Settles O42: a broadcast TAKE leaves the queues, and one addressed to the part takes the head by its kind. -/
theorem takeReturnsTheHead : Obligations.TakeReturnsTheHead := by
  rintro s ⟨hr, hk, hagenda⟩
  refine ⟨?broadcast, ?own⟩
  case broadcast =>
    intro u
    have hwork : takeWork .broadcast () u
        = accept u (.take .empty u.outbox.directives.length u.outbox.notices.length) := rfl
    exact exec_accepted rfl hr hk hwork
  case own =>
    intro u answer
    have hquiet : u.agenda = [] := arrive_agenda _ .own hagenda
    obtain ⟨hpresent, -, hsettings⟩ := arrive_present_clock_settings (.take .own (.fields ())) .own s
    refine ⟨fun hd hn => exec_accepted rfl hr hk (takeWork_empty hd hn),
      fun n ns hd hn => exec_accepted rfl hr hk (takeWork_notice hd hn), fun x xs hd => ?directive, fun x xs hd => ?any⟩
    case directive =>
      have hexec := exec_accepted rfl hr hk (takeWork_directive hd)
      refine ⟨fun hother => by rw [handTaken_other hother] at hexec; exact hexec, ?begin⟩
      rintro f b rfl hb hahead
      have htaken : handTaken (.beginRec f) (u.withDirectives xs)
          = (u.withDirectives xs).mapBooking f.booking (startStarting (u.withDirectives xs)) :=
        beginTaken_ahead hquiet hb (hpresent.trans_lt hahead)
      rw [htaken] at hexec
      rw [← hpresent, ← hsettings]
      exact hexec
    case any =>
      exact ⟨_, (handTaken_works x (u.withDirectives xs)).standing, exec_accepted rfl hr hk (takeWork_directive hd)⟩

end Sys2Proof.Machine

/-! PROOFS. The alert table's messages: ALERT_ACK (R165), ALERT_MASK (R164) and ATTN_ENABLE (R158, R159). -/

namespace Sys2Proof.Machine

theorem sourceOfNumber_eq_none {n : Nat} (h : n = 0 ∨ 8 < n) : sourceOfNumber n = none := by
  unfold sourceOfNumber
  split
  case h_9 => rfl
  all_goals omega

/-! ### One source acknowledged (R162, R165) -/

theorem LevelFlags.put_put (f : LevelFlags) (l : LevelSource) (v w : Bool) : (f.put l v).put l w = f.put l w := by
  cases l <;> rfl

theorem notice_inService (t : AlertTable) (f : LevelFlags) (l : LevelSource) :
    AlertTable.notice { t with inService := f } l = t.notice l := by cases l <;> rfl

section
variable {s : State} {l : LevelSource}

theorem outOfService_get : (outOfService l s).alerts.inService.get l = false :=
  (LevelFlags.get_put ..).trans (if_pos rfl)

theorem outOfService_samplingQueues : (outOfService l s).samplingQueues l = true ↔
    s.alerts.condition l = true ∧ s.alerts.masks.level.get l = false := by
  have hcondition : (outOfService l s).alerts.condition l = s.alerts.condition l := condition_inService _ _ l
  rw [State.samplingQueues, hcondition, outOfService_get]
  simp only [Bool.not_false, Bool.and_true, Bool.and_eq_true, Bool.not_eq_true']
  rfl

/-- A source whose condition still holds comes back into service with a notice. -/
theorem acknowledge_holds (h : s.alerts.condition l = true ∧ s.alerts.masks.level.get l = false) :
    acknowledge l s = { (outOfService l s).joinNotice (s.alerts.notice l) with
      alerts := { s.alerts with inService := s.alerts.inService.put l true } } := by
  have hnotice : (outOfService l s).alerts.notice l = s.alerts.notice l := notice_inService _ _ l
  have hback : (outOfService l s).alerts.inService.put l true = s.alerts.inService.put l true :=
    LevelFlags.put_put ..
  rw [acknowledge_eq, State.sample, if_pos (outOfService_samplingQueues.mpr h), hnotice, hback]
  rfl

theorem acknowledge_over (h : ¬ (s.alerts.condition l = true ∧ s.alerts.masks.level.get l = false)) :
    acknowledge l s = outOfService l s := if_neg (mt outOfService_samplingQueues.mp h)

/-! ### ALERT_ACK's owner (R165) -/

variable {b : Byte}

theorem alertAckWork_range (h : b.toNat = 0 ∨ 8 < b.toNat) : alertAckWork b s = refuse s .range := by
  rw [alertAckWork, sourceOfNumber_eq_none h]

theorem alertAckWork_edge {e : EdgeSource} (h : sourceOfNumber b.toNat = some (.edge e)) :
    alertAckWork b s = accept s (.alertAck false) := by
  rw [alertAckWork, h]

theorem alertAckWork_waits (h : sourceOfNumber b.toNat = some (.level l)) (hwaits : s.waits (.level l) = true) :
    alertAckWork b s = refuse s .state := by
  rw [alertAckWork, h]
  exact if_pos hwaits

theorem alertAckWork_samples (h : sourceOfNumber b.toNat = some (.level l)) (hwaits : s.waits (.level l) = false) :
    alertAckWork b s = accept (acknowledge l s) (.alertAck ((acknowledge l s).alerts.inService.get l)) := by
  rw [alertAckWork, h]
  exact if_neg (Bool.eq_false_iff.mp hwaits)

end

/-- Settles O44: no source, an edge source, and a level source by its notice and its condition. -/
theorem alertAckSamplesTheSource : Obligations.AlertAckSamplesTheSource := by
  intro d b s hr hk c u
  refine ⟨fun hout => exec_refused rfl hr hk (alertAckWork_range hout),
    fun e he => exec_accepted rfl hr hk (alertAckWork_edge he), fun l hl => ⟨fun hwaits =>
      exec_refused rfl hr hk (alertAckWork_waits hl (waits_eq_true_iff.mpr hwaits)), fun hnone => ?sampled⟩⟩
  case sampled =>
    have hwork := alertAckWork_samples hl (waits_eq_false_iff.mpr hnone)
    refine ⟨fun hholds => ?_, fun hover => ?_⟩
    · have hback : (acknowledge l u).alerts.inService.get l = true := by
        rw [acknowledge_holds hholds]; exact (LevelFlags.get_put ..).trans (if_pos rfl)
      rw [hback, acknowledge_holds hholds] at hwork
      exact ⟨_, exec_accepted rfl hr hk hwork, rfl, rfl⟩
    · rw [acknowledge_over hover, outOfService_get] at hwork
      exact exec_accepted rfl hr hk hwork

/-! ### The masks (R160) -/

theorem EdgeFlags.get_put (f : EdgeFlags) (e x : EdgeSource) (v : Bool) :
    (f.put e v).get x = if x = e then v else f.get x := by cases e <;> cases x <;> rfl

theorem AlertMasks.get_put (m : AlertMasks) (x y : Source) (v : Bool) :
    (m.put x v).get y = if y = x then v else m.get y := by
  cases x with
  | edge e =>
    cases y with
    | edge f => simp only [AlertMasks.put, AlertMasks.get, EdgeFlags.get_put, Source.edge.injEq]
    | level l => rfl
  | level l =>
    cases y with
    | edge e => rfl
    | level k => simp only [AlertMasks.put, AlertMasks.get, LevelFlags.get_put, Source.level.injEq]

/-! ### ALERT_MASK's owner (R164) -/

/-- One mask changed, with the Image Store's act. -/
def withMask (x : Source) (v : Bool) (u : State) : State := u.changing fun t => t.setMask x v

section
variable (x : Source) (v : Bool) (u : State)

theorem withMask_masks : (withMask x v u).alerts.masks = u.alerts.masks.put x v := (noteChange_works _ _).masks

theorem withMask_notCurrent (h : u.alerts.masks.get x ≠ v) : (withMask x v u).image.state ≠ .current :=
  noteChange_notCurrent fun he => h <| by
    have hput : u.alerts.masks.put x v = u.alerts.masks := congrArg StoredContent.masks he
    rw [← hput, AlertMasks.get_put, if_pos rfl]

/-- A mask set, or an edge source's mask, samples nothing. -/
theorem changeMask_unsampled (h : v = true ∨ ∃ e, x = .edge e) : changeMask x v u = withMask x v u := by
  cases x with
  | edge e => rfl
  | level l =>
    rcases h with rfl | ⟨e, he⟩
    · rfl
    · cases he

theorem changeMask_sampled {l : LevelSource} (hx : x = .level l) (hv : v = false) :
    changeMask x v u = (withMask x v u).sample l := by
  subst hx hv
  rfl

end

section
variable {a : AlertMaskArgs} {u : State}

theorem alertMaskWork_range (h : a.source.toNat = 0 ∨ 8 < a.source.toNat ∨ 1 < a.mask.toNat) :
    alertMaskWork a u = refuse u .range := by
  unfold alertMaskWork
  rcases or_assoc.mpr h with hsource | hmask
  · rw [sourceOfNumber_eq_none hsource]
  · rw [flagOf_eq_none hmask]
    cases sourceOfNumber a.source.toNat <;> rfl

theorem alertMaskWork_inRange {x : Source} (hx : sourceOfNumber a.source.toNat = some x) (hm : a.mask.toNat ≤ 1) :
    let v := decide (a.mask = 1)
    alertMaskWork a u = if u.saving = true then refuse u .busy
      else if u.alerts.masks.get x = v then accept u (.alertMask false)
      else accept (changeMask x v u) (.alertMask true) := by
  rw [alertMaskWork, hx, flagOf_inRange hm]

end

/-- Settles O45: the tests in their order, then the mask changed (`withMask`) and its source sampled where it is cleared. -/
theorem alertMaskChangesOneMask : Obligations.AlertMaskChangesOneMask := by
  intro d a s hr hk c u
  refine ⟨fun hout => exec_refused rfl hr hk (alertMaskWork_range hout), fun x hx hm => ?_⟩
  intro v changed
  have hwork := alertMaskWork_inRange (u := u) hx hm
  refine ⟨fun hbusy => exec_refused rfl hr hk (hwork.trans (if_pos hbusy)), fun hsave hsame => ?same,
    fun hsave hdiffers => ?changes⟩
  case same =>
    exact exec_accepted rfl hr hk ((hwork.trans (if_neg (Bool.eq_false_iff.mp hsave))).trans (if_pos hsame))
  case changes =>
    have hexec := exec_accepted rfl hr hk
      ((hwork.trans (if_neg (Bool.eq_false_iff.mp hsave))).trans (if_neg hdiffers))
    have hmasks : changed.alerts.masks = u.alerts.masks.put x v := withMask_masks x v u
    refine ⟨withMask_notCurrent x v u hdiffers, fun y hy => ?_, ?_, fun hkept => ?_, fun l hclear hlevel => ?_⟩
    · rw [hmasks, AlertMasks.get_put, if_neg hy]
    · rw [hmasks, AlertMasks.get_put, if_pos rfl]
    · rw [changeMask_unsampled x v u hkept] at hexec
      exact hexec
    · rw [changeMask_sampled x v u hlevel hclear] at hexec
      exact hexec

/-! ### ATTN_ENABLE (R158, R159) -/

/-- Only an image that was CURRENT gives a notice of a change of stored content (R181). -/
theorem noteChange_notices_of_notCurrent {c : StoredContent} {t : State} (h : t.image.state ≠ .current) :
    (State.noteChange c t).outbox.notices = t.outbox.notices := by
  unfold State.noteChange
  split
  · rfl
  · unfold State.markChanged
    split
    · rename_i hcurrent; exact absurd hcurrent h
    all_goals rfl

/-- The attention enable written, with the Image Store's act. -/
def withAttn (v : Bool) (u : State) : State := u.changing fun t => t.setAttn v

section
variable (v : Bool) (u : State)

theorem withAttn_standing : (withAttn v u).standing = { u.standing with attnEnable := v } :=
  (noteChange_works _ _).standing

/-- Writing the value that stands changes nothing. -/
theorem withAttn_same (h : u.outbox.attnEnable = v) : withAttn v u = u := by
  have hset : u.setAttn v = u := by subst h; rfl
  have hnote : withAttn v u = State.noteChange u.storedContent (u.setAttn v) := rfl
  rw [hnote, hset]
  exact if_pos rfl

theorem withAttn_directives : (withAttn v u).outbox.directives = u.outbox.directives := noteChange_directives _ _

theorem withAttn_notices (h : u.image.state ≠ .current) : (withAttn v u).outbox.notices = u.outbox.notices :=
  noteChange_notices_of_notCurrent (t := u.setAttn v) h

end

/-- While the part runs, the line stands exactly when attention is enabled and an item waits (R158). -/
theorem attention_iff {t : State} (hr : t.running = true) : t.attention = true ↔
    t.outbox.attnEnable = true ∧ (t.outbox.directives ≠ [] ∨ t.outbox.notices ≠ []) := by
  rw [State.attention, hr]
  simp only [Bool.true_and, Bool.and_eq_true, Bool.or_eq_true, Bool.not_eq_true', List.isEmpty_eq_false_iff, ne_eq]

theorem arrive_running (i : Instr) (d : Dest) (s : State) : (arrive i d s).running = s.running := by
  have hsame : (arrived i d s).running = s.running := by unfold arrived; split <;> rfl
  exact (arrive_works i d s).running.trans hsame

section
variable {b : Byte} {u : State}

theorem attnEnableWork_range (h : 1 < b.toNat) : attnEnableWork b u = refuse u .range := by
  rw [attnEnableWork, flagOf_eq_none h]

theorem attnEnableWork_inRange (h : b.toNat ≤ 1) :
    let v := decide (b = 1)
    attnEnableWork b u = if u.saving = true then refuse u .busy
      else accept (withAttn v u)
        (.attnEnable v (withAttn v u).outbox.directives.length (withAttn v u).outbox.notices.length) := by
  rw [attnEnableWork, flagOf_inRange h]
  rfl

end

/-- Settles O46: the tests in their order, then the enable written (`withAttn`). -/
theorem attnEnableDrivesTheLine : Obligations.AttnEnableDrivesTheLine := by
  intro d b s hr hk c u v counted
  refine ⟨fun hout => exec_refused rfl hr hk (attnEnableWork_range hout), fun hin hbusy =>
    exec_refused rfl hr hk ((attnEnableWork_inRange hin).trans (if_pos hbusy)), fun hin hsave => ?_⟩
  have hcounted : counted (withAttn v u) := exec_accepted rfl hr hk
    ((attnEnableWork_inRange hin).trans (if_neg (Bool.eq_false_iff.mp hsave)))
  have hstanding := withAttn_standing v u
  have henabled : (withAttn v u).outbox.attnEnable = v := congrArg Standing.attnEnable hstanding
  have hrunning : (withAttn v u).running = true :=
    (noteChange_works _ _).running.trans ((arrive_running c d s).trans hr)
  refine ⟨fun hsame => withAttn_same v u hsame ▸ hcounted, hcounted, hstanding, withAttn_directives v u,
    withAttn_notices v u, (attention_iff hrunning).trans (and_congr_left' ?_)⟩
  rw [henabled]
  exact decide_eq_true_iff

end Sys2Proof.Machine

/-! PROOFS. Starting and stopping the part (R167, R178, R184, R186), and QUERY (R175). -/

namespace Sys2Proof.Machine

/-! ### The state after power-on (R178) -/

/-- The one notice that waits after power-on is STORE_STALE's, and its source is in service (R166). -/
theorem reset_queuesOk : QueuesOk State.reset :=
  ⟨by decide, by decide, fun l => by cases l <;> decide, fun t => by cases t <;> decide⟩

theorem reset_inBounds : InBounds State.reset where
  present := Nat.zero_le _
  settings := defaults_contentOk.1
  services := defaults_contentOk.2.1
  requests := defaults_contentOk.2.2
  entries := ⟨List.Pairwise.nil, fun _ h => absurd h List.not_mem_nil⟩
  flash := trivial
  capture := trivial
  dropAddress := by decide

/-- Settles O54: the tables are empty and STORE_STALE alone is true, unmasked and in service. -/
theorem resetMeetsTheInvariants : Obligations.ResetMeetsTheInvariants :=
  ⟨reset_inBounds, empty_numbersOk rfl rfl, ⟨by decide, by decide, by decide⟩, reset_queuesOk, ⟨rfl, rfl, rfl⟩,
    fun _ l => by cases l <;> decide, fun _ => ⟨rfl, rfl, rfl⟩, rfl⟩

/-! ### Starting (R167, R178, R186) -/

theorem dropOf_own {p : Straps} (h : 1 ≤ p.address.toNat ∧ p.address.toNat ≤ 14) : dropOf p = p.address.toNat :=
  if_neg (by omega)

theorem dropOf_spare {p : Straps} (h : p.address.toNat = 0 ∨ p.address.toNat = 15) : dropOf p = 14 := if_pos h

/-- A source whose condition is false queues nothing (R162). -/
theorem sample_of_condition {s : State} {l : LevelSource} (h : s.alerts.condition l = false) : s.sample l = s := by
  rw [State.sample, if_neg]
  simp [State.samplingQueues, h]

/-- The loaded stored content of an image, the rest of the part blank (R186). -/
theorem start_image {s : State} {i : Image} (h : s.image.flash = some i) (p : Straps) :
    s.start p = { State.reset with
      pending := s.pending
      settings := i.content.settings
      services := i.content.services
      tunerA := ⟨i.content.tunerA.enabled, i.content.tunerA.mask, none⟩
      tunerB := ⟨i.content.tunerB.enabled, i.content.tunerB.mask, none⟩
      requests := i.content.requests
      panel := ⟨0, i.content.staged⟩
      outbox := ⟨[], [], 0, i.content.attnEnable⟩
      alerts := ⟨i.content.masks, LevelFlags.clear, 0, 0, false, false, .current⟩
      image := ⟨.current, false, .none, i.savedAt, some i, none⟩
      line := ⟨dropOf p, rateOf p, .idle, none⟩ } := by
  simp only [State.start, State.loadImage, State.blank, h, State.sampleAll]
  rw [sample_of_condition (l := .clashPresent) rfl, sample_of_condition (l := .spaceShort) rfl,
    sample_of_condition (l := .capacity) rfl, sample_of_condition (l := .storeStale) rfl]
  rfl

theorem start_defaults {s : State} (h : s.image.flash = none) (p : Straps) :
    s.start p = { State.reset with pending := s.pending, line := ⟨dropOf p, rateOf p, .idle, none⟩ } := by
  simp only [State.start, State.loadImage, State.blank, h]
  rfl

section
variable {p : Straps} {s : State}

theorem exec_powerOn_high (h : s.resetLow = false) : exec (.powerOn p) s = .next (s.start p) :=
  congrArg Host.Outcome.next (if_neg (by rw [h]; decide))

theorem exec_powerOn_low (h : s.resetLow = true) : exec (.powerOn p) s = .next (s.blank true true) :=
  congrArg Host.Outcome.next (if_pos h)

theorem exec_release_powered (h : s.resetLow = true) (hp : s.powered = true) :
    exec (.resetPin (.release p)) s = .next (s.start p) :=
  congrArg Host.Outcome.next ((if_pos h).trans (if_pos hp))

theorem exec_release_unpowered (h : s.resetLow = true) (hp : s.powered = false) :
    exec (.resetPin (.release p)) s = .next (s.blank false false) :=
  congrArg Host.Outcome.next ((if_pos h).trans (if_neg (by rw [hp]; decide)))

theorem exec_release_high (h : s.resetLow = false) : exec (.resetPin (.release p)) s = .next s :=
  congrArg Host.Outcome.next (if_neg (by rw [h]; decide))

end

/-- Settles O7: both ways of starting are one `State.start`, which loads the image or the defaults. -/
theorem startLoadsTheImage : Obligations.StartLoadsTheImage := by
  refine ⟨fun p => ⟨dropOf_own, dropOf_spare, fun h => if_neg (by rw [h]; decide), fun h => if_pos h⟩,
    fun p s => ⟨fun h => ?_, fun i h => ?_⟩, fun p s => ⟨exec_release_high, fun h => ?_, fun h hp => ?_⟩⟩
  · rw [← start_defaults h p]
    exact ⟨exec_powerOn_high, exec_release_powered⟩
  · intro c t
    have ht : t = s.start p := (start_image h p).symm
    rw [ht]
    exact ⟨exec_powerOn_high, exec_release_powered⟩
  · exact ⟨_, exec_powerOn_low h, rfl, rfl, rfl, rfl⟩
  · exact ⟨_, exec_release_unpowered h hp, rfl, rfl, rfl, rfl⟩

/-! ### Stopping (R167, R184) -/

/-- Settles O8: either stop leaves the part blank, without supply or with RESET_N low. -/
theorem powerAndPinStopThePart : Obligations.PowerAndPinStopThePart := by
  have hblank : ∀ (s : State) {powered resetLow : Bool}, (powered && !resetLow) = false →
      (s.blank powered resetLow).running = false ∧ (s.blank powered resetLow).attention = false := fun s _ _ h =>
    ⟨h, by rw [State.attention]; exact (congrArg (fun r => r && _ && _) h)⟩
  intro s c hc
  rcases List.mem_pair.mp hc with rfl | rfl
  · obtain ⟨hrun, hattn⟩ := hblank s (powered := false) (resetLow := s.resetLow) rfl
    exact ⟨_, rfl, hrun, hattn, rfl, rfl, rfl, rfl, rfl, rfl, rfl, rfl, rfl, rfl⟩
  · obtain ⟨hrun, hattn⟩ := hblank s (powered := s.powered) (resetLow := true) (Bool.and_false _)
    exact ⟨_, rfl, hrun, hattn, rfl, rfl, rfl, rfl, rfl, rfl, rfl, rfl, rfl, rfl⟩

/-! ### QUERY (R175) -/

/-- Settles O16: the report is of the state that arrived; only an answered QUERY clears the lost-notice count. -/
theorem queryReportsAndClearsLost : Obligations.QueryReportsAndClearsLost := by
  refine ⟨fun s hr hk => ⟨exec_accepted rfl hr hk rfl, ?_⟩, fun _ => rfl⟩
  exact exec_accepted (i := .query .broadcast (.fields ())) (owner := queryWork .broadcast) rfl hr hk rfl

end Sys2Proof.Machine

/-! PROOFS. The Line Interface (R168 to R172): what characters do, a message's characters, and how a message arrives. -/

namespace Sys2Proof.Machine

/-! ### One character (R168, R169) -/

/-- A character changes the state of the Line Interface alone. -/
theorem char_state (l : LineInterface) (c : LineChar) : ∃ st, l.char c = { l with state := st } := by
  unfold LineInterface.char
  split
  · exact ⟨l.state, rfl⟩
  · split
    · split
      · exact ⟨_, rfl⟩
      · exact ⟨_, rfl⟩
    · split
      · exact ⟨_, rfl⟩
      · exact ⟨l.state, rfl⟩

theorem assemble_ne_replying (d : Dest) (got : List Byte) : assemble d got ≠ .replying := by
  unfold assemble
  split
  · simp
  · split
    · simp
    · split
      · simp
      · split <;> simp

/-- A character that completes no message leaves the part taking characters. -/
theorem char_takes {l : LineInterface} (h : l.state.takes = true) (c : LineChar) :
    (∃ d k p x, (l.char c).state = .working d k p x) ∨ (l.char c).state.takes = true := by
  unfold LineInterface.char
  split
  · exact .inr h
  · split
    · split
      · exact .inr rfl
      · exact .inr rfl
    · split
      · rename_i d got _
        generalize hst : assemble d (got ++ [c.value]) = st
        cases st with
        | working d k p x => exact .inl ⟨d, k, p, x, rfl⟩
        | replying => exact absurd hst (assemble_ne_replying _ _)
        | idle => exact .inr rfl
        | assembling d got => exact .inr rfl
        | skipping => exact .inr rfl
      · exact .inr h

/-- A lead changes the state of the Line Interface alone, which goes on taking characters (log entry 13). -/
theorem lead_state {l : LineInterface} (h : l.state.takes = true) (cs : List LineChar) :
    ∃ st : LineState, l.lead cs = { l with state := st } ∧ st.takes = true := by
  induction cs generalizing l with
  | nil => exact ⟨l.state, rfl, h⟩
  | cons c cs ih =>
    by_cases hw : ∃ d k p x, (l.char c).state = .working d k p x
    · obtain ⟨d, k, p, x, hw⟩ := hw
      have hpassed : l.lead (c :: cs) = l.lead cs := by
        simp only [LineInterface.lead, List.foldl_cons, hw]
      rw [hpassed]
      exact ih h
    · have hkept : l.lead (c :: cs) = (l.char c).lead cs := by
        simp only [LineInterface.lead, List.foldl_cons]
        congr 1
        split
        · rename_i d k p x heq
          exact absurd ⟨d, k, p, x, heq⟩ hw
        · rfl
      obtain ⟨st, hst, htakes⟩ := ih ((char_takes h c).resolve_left hw)
      obtain ⟨st', hchar⟩ := char_state l c
      exact ⟨st, by rw [hkept, hst, hchar], htakes⟩

theorem char_selected {l : LineInterface} (h : l.state.takes = true) {v : Byte} {d : Dest}
    (hv : selects l.dropAddress v = some d) : l.char (addressChar v) = { l with state := .assembling d [] } := by
  simp [LineInterface.char, addressChar, h, hv]

theorem char_deselected {l : LineInterface} (h : l.state.takes = true) {v : Byte}
    (hv : selects l.dropAddress v = none) : l.char (addressChar v) = { l with state := .idle } := by
  simp [LineInterface.char, addressChar, h, hv]

theorem char_data {l : LineInterface} {d : Dest} {got : List Byte} (h : l.state = .assembling d got) (v : Byte) :
    l.char (dataChar v) = { l with state := assemble d (got ++ [v]) } := by
  simp [LineInterface.char, dataChar, h, LineState.takes]

theorem chars_cons (l : LineInterface) (c : LineChar) (cs : List LineChar) : l.chars (c :: cs) = (l.char c).chars cs := rfl

theorem chars_append (l : LineInterface) (cs ds : List LineChar) : l.chars (cs ++ ds) = (l.chars cs).chars ds :=
  List.foldl_append

/-! ### Selection (R169) -/

theorem selects_none {n : Nat} {v : Byte} (hown : v.toNat ≠ n) (hall : v ≠ 15) : selects n v = none := by
  rw [selects, if_neg hown, if_neg hall]

/-- A drop is selected by its own address and by 15 (R169). -/
theorem selects_addressOf {l : LineInterface} (hlo : 1 ≤ l.dropAddress) (hhi : l.dropAddress ≤ 14) (d : Dest) :
    selects l.dropAddress (l.addressOf d) = some d := by
  cases d with
  | own =>
    have hown : (BitVec.ofNat 8 l.dropAddress).toNat = l.dropAddress := by
      rw [BitVec.toNat_ofNat]; omega
    exact if_pos hown
  | broadcast =>
    have hother : (15 : Byte).toNat ≠ l.dropAddress := by
      have : (15 : Byte).toNat = 15 := rfl
      omega
    exact (if_neg hother).trans (if_pos rfl)

/-! ### The line's own events (R169, R170, R172) -/

theorem onLine_of_running {s : State} (h : s.running = true) (f : LineInterface → LineInterface) :
    s.onLine f = { s with line := f s.line } := if_pos h

theorem gap_state {l : LineInterface} (h : l.state.takes = true) :
    ∃ st : LineState, (st = .idle ∨ st = .skipping) ∧ l.gap = { l with state := st } := by
  obtain ⟨n, r, st, x⟩ := l
  cases st with
  | idle => exact ⟨.idle, .inl rfl, rfl⟩
  | assembling d got => exact ⟨.idle, .inl rfl, rfl⟩
  | skipping => exact ⟨.skipping, .inr rfl, rfl⟩
  | working d k p x => cases h
  | replying => cases h

theorem frameChars_selected {l : LineInterface} (h : l.state.takes = true) (hlo : 1 ≤ l.dropAddress)
    (hhi : l.dropAddress ≤ 14) (d : Dest) (data : List Byte) :
    l.chars (l.frameChars d data)
      = LineInterface.chars { l with state := .assembling d [] } (data.map dataChar) := by
  rw [LineInterface.frameChars, chars_cons, char_selected h (selects_addressOf hlo hhi d)]

/-- Settles O3: of the characters of no message, each changes the state of the Line Interface alone. -/
theorem lineEventsTouchTheLineAlone : Obligations.LineEventsTouchTheLineAlone := by
  intro s hr hlo hhi
  refine ⟨fun h lead address hown hall => ?_, fun h d len hlen => ?_, fun h lead => ?_, fun d got h => ?_, fun h => ?_⟩
  · obtain ⟨st, hlead, htakes⟩ := lead_state h lead
    have hchar := char_deselected (l := { s.line with state := st }) htakes (selects_none hown hall)
    refine congrArg Host.Outcome.next ((onLine_of_running hr _).trans ?_)
    rw [hlead, hchar]
  · have hskip : assemble d ([] ++ [len]) = .skipping := if_pos hlen
    refine congrArg Host.Outcome.next ((onLine_of_running hr _).trans ?_)
    rw [frameChars_selected h hlo hhi, List.map_singleton, chars_cons, char_data rfl, hskip]
    rfl
  · obtain ⟨st, hlead, htakes⟩ := lead_state h lead
    obtain ⟨st', hst', hgap⟩ := gap_state (l := { s.line with state := st }) htakes
    refine ⟨st', hst', congrArg Host.Outcome.next ((onLine_of_running hr _).trans ?_)⟩
    rw [hlead, hgap]
  · refine congrArg Host.Outcome.next ((onLine_of_running hr _).trans ?_)
    simp only [LineInterface.lead, List.foldl_nil, LineInterface.gap, h]
  · refine congrArg Host.Outcome.next ((onLine_of_running hr _).trans ?_)
    simp only [LineInterface.sent, h]

/-! ### The characters of a message (R170) -/

/-- A message of LEN `len` has `len + 1` characters after LEN; with fewer the Line Interface goes on assembling. -/
theorem assemble_incomplete {len : Byte} (hlen : ¬ (len = 0 ∨ Config.maxLen < len.toNat)) (d : Dest) {got : List Byte}
    (h : got.length < len.toNat + 1) : assemble d (len :: got) = .assembling d (len :: got) := by
  cases got with
  | nil => exact if_neg hlen
  | cons kind q => exact (if_neg hlen).trans (if_pos (by simpa using h))

theorem assemble_complete {len : Byte} (hlen : ¬ (len = 0 ∨ Config.maxLen < len.toNat)) (d : Dest) (kind check : Byte)
    {p : List Byte} (h : p.length + 1 = len.toNat) :
    assemble d (len :: kind :: p ++ [check]) = .working d kind p check := by
  have hfull : ¬ (p ++ [check]).length < len.toNat := by
    rw [List.length_append, List.length_singleton]; omega
  simp only [assemble, List.cons_append, if_neg hlen, if_neg hfull, List.dropLast_concat, List.getLastD_concat]

theorem chars_assembling {l : LineInterface} {len : Byte} (hlen : ¬ (len = 0 ∨ Config.maxLen < len.toNat)) {d : Dest}
    {got : List Byte} (hl : l.state = .assembling d (len :: got)) (bs : List Byte)
    (h : (got ++ bs).length < len.toNat + 1) :
    l.chars (bs.map dataChar) = { l with state := .assembling d (len :: got ++ bs) } := by
  induction bs generalizing l got with
  | nil => rw [List.append_nil, ← hl]; rfl
  | cons b bs ih =>
    have hnow : (got ++ [b]).length < len.toNat + 1 := by
      simp only [List.length_append, List.length_cons, List.length_nil] at h ⊢; omega
    have hchar : l.char (dataChar b) = { l with state := .assembling d (len :: (got ++ [b])) } := by
      rw [char_data hl, List.cons_append, assemble_incomplete hlen d hnow]
    have hrest := ih (l := { l with state := .assembling d (len :: (got ++ [b])) }) (got := got ++ [b]) rfl
      (by simpa using h)
    rw [List.map_cons, chars_cons, hchar, hrest, List.cons_append, List.append_assoc]
    rfl

/-! ### The frame of a message command (R170, R171) -/

/-- A message command's payload has room in a message (R170). -/
theorem payloadFits (i : Instr) : Laws.PayloadFits.Statement i := by
  open Laws in
  cases i with
  | unknownKindMessage d k p => exact PayloadFits.unknownKindMessage d k p
  | badCheckMessage d k p c => exact PayloadFits.badCheckMessage d k p c
  | greet d b => exact PayloadFits.greet d b
  | rest d b => exact PayloadFits.rest d b
  | clock d b => exact PayloadFits.clock d b
  | query d b => exact PayloadFits.query d b
  | paramSet d b => exact PayloadFits.paramSet d b
  | paramGet d b => exact PayloadFits.paramGet d b
  | reset d b => exact PayloadFits.reset d b
  | svcPut d b => exact PayloadFits.svcPut d b
  | svcDrop d b => exact PayloadFits.svcDrop d b
  | svcRead d b => exact PayloadFits.svcRead d b
  | tunerCfg d b => exact PayloadFits.tunerCfg d b
  | viewOn d b => exact PayloadFits.viewOn d b
  | viewOff d b => exact PayloadFits.viewOff d b
  | guideOpen d b => exact PayloadFits.guideOpen d b
  | guidePut d b => exact PayloadFits.guidePut d b
  | guideFlush d b => exact PayloadFits.guideFlush d b
  | running d b => exact PayloadFits.running d b
  | reqAdd d b => exact PayloadFits.reqAdd d b
  | reqEdit d b => exact PayloadFits.reqEdit d b
  | reqDrop d b => exact PayloadFits.reqDrop d b
  | reqPause d b => exact PayloadFits.reqPause d b
  | reqResume d b => exact PayloadFits.reqResume d b
  | reqRead d b => exact PayloadFits.reqRead d b
  | bookRead d b => exact PayloadFits.bookRead d b
  | bookCancel d b => exact PayloadFits.bookCancel d b
  | bookStop d b => exact PayloadFits.bookStop d b
  | space d b => exact PayloadFits.space d b
  | hold d b => exact PayloadFits.hold d b
  | take d b => exact PayloadFits.take d b
  | confirm d b => exact PayloadFits.confirm d b
  | alertAck d b => exact PayloadFits.alertAck d b
  | alertMask d b => exact PayloadFits.alertMask d b
  | attnEnable d b => exact PayloadFits.attnEnable d b
  | panelStage d b => exact PayloadFits.panelStage d b
  | panelSet d b => exact PayloadFits.panelSet d b
  | storeSave d b => exact PayloadFits.storeSave d b
  | storeQuery d b => exact PayloadFits.storeQuery d b
  | _ => exact fun _ _ _ hp => nomatch hp

/-- The data characters of a message command are LEN, its kind, its payload and its check. -/
theorem encodeFrame_eq {i : Instr} {d : Dest} {data : List Byte} (h : encodeFrame i = some (d, data)) :
    payloadOf i = some (d, payloadBytes i) ∧ kindOf i = some (kindByte i)
      ∧ data = lenOf (payloadBytes i) :: kindByte i :: payloadBytes i ++ [checkByte i] := by
  unfold encodeFrame at h
  split at h
  · rename_i d' p kind hp hk
    have hbytes : payloadBytes i = p := by rw [payloadBytes, hp]
    have hkind : kindByte i = kind := by rw [kindByte, hk]; rfl
    cases h
    refine ⟨by rw [hbytes, hp], by rw [hkind, hk], ?_⟩
    subst hbytes hkind
    unfold checkByte
    rfl
  · cases h

theorem lenOf_toNat {p : List Byte} (h : p.length ≤ 64) : (lenOf p).toNat = p.length + 1 := by
  rw [lenOf, BitVec.toNat_ofNat]; omega

/-- The LEN of a payload that fits is no impossible one (R170). -/
theorem lenOf_possible {p : List Byte} (h : p.length ≤ 64) :
    ¬ (lenOf p = 0 ∨ Config.maxLen < (lenOf p).toNat) := by
  have hlen := lenOf_toNat h
  rintro (hzero | hlong)
  · rw [hzero] at hlen; exact absurd hlen (Nat.succ_ne_zero _).symm
  · rw [hlen, Config.maxLen] at hlong; omega

/-- Settles O6: LEN and all but the last of what follows leave the Line Interface assembling; the check completes the
message. -/
theorem frameReachesWorking : Obligations.FrameReachesWorking := by
  intro i d data l hw henc htakes hlo hhi
  obtain ⟨hp, -, rfl⟩ := encodeFrame_eq henc
  generalize payloadBytes i = p at hp ⊢
  generalize kindByte i = kind
  generalize checkByte i = check
  have hfits : p.length ≤ 64 := (payloadFits i hw d p hp).1
  have hlen := lenOf_possible hfits
  have hcount := lenOf_toNat hfits
  have hpart := chars_assembling (l := { l with state := .assembling d [lenOf p] }) hlen rfl (kind :: p)
    (by simp only [List.nil_append, List.length_cons]; omega)
  have hfirst : assemble d ([] ++ [lenOf p]) = .assembling d [lenOf p] := assemble_incomplete hlen d (by simp)
  have hlast : assemble d ([lenOf p] ++ kind :: p ++ [check]) = .working d kind p check :=
    assemble_complete hlen d kind check hcount.symm
  rw [frameChars_selected htakes hlo hhi, List.map_append, chars_append, List.map_cons, chars_cons, char_data rfl, hfirst,
    hpart, List.map_singleton, chars_cons, char_data rfl, hlast]
  rfl

/-! ### A message's arrival (R171 step 2) -/

/-- The messages that spare an OPEN stream (R40). -/
theorem closesStream_eq_false_iff (c : Instr) : closesStream c = false ↔
    (∃ x b, c = .guidePut x b) ∨ (∃ x b, c = .guideOpen x b)
      ∨ (∃ x scope, (scope = 1 ∨ scope = 2) ∧ c = .reset x (.fields scope))
      ∨ ∃ x kind p check, c = .badCheckMessage x kind p check := by
  constructor
  · intro h
    unfold closesStream at h
    split at h
    · exact .inl ⟨_, _, rfl⟩
    · exact .inr (.inl ⟨_, _, rfl⟩)
    · rename_i x scope
      have hscope : scope = 1 ∨ scope = 2 := by simpa [-not_or, or_iff_not_imp_left] using h
      exact .inr (.inr (.inl ⟨x, scope, hscope, rfl⟩))
    · exact .inr (.inr (.inr ⟨_, _, _, _, rfl⟩))
    · cases h
  · rintro (⟨x, b, rfl⟩ | ⟨x, b, rfl⟩ | ⟨x, scope, rfl | rfl, rfl⟩ | ⟨x, kind, p, check, rfl⟩) <;> rfl

section
variable {c : Instr} {d : Dest} {s : State}

theorem arrive_sparing (h : closesStream c = false) : arrive c d s = startWork c d s := by
  simp only [arrive, h, Bool.false_eq_true, if_false]

theorem arrive_closing (h : closesStream c = true) : arrive c d s = closeStream (startWork c d s) := by
  simp only [arrive, h, if_true]

end

/-! ### Messages refused before they reach an owner (R171) -/

section
variable {α : Type} {i : Instr} {d : Dest} {p : List Byte} {owner : α → State → State × Answer} {s : State}

/-- A payload of a length the catalogue does not give is refused for it (R171 step 4). -/
theorem message_badLength (hr : s.running = true) (hk : s.line.state.takes = true) :
    message i d (.badLength p) owner s = (arrive i d s).answering d (.refused (kindByte i) .length []) := by
  simp only [message, hears_of hr hk, if_true, respond_pair, replyOf]

theorem exec_badLength (hr : s.running = true) (hk : s.line.state.takes = true) (h : hasBadLength i = true)
    (hp : payloadOf i = some (d, p)) :
    exec i s = .next ((arrive i d s).answering d (.refused (kindByte i) .length [])) := by
  unfold hasBadLength at h
  split at h
  case h_38 => cases h
  case h_7 =>
    rename_i q
    cases hp
    exact congrArg Host.Outcome.next (message_badLength (p := q) (owner := fun (_ : Byte) t => refuse t .range) hr hk)
  all_goals cases hp; exact congrArg Host.Outcome.next (message_badLength hr hk)

end

/-- Settles O4: a message spares the stream exactly when `closesStream` says so, and each refusal is that of `message`. -/
theorem messagesArriveOrAreRefused : Obligations.MessagesArriveOrAreRefused := by
  refine ⟨fun c d s => ?_, fun d s hr hk => ⟨fun kind p check => ?_, fun kind p => ?_, fun c kind p h hp hkind => ?_⟩⟩
  · intro w spares
    have hspares : closesStream c = false ↔ spares := closesStream_eq_false_iff c
    refine ⟨fun h => arrive_sparing (hspares.mpr h), fun h => ?_, arrive_closed c d⟩
    have hcloses : closesStream c = true := by simpa using hspares.not.mpr h
    have harrive : arrive c d s = closeStream w := arrive_closing hcloses
    exact ⟨harrive, harrive ▸ (closeStream_works w).standing⟩
  · have hrefused := exec_refused (i := .badCheckMessage d kind p check) (d := d) (a := ())
      (owner := fun _ t => refuse t .check) rfl hr hk rfl
    rw [hrefused, arrive_sparing rfl]
    cases d <;> rfl
  · exact exec_refused (i := .unknownKindMessage d kind p) (a := ()) (owner := fun _ t => refuse t .kind) rfl hr hk rfl
  · have hbyte : kindByte c = kind := by rw [kindByte, hkind]; rfl
    exact hbyte ▸ exec_badLength hr hk h hp

end Sys2Proof.Machine

/-! PROOFS. The messages' encoding (R170, R171, R179): each payload is read back from its bytes, and so is each command. -/

namespace Sys2Proof.Machine

/-! ### Fields and their bytes (R179) -/

@[simp] theorem word16_extract (w : Word16) : word16 (w.extractLsb' 8 8) (w.extractLsb' 0 8) = w :=
  (BitVec.extractLsb'_append_extractLsb'_eq_extractLsb' (show 8 = 0 + 8 from rfl)).trans BitVec.extractLsb'_eq_self

@[simp] theorem word24_extract (w : Word24) :
    word24 (w.extractLsb' 16 8) (w.extractLsb' 8 8) (w.extractLsb' 0 8) = w := by
  have hlow : w.extractLsb' 8 8 ++ w.extractLsb' 0 8 = w.extractLsb' 0 16 :=
    BitVec.extractLsb'_append_extractLsb'_eq_extractLsb' (show 8 = 0 + 8 from rfl)
  rw [word24, hlow]
  exact (BitVec.extractLsb'_append_extractLsb'_eq_extractLsb' (show 16 = 0 + 16 from rfl)).trans BitVec.extractLsb'_eq_self

@[simp] theorem word32_extract (w : Word32) :
    word32 (w.extractLsb' 24 8) (w.extractLsb' 16 8) (w.extractLsb' 8 8) (w.extractLsb' 0 8) = w := by
  have hlow : w.extractLsb' 8 8 ++ w.extractLsb' 0 8 = w.extractLsb' 0 16 :=
    BitVec.extractLsb'_append_extractLsb'_eq_extractLsb' (show 8 = 0 + 8 from rfl)
  have hhigh : w.extractLsb' 24 8 ++ w.extractLsb' 16 8 = w.extractLsb' 16 16 :=
    BitVec.extractLsb'_append_extractLsb'_eq_extractLsb' (show 24 = 16 + 8 from rfl)
  rw [word32, hlow, hhigh]
  exact (BitVec.extractLsb'_append_extractLsb'_eq_extractLsb' (show 16 = 0 + 16 from rfl)).trans BitVec.extractLsb'_eq_self

theorem flagByte_ne_zero (b : Bool) : (flagByte b != 0#8) = b := by cases b <;> rfl

/-! ### Payloads carried as fields -/

theorem decodeSvcPut_fields (a : SvcPutArgs) : decodeSvcPut
    (bytes16 a.channel ++ [a.network] ++ bytes16 a.multiplex ++ [a.rateClass]) = .fields a := by
  simp [bytes16, decodeSvcPut]

theorem decodeViewOn_fields (a : ViewOnArgs) : decodeViewOn (a.tuner :: bytes16 a.channel) = .fields a := by
  simp [bytes16, decodeViewOn]

theorem decodeGuideOpen_fields (a : GuideOpenArgs) : decodeGuideOpen
    (bytes16 a.first ++ bytes16 a.last ++ bytes32 a.start ++ bytes32 a.stop ++ [flagByte a.replace]) = .fields a := by
  simp [bytes16, bytes32, decodeGuideOpen, flagByte_ne_zero]

theorem decodeGuideFlush_range (f l : Word16) : decodeGuideFlush (bytes16 f ++ bytes16 l) = .fields (.range f l) := by
  simp [bytes16, decodeGuideFlush]

theorem decodeRunning_fields (a : RunningArgs) :
    decodeRunning (bytes16 a.channel ++ bytes16 a.eventId ++ [a.status]) = .fields a := by
  simp [bytes16, decodeRunning]

theorem decodeConfirm_fields (a : ConfirmArgs) : decodeConfirm (bytes16 a.booking ++ [a.code]) = .fields a := by
  simp [bytes16, decodeConfirm]

/-- A guide entry is read back from its 20 bytes; its presence byte says which ids it has. -/
theorem decodeEntry_encodeEntry (e : GuidePutEntry) (rest : List Byte) :
    decodeEntry (encodeEntry e ++ rest) = some (e, rest) := by
  obtain ⟨channel, eventId, start, duration, series, episode⟩ := e
  cases series with
  | none => cases episode <;> simp [encodeEntry, bytes16, bytes24, bytes32, decodeEntry]
  | some a => cases episode <;> simp [encodeEntry, bytes16, bytes24, bytes32, decodeEntry]

theorem decodeEntry_last (e : GuidePutEntry) : decodeEntry (encodeEntry e) = some (e, []) := by
  simpa using decodeEntry_encodeEntry e []

/-- The bytes of an entry are not none, so that the entry before it is not the last. -/
theorem encodeEntry_cons (e : GuidePutEntry) (rest : List Byte) : ∃ x xs, encodeEntry e ++ rest = x :: xs :=
  List.exists_cons_of_ne_nil (by simp [encodeEntry, bytes16])

theorem decodeGuidePut_fields (a : GuidePutArgs) : decodeGuidePut (encodeGuidePut (.fields a)) = .fields a := by
  cases a with
  | one e => simp [encodeGuidePut, GuidePutArgs.entries, decodeGuidePut, decodeEntry_last]
  | two e f =>
    obtain ⟨x, xs, hf⟩ := encodeEntry_cons f []
    have hsecond := decodeEntry_encodeEntry f []
    rw [hf] at hsecond
    simp only [encodeGuidePut, GuidePutArgs.entries, List.map_cons, List.map_nil, List.flatten_cons, List.flatten_nil,
      decodeGuidePut, decodeEntry_encodeEntry, hf, hsecond]
  | three e f g =>
    obtain ⟨y, ys, hg⟩ := encodeEntry_cons g []
    obtain ⟨x, xs, hf⟩ := encodeEntry_cons f (y :: ys)
    have hthird := decodeEntry_encodeEntry g []
    have hsecond := decodeEntry_encodeEntry f (y :: ys)
    rw [hg] at hthird
    rw [hf] at hsecond
    simp only [encodeGuidePut, GuidePutArgs.entries, List.map_cons, List.map_nil, List.flatten_cons, List.flatten_nil,
      decodeGuidePut, decodeEntry_encodeEntry, hg, hf, hsecond, hthird]

theorem not_requestKind {kind : Byte} (h : (!namesRequestKind kind) = true) :
    ¬ (kind == 1) = true ∧ ¬ (kind == 2) = true ∧ ¬ (kind == 3) = true := by
  simpa [namesRequestKind, and_assoc] using h

theorem decodeReqAdd_fields {a : ReqAddArgs} (h : reqAddOk (.fields a) = true) :
    decodeReqAdd (encodeReqAdd (.fields a)) = .fields a := by
  cases a with
  | timed c channel duration days start => simp [encodeReqAdd, encodeCommon, bytes16, bytes32, decodeReqAdd]
  | event c channel eventId => simp [encodeReqAdd, encodeCommon, bytes16, decodeReqAdd]
  | series c seriesId channel => simp [encodeReqAdd, encodeCommon, bytes16, bytes32, decodeReqAdd]
  | other kind rest =>
    rw [reqAddOk, Bool.and_eq_true] at h
    obtain ⟨htimed, hevent, hseries⟩ := not_requestKind h.2
    exact (if_neg htimed).trans ((if_neg hevent).trans (if_neg hseries))

theorem decodeReqEdit_fields {a : ReqEditArgs} (h : reqEditOk (.fields a) = true) :
    decodeReqEdit (encodeReqEdit (.fields a)) = .fields a := by
  obtain ⟨n, body⟩ := a
  cases body with
  | timed c duration days start => simp [encodeReqEdit, encodeCommon, bytes16, bytes32, decodeReqEdit]
  | event c => simp [encodeReqEdit, encodeCommon, bytes16, decodeReqEdit]
  | series c => simp [encodeReqEdit, encodeCommon, bytes16, decodeReqEdit]
  | other kind rest =>
    rw [reqEditOk, Bool.and_eq_true] at h
    obtain ⟨htimed, hevent, hseries⟩ := not_requestKind h.2
    exact (if_neg htimed).trans ((if_neg hevent).trans (if_neg hseries))

theorem decodeParamSet_fields {a : ParamSetArgs} (h : paramSetOk (.fields a) = true) :
    decodeParamSet (a.id :: a.value) = .fields a := by
  rw [paramSetOk, Bool.and_eq_true] at h
  exact if_pos h.2

/-! ### Payloads of a length the catalogue does not give -/

theorem badLength_not_mem (α : Type) {allowed : List Nat} {p : List Byte}
    (h : plainBodyOk (α := α) allowed (.badLength p) = true) : p.length ∉ allowed := by
  simp only [plainBodyOk, badLengthOk, Bool.and_eq_true, Bool.not_eq_true', List.contains_eq_mem,
    decide_eq_false_iff_not] at h
  exact h.2

section
variable {p : List Byte}

theorem decodeNone_badLength (h : p.length ∉ [0]) : decodeNone p = .badLength p := by
  unfold decodeNone
  split
  · exact absurd List.mem_cons_self h
  · rfl

theorem decodeByte_badLength (h : p.length ∉ [1]) : decodeByte p = .badLength p := by
  unfold decodeByte
  split
  · exact absurd List.mem_cons_self h
  · rfl

theorem decodeWord16_badLength (h : p.length ∉ [2]) : decodeWord16 p = .badLength p := by
  unfold decodeWord16
  split
  · exact absurd List.mem_cons_self h
  · rfl

theorem decodeWord32_badLength (h : p.length ∉ [4]) : decodeWord32 p = .badLength p := by
  unfold decodeWord32
  split
  · exact absurd List.mem_cons_self h
  · rfl

theorem decodeSvcPut_badLength (h : p.length ∉ [6]) : decodeSvcPut p = .badLength p := by
  unfold decodeSvcPut
  split
  · exact absurd List.mem_cons_self h
  · rfl

theorem decodeTunerCfg_badLength (h : p.length ∉ [3]) : decodeTunerCfg p = .badLength p := by
  unfold decodeTunerCfg
  split
  · exact absurd List.mem_cons_self h
  · rfl

theorem decodeViewOn_badLength (h : p.length ∉ [3]) : decodeViewOn p = .badLength p := by
  unfold decodeViewOn
  split
  · exact absurd List.mem_cons_self h
  · rfl

theorem decodeGuideOpen_badLength (h : p.length ∉ [13]) : decodeGuideOpen p = .badLength p := by
  unfold decodeGuideOpen
  split
  · exact absurd List.mem_cons_self h
  · rfl

theorem decodeGuideFlush_badLength (h : p.length ∉ [0, 4]) : decodeGuideFlush p = .badLength p := by
  unfold decodeGuideFlush
  split
  · exact absurd List.mem_cons_self h
  · exact absurd (List.mem_cons_of_mem _ List.mem_cons_self) h
  · rfl

theorem decodeRunning_badLength (h : p.length ∉ [5]) : decodeRunning p = .badLength p := by
  unfold decodeRunning
  split
  · exact absurd List.mem_cons_self h
  · rfl

theorem decodeReqRead_badLength (h : p.length ∉ [2]) : decodeReqRead p = .badLength p := by
  unfold decodeReqRead
  split
  · exact absurd List.mem_cons_self h
  · rfl

theorem decodeConfirm_badLength (h : p.length ∉ [3]) : decodeConfirm p = .badLength p := by
  unfold decodeConfirm
  split
  · exact absurd List.mem_cons_self h
  · rfl

theorem decodeAlertMask_badLength (h : p.length ∉ [2]) : decodeAlertMask p = .badLength p := by
  unfold decodeAlertMask
  split
  · exact absurd List.mem_cons_self h
  · rfl

theorem decodePanelStage_badLength (h : p.length ∉ [3]) : decodePanelStage p = .badLength p := by
  unfold decodePanelStage
  split
  · exact absurd List.mem_cons_self h
  · rfl

theorem decodeEntry_length {e : GuidePutEntry} {q : List Byte} (h : decodeEntry p = some (e, q)) :
    p.length = q.length + 20 := by
  unfold decodeEntry at h
  split at h
  · cases h; rfl
  · cases h

/-- Entries of 20 bytes each leave nothing over only at the catalogue's three lengths. -/
theorem decodeGuidePut_badLength (h : p.length ∉ [20, 40, 60]) : decodeGuidePut p = .badLength p := by
  simp only [List.mem_cons, List.not_mem_nil, or_false, not_or] at h
  obtain ⟨hone, htwo, hthree⟩ := h
  unfold decodeGuidePut
  split
  · rfl
  · rename_i hp
    exact absurd (decodeEntry_length hp) hone
  · rename_i e q _ hp
    have hq := decodeEntry_length hp
    split
    · rfl
    · rename_i hr
      have hlast := decodeEntry_length hr
      simp only [List.length_nil] at hlast
      omega
    · rename_i f r _ hr
      have hr' := decodeEntry_length hr
      split
      · rename_i hg
        have hlast := decodeEntry_length hg
        simp only [List.length_nil] at hlast
        omega
      · rfl

theorem decodeParamSet_badLength (h : paramSetOk (.badLength p) = true) : decodeParamSet p = .badLength p := by
  cases p with
  | nil => rfl
  | cons id v =>
    have hwidth : ¬ (settingWidth id == 0 || v.length == settingWidth id) = true := by
      simp only [paramSetOk, Bool.and_eq_true, bne_iff_ne] at h
      simp [h]
    exact if_neg hwidth

/-- With a kind byte that names a request kind, the length must be the kind's own (R171 step 4). -/
theorem decodeReqAdd_badLength (h : reqAddOk (.badLength p) = true) : decodeReqAdd p = .badLength p := by
  cases p with
  | nil => rfl
  | cons kind rest =>
    simp only [reqAddOk, Bool.and_eq_true, Bool.or_eq_true, beq_iff_eq, bne_iff_ne] at h
    simp only [decodeReqAdd, beq_iff_eq]
    split
    · rename_i hkind
      subst hkind
      split
      · simp at h
      · rfl
    · split
      · rename_i hkind
        subst hkind
        split
        · simp at h
        · rfl
      · split
        · rename_i hkind
          subst hkind
          split
          · simp at h
          · rfl
        · simp_all

theorem decodeReqEdit_badLength (h : reqEditOk (.badLength p) = true) : decodeReqEdit p = .badLength p := by
  match p with
  | [] => rfl
  | [_] => rfl
  | n :: kind :: rest =>
    simp only [reqEditOk, Bool.and_eq_true, Bool.or_eq_true, beq_iff_eq, bne_iff_ne] at h
    simp only [decodeReqEdit, beq_iff_eq]
    split
    · rename_i hkind
      subst hkind
      split
      · simp at h
      · rfl
    · split
      · rename_i hkind
        subst hkind
        split
        · simp at h
        · rfl
      · split
        · rename_i hkind
          subst hkind
          split
          · simp at h
          · rfl
        · simp_all

end

/-! ### Bodies -/

theorem decodeNone_encode {b : Body Unit} (h : plainBodyOk [0] b = true) : decodeNone (encodeNone b) = b := by
  cases b with
  | fields _ => rfl
  | badLength p => exact decodeNone_badLength (badLength_not_mem Unit h)

theorem decodeByte_encode {b : Body Byte} (h : plainBodyOk [1] b = true) : decodeByte (encodeByte b) = b := by
  cases b with
  | fields _ => rfl
  | badLength p => exact decodeByte_badLength (badLength_not_mem Byte h)

theorem decodeWord16_encode {b : Body Word16} (h : plainBodyOk [2] b = true) : decodeWord16 (encodeWord16 b) = b := by
  cases b with
  | fields w => exact congrArg Body.fields (word16_extract w)
  | badLength p => exact decodeWord16_badLength (badLength_not_mem Word16 h)

theorem decodeWord32_encode {b : Body Word32} (h : plainBodyOk [4] b = true) : decodeWord32 (encodeWord32 b) = b := by
  cases b with
  | fields w => exact congrArg Body.fields (word32_extract w)
  | badLength p => exact decodeWord32_badLength (badLength_not_mem Word32 h)

theorem decodeGuidePut_encode {b : Body GuidePutArgs} (h : plainBodyOk [20, 40, 60] b = true) :
    decodeGuidePut (encodeGuidePut b) = b := by
  cases b with
  | fields a => exact decodeGuidePut_fields a
  | badLength p => exact decodeGuidePut_badLength (badLength_not_mem GuidePutArgs h)

theorem decodeReqAdd_encode {b : Body ReqAddArgs} (h : reqAddOk b = true) : decodeReqAdd (encodeReqAdd b) = b := by
  cases b with
  | fields a => exact decodeReqAdd_fields h
  | badLength p => exact decodeReqAdd_badLength h

theorem decodeReqEdit_encode {b : Body ReqEditArgs} (h : reqEditOk b = true) : decodeReqEdit (encodeReqEdit b) = b := by
  cases b with
  | fields a => exact decodeReqEdit_fields h
  | badLength p => exact decodeReqEdit_badLength h

/-! ### Commands (R171 steps 3 and 4) -/

/-- A kind byte outside the catalogue spells no message of a known kind. -/
theorem decodeMessage_unknownKind {kind : Byte} (h : catalogueKinds.contains kind = false) (d : Dest) (p : List Byte) :
    decodeMessage d kind p = .unknownKindMessage d kind p := by
  have hkind : kind.toNat ∉ catalogueKinds.map BitVec.toNat := fun hmem => by
    rw [List.mem_map_of_injective fun _ _ => BitVec.eq_of_toNat_eq] at hmem
    rw [List.contains_iff_mem.mpr hmem] at h
    cases h
  unfold decodeMessage
  split
  case h_38 => rfl
  all_goals rename_i hk; exact absurd (hk ▸ by decide) hkind

/-- A message command with a good check is read back from its kind and payload. -/
theorem decodeMessage_payload {i : Instr} {d : Dest} {p : List Byte} {kind : Byte} (hw : i.wellFormed = true)
    (hp : payloadOf i = some (d, p)) (hk : kindOf i = some kind) (hc : ∀ d k q c, i ≠ .badCheckMessage d k q c) :
    decodeMessage d kind p = i := by
  cases i with
  | badCheckMessage d k q c => exact absurd rfl (hc d k q c)
  | unknownKindMessage d k q =>
    cases hp; cases hk
    simp only [Instr.wellFormed, Bool.and_eq_true, Bool.not_eq_true'] at hw
    exact decodeMessage_unknownKind hw.2 d p
  | greet d b => cases hp; cases hk; exact congrArg (Instr.greet d) (decodeNone_encode hw)
  | rest d b => cases hp; cases hk; exact congrArg (Instr.rest d) (decodeNone_encode hw)
  | clock d b => cases hp; cases hk; exact congrArg (Instr.clock d) (decodeWord32_encode hw)
  | query d b => cases hp; cases hk; exact congrArg (Instr.query d) (decodeNone_encode hw)
  | paramSet d b =>
    cases hk
    cases b with
    | fields a => cases hp; exact congrArg (Instr.paramSet d) (decodeParamSet_fields hw)
    | badLength q => cases hp; exact congrArg (Instr.paramSet d) (decodeParamSet_badLength hw)
  | paramGet d b => cases hp; cases hk; exact congrArg (Instr.paramGet d) (decodeByte_encode hw)
  | reset d b => cases hp; cases hk; exact congrArg (Instr.reset d) (decodeByte_encode hw)
  | svcPut d b =>
    cases hk
    cases b with
    | fields a => cases hp; exact congrArg (Instr.svcPut d) (decodeSvcPut_fields a)
    | badLength q => cases hp; exact congrArg (Instr.svcPut d) (decodeSvcPut_badLength (badLength_not_mem SvcPutArgs hw))
  | svcDrop d b => cases hp; cases hk; exact congrArg (Instr.svcDrop d) (decodeWord16_encode hw)
  | svcRead d b => cases hp; cases hk; exact congrArg (Instr.svcRead d) (decodeWord16_encode hw)
  | tunerCfg d b =>
    cases hk
    cases b with
    | fields a => cases hp; rfl
    | badLength q => cases hp; exact congrArg (Instr.tunerCfg d) (decodeTunerCfg_badLength (badLength_not_mem TunerCfgArgs hw))
  | viewOn d b =>
    cases hk
    cases b with
    | fields a => cases hp; exact congrArg (Instr.viewOn d) (decodeViewOn_fields a)
    | badLength q => cases hp; exact congrArg (Instr.viewOn d) (decodeViewOn_badLength (badLength_not_mem ViewOnArgs hw))
  | viewOff d b => cases hp; cases hk; exact congrArg (Instr.viewOff d) (decodeByte_encode hw)
  | guideOpen d b =>
    cases hk
    cases b with
    | fields a => cases hp; exact congrArg (Instr.guideOpen d) (decodeGuideOpen_fields a)
    | badLength q => cases hp; exact congrArg (Instr.guideOpen d) (decodeGuideOpen_badLength (badLength_not_mem GuideOpenArgs hw))
  | guidePut d b => cases hp; cases hk; exact congrArg (Instr.guidePut d) (decodeGuidePut_encode hw)
  | guideFlush d b =>
    cases hk
    cases b with
    | fields a =>
      cases a with
      | whole => cases hp; rfl
      | range f l => cases hp; exact congrArg (Instr.guideFlush d) (decodeGuideFlush_range f l)
    | badLength q => cases hp; exact congrArg (Instr.guideFlush d) (decodeGuideFlush_badLength (badLength_not_mem GuideFlushArgs hw))
  | running d b =>
    cases hk
    cases b with
    | fields a => cases hp; exact congrArg (Instr.running d) (decodeRunning_fields a)
    | badLength q => cases hp; exact congrArg (Instr.running d) (decodeRunning_badLength (badLength_not_mem RunningArgs hw))
  | reqAdd d b => cases hp; cases hk; exact congrArg (Instr.reqAdd d) (decodeReqAdd_encode hw)
  | reqEdit d b => cases hp; cases hk; exact congrArg (Instr.reqEdit d) (decodeReqEdit_encode hw)
  | reqDrop d b => cases hp; cases hk; exact congrArg (Instr.reqDrop d) (decodeByte_encode hw)
  | reqPause d b => cases hp; cases hk; exact congrArg (Instr.reqPause d) (decodeByte_encode hw)
  | reqResume d b => cases hp; cases hk; exact congrArg (Instr.reqResume d) (decodeByte_encode hw)
  | reqRead d b =>
    cases hk
    cases b with
    | fields a => cases hp; rfl
    | badLength q => cases hp; exact congrArg (Instr.reqRead d) (decodeReqRead_badLength (badLength_not_mem ReqReadArgs hw))
  | bookRead d b => cases hp; cases hk; exact congrArg (Instr.bookRead d) (decodeWord16_encode hw)
  | bookCancel d b => cases hp; cases hk; exact congrArg (Instr.bookCancel d) (decodeWord16_encode hw)
  | bookStop d b => cases hp; cases hk; exact congrArg (Instr.bookStop d) (decodeWord16_encode hw)
  | space d b => cases hp; cases hk; exact congrArg (Instr.space d) (decodeWord32_encode hw)
  | hold d b => cases hp; cases hk; exact congrArg (Instr.hold d) (decodeByte_encode hw)
  | take d b => cases hp; cases hk; exact congrArg (Instr.take d) (decodeNone_encode hw)
  | confirm d b =>
    cases hk
    cases b with
    | fields a => cases hp; exact congrArg (Instr.confirm d) (decodeConfirm_fields a)
    | badLength q => cases hp; exact congrArg (Instr.confirm d) (decodeConfirm_badLength (badLength_not_mem ConfirmArgs hw))
  | alertAck d b => cases hp; cases hk; exact congrArg (Instr.alertAck d) (decodeByte_encode hw)
  | alertMask d b =>
    cases hk
    cases b with
    | fields a => cases hp; rfl
    | badLength q => cases hp; exact congrArg (Instr.alertMask d) (decodeAlertMask_badLength (badLength_not_mem AlertMaskArgs hw))
  | attnEnable d b => cases hp; cases hk; exact congrArg (Instr.attnEnable d) (decodeByte_encode hw)
  | panelStage d b =>
    cases hk
    cases b with
    | fields a => cases hp; rfl
    | badLength q => cases hp; exact congrArg (Instr.panelStage d) (decodePanelStage_badLength (badLength_not_mem PanelStageArgs hw))
  | panelSet d b => cases hp; cases hk; exact congrArg (Instr.panelSet d) (decodeByte_encode hw)
  | storeSave d b => cases hp; cases hk; exact congrArg (Instr.storeSave d) (decodeNone_encode hw)
  | storeQuery d b => cases hp; cases hk; exact congrArg (Instr.storeQuery d) (decodeNone_encode hw)
  | _ => exact nomatch hp

theorem checkByte_good {i : Instr} (hc : ∀ d k q c, i ≠ .badCheckMessage d k q c) :
    checkByte i = checkOf (kindByte i) (payloadBytes i) := by
  unfold checkByte
  split
  · exact absurd rfl (hc _ _ _ _)
  · rfl

/-- The check tells a message with a bad one from all others (R171 step 1). -/
theorem decodeChecked_payload {i : Instr} {d : Dest} (hw : i.wellFormed = true)
    (hp : payloadOf i = some (d, payloadBytes i)) (hk : kindOf i = some (kindByte i)) :
    decodeChecked d (kindByte i) (payloadBytes i) (checkByte i) = i := by
  by_cases hc : ∃ d k q c, i = .badCheckMessage d k q c
  · obtain ⟨d', k, q, c, rfl⟩ := hc
    cases hp
    rw [Instr.wellFormed, Bool.and_eq_true, bne_iff_ne] at hw
    exact if_neg hw.2
  · have hgood : ∀ d k q c, i ≠ .badCheckMessage d k q c := fun d k q c h => hc ⟨d, k, q, c, h⟩
    exact (if_pos (checkByte_good hgood)).trans (decodeMessage_payload hw hp hk hgood)

/-- Settles O5: the LEN of a payload that fits gives the frame its length, and the payload is read back by its kind. -/
theorem decodeOfEncode : Obligations.DecodeOfEncode := by
  intro i d data hw henc
  obtain ⟨hp, hk, rfl⟩ := encodeFrame_eq henc
  have hfits := (payloadFits i hw d _ hp).1
  have hread : decodeChecked d (kindByte i) (payloadBytes i) (checkByte i) = i :=
    decodeChecked_payload hw hp hk
  have hcount : (payloadBytes i ++ [checkByte i]).length = (lenOf (payloadBytes i)).toNat := by
    rw [lenOf_toNat hfits, List.length_append, List.length_singleton]
  have hlen : ¬ (lenOf (payloadBytes i) = 0 ∨ 65 < (lenOf (payloadBytes i)).toNat) := lenOf_possible hfits
  simp only [decodeFrame, List.cons_append, if_neg hlen, if_pos hcount, List.getLast?_concat, List.dropLast_concat, hread]

end Sys2Proof.Machine

/-! PROOFS. PARAM_SET and PARAM_GET (R173, R174): the settings by id, a value accepted, and what each changed setting brings
(section 10.6). -/

namespace Sys2Proof.Machine

/-! ### The settings by id (section 10.6) -/

/-- A setting given the value it has stays as it is. -/
theorem put_get (set : Settings) (id : Nat) : set.put id (set.get id) = set := by
  have hlist : ∀ ns : List Nat, (ns.map Int.ofNat).map Int.toNat = ns := fun ns => by
    rw [List.map_map]; exact List.map_id' ns
  unfold Settings.put
  split
  case h_15 => exact congrArg (fun ns => { set with tierMap := ns }) (hlist _)
  case h_16 => exact congrArg (fun ns => { set with kindCeiling := ns }) (hlist _)
  case h_17 => exact congrArg (fun ns => { set with rateClass := ns }) (hlist _)
  case h_19 =>
    have hflag : (firstEntry [if set.strictSpace then (1 : Int) else 0] == 1) = set.strictSpace := by
      cases set.strictSpace <;> rfl
    exact congrArg (fun x => { set with strictSpace := x }) hflag
  all_goals rfl

/-- The ids that name a setting are 1 to 19 (R174). -/
theorem settingRow_eq_none {id : Nat} (h : id = 0 ∨ 19 < id) : settingRow id = none := by
  unfold settingRow
  split
  case h_20 => rfl
  all_goals omega

/-- A setting's width is that of its entries. -/
theorem settingRow_width {b : Byte} (hlo : 1 ≤ b.toNat) (hhi : b.toNat ≤ 19) :
    ∃ r, settingRow b.toNat = some r ∧ r.entries * r.bytes = settingWidth b := by
  unfold settingWidth
  generalize b.toNat = id at hlo hhi ⊢
  interval_cases id <;> exact ⟨_, rfl, rfl⟩

theorem bytesOfNat_length (w n : Nat) : (bytesOfNat w n).length = w := by
  induction w generalizing n with
  | zero => rfl
  | succ w ih => rw [bytesOfNat, List.length_append, ih]; rfl

theorem settingBytes_length {id : Nat} {r : SettingRow} (h : settingRow id = some r) (v : List Int) :
    (settingBytes id v).length = v.length * r.bytes := by
  simp only [settingBytes, h, List.length_flatten, List.map_map, Function.comp_def, bytesOfNat_length, List.map_const',
    List.sum_replicate, smul_eq_mul]

/-- A setting in range has its number of entries. -/
theorem get_length {set : Settings} (h : set.inRange = true) {id : Nat} {r : SettingRow} (hr : settingRow id = some r)
    (hlo : 1 ≤ id) (hhi : id ≤ 19) : (set.get id).length = r.entries := by
  have hok := (inRange_iff set).mp h (id - 1) (by omega)
  rw [Nat.sub_add_cancel hlo] at hok
  simp only [settingOk, hr, Bool.and_eq_true, beq_iff_eq] at hok
  exact hok.1

/-! ### PARAM_GET (R174) -/

theorem paramGetWork_noSetting {b : Byte} (h : settingRow b.toNat = none) (u : State) :
    paramGetWork b u = refuse u .range := by simp only [paramGetWork, h]

theorem paramGetWork_setting {b : Byte} {r : SettingRow} (h : settingRow b.toNat = some r) (u : State) :
    paramGetWork b u = accept u (.paramGet b.toNat (u.settings.get b.toNat)) := by simp only [paramGetWork, h]

/-- Settles O15: the rows of the table say which ids there are and how wide a value is. -/
theorem paramGetReports : Obligations.ParamGetReports := by
  refine ⟨fun d b s hr hk => ?_, fun set id other r v hrow hlen hadm =>
    ⟨get_put_same set hrow hlen hadm, get_put_other set v⟩⟩
  intro c u
  refine ⟨fun hout => exec_refused rfl hr hk (paramGetWork_noSetting (settingRow_eq_none hout) u), fun hlo hhi => ?_⟩
  obtain ⟨r, hrow, hwidth⟩ := settingRow_width hlo hhi
  have hset : u.settings = s.settings := arrive_settings c d s
  refine ⟨hset ▸ exec_accepted rfl hr hk (paramGetWork_setting hrow u), fun hin => ?_⟩
  rw [replyPayload, List.length_append, settingBytes_length hrow, get_length hin hrow hlo hhi, hwidth]
  rfl

/-! ### PARAM_SET's tests and its value (R173) -/

section
variable {r : SettingRow} {v : List Int}

theorem acceptedValue_admitted (he : r.enumeration = true) (h : r.admits v = true) : acceptedValue r v = some v :=
  (if_pos he).trans (if_pos h)

theorem acceptedValue_refused (he : r.enumeration = true) (h : r.admits v = false) : acceptedValue r v = none :=
  (if_pos he).trans (if_neg (by rw [h]; decide))

theorem acceptedValue_clamped (he : r.enumeration = false) : acceptedValue r v = some (r.clamp v) :=
  if_neg (by rw [he]; decide)

end

section
variable {a : ParamSetArgs} {u : State} {r : SettingRow}

theorem paramSetWork_saving (h : u.saving = true) : paramSetWork a u = refuse u .busy := if_pos h

theorem paramSetWork_noSetting (hs : u.saving = false) (h : settingRow a.id.toNat = none) :
    paramSetWork a u = refuse u .range := by
  simp only [paramSetWork, hs, h, Bool.false_eq_true, if_false]

theorem paramSetWork_outOfRange (hs : u.saving = false) (h : settingRow a.id.toNat = some r)
    (hv : acceptedValue r (r.decode a.value) = none) : paramSetWork a u = refuse u .range := by
  simp only [paramSetWork, hs, h, hv, Bool.false_eq_true, if_false]

theorem paramSetWork_accepted (hs : u.saving = false) (h : settingRow a.id.toNat = some r) {v : List Int}
    (hv : acceptedValue r (r.decode a.value) = some v) : paramSetWork a u = accept (setSetting a.id.toNat v u)
      (.paramSet a.id.toNat v (v != r.decode a.value) (u.settings.get a.id.toNat != v)) := by
  simp only [paramSetWork, hs, h, hv, Bool.false_eq_true, if_false]

/-- An accepted PARAM_SET: the reply tells whether the value was clamped and whether it changed. -/
theorem exec_paramSet {d : Dest} {s : State} (hr : s.running = true) (hk : s.line.state.takes = true)
    (hs : (arrive (.paramSet d (.fields a)) d s).saving = false) (h : settingRow a.id.toNat = some r) {v : List Int}
    (hv : acceptedValue r (r.decode a.value) = some v) : exec (.paramSet d (.fields a)) s
      = .next ((setSetting a.id.toNat v (arrive (.paramSet d (.fields a)) d s)).answering d (.accepted
        (.paramSet a.id.toNat v (v != r.decode a.value) (s.settings.get a.id.toNat != v)))) :=
  arrive_settings (.paramSet d (.fields a)) d s ▸ exec_accepted rfl hr hk (paramSetWork_accepted hs h hv)

end

/-! ### A setting replaced (R173, R181) -/

/-- A setting replaced, as a change of stored content. -/
def withSetting (id : Nat) (v : List Int) (u : State) : State :=
  State.noteChange u.storedContent { u with settings := u.settings.put id v }

section
variable {id : Nat} {v : List Int} {u : State}

theorem setSetting_same (h : u.settings.get id = v) : setSetting id v u = u := if_pos h

theorem setSetting_changed (h : u.settings.get id ≠ v) :
    setSetting id v u = settingEffect id u.settings (withSetting id v u) := if_neg h

theorem withSetting_standing (id : Nat) (v : List Int) (u : State) :
    (withSetting id v u).standing = { u.standing with settings := u.settings.put id v } :=
  (noteChange_works _ _).standing

/-- The change of stored content touches the queues, the alert table and the image besides the settings. -/
theorem withSetting_rest (id : Nat) (v : List Int) (u : State) :
    (withSetting id v u).plan = u.plan ∧ (withSetting id v u).requests = u.requests
      ∧ (withSetting id v u).guide = u.guide ∧ (withSetting id v u).host = u.host
      ∧ (withSetting id v u).tunerA = u.tunerA ∧ (withSetting id v u).tunerB = u.tunerB := by
  rw [withSetting, noteChange_eq]; exact ⟨rfl, rfl, rfl, rfl, rfl, rfl⟩

/-- No effect of a setting touches another setting, nor any other part that only a command of its own writes. -/
theorem setSetting_standing (id : Nat) (v : List Int) (u : State) :
    (setSetting id v u).standing = { u.standing with settings := u.settings.put id v } := by
  by_cases h : u.settings.get id = v
  · have hput : u.settings.put id v = u.settings := by rw [← h, put_get]
    rw [setSetting_same h, hput]
    rfl
  · rw [setSetting_changed h]
    exact (settingEffect_works _ _ _).standing.trans (withSetting_standing id v u)

/-- A CURRENT image no longer holds the stored content once a setting has another value (R181). -/
theorem withSetting_stale (h : u.settings.get id ≠ v) (hv : (u.settings.put id v).get id = v)
    (hi : u.image.state = .current) : (withSetting id v u).image.state = .stale := by
  have hchanged : ({ u with settings := u.settings.put id v } : State).storedContent ≠ u.storedContent := fun he =>
    h ((congrArg (fun c => c.settings.get id) he).symm.trans hv)
  rw [withSetting, State.noteChange, if_neg hchanged, State.markChanged]
  simp only [hi]
  rw [setImageState_eq]

end

/-! ### What a changed setting brings (section 10.6) -/

section
variable {id : Nat} {before : Settings} {s : State}

theorem settingEffect_replan (h : id ∈ [1, 2, 3]) : settingEffect id before s = settle (deriveAndPass s) := by
  simp only [List.mem_cons, List.not_mem_nil, or_false] at h
  rcases h with rfl | rfl | rfl <;> rfl

theorem settingEffect_overrun (h : id = 4) : settingEffect id before s = overrunChanged before.overrunLimit s := by
  subst h; rfl

theorem settingEffect_late (h : id = 5) : settingEffect id before s = lateChanged s := by subst h; rfl

theorem settingEffect_warn (h : id = 9) : settingEffect id before s = settle (rewarn .b (rewarn .a s)) := by
  subst h; rfl

theorem settingEffect_offset (h : id = 11) :
    settingEffect id before s = settle (recomputeWake (deriveAndPass s)) := by subst h; rfl

theorem settingEffect_pass (h : id ∈ [14, 15, 16]) : settingEffect id before s = settle (passIfSet s) := by
  simp only [List.mem_cons, List.not_mem_nil, or_false] at h
  rcases h with rfl | rfl | rfl <;> rfl

theorem settingEffect_space (h : id ∈ [17, 18]) : settingEffect id before s = spacePart s := by
  simp only [List.mem_cons, List.not_mem_nil, or_false] at h
  rcases h with rfl | rfl <;> rfl

theorem settingEffect_wake (h : id ∈ [6, 12, 13]) : settingEffect id before s = settle (recomputeWake s) := by
  simp only [List.mem_cons, List.not_mem_nil, or_false] at h
  rcases h with rfl | rfl | rfl <;> rfl

theorem settingEffect_none (h : id ∈ [7, 8, 10, 19]) : settingEffect id before s = s := by
  simp only [List.mem_cons, List.not_mem_nil, or_false] at h
  rcases h with rfl | rfl | rfl | rfl <;> rfl

end

/-! ### WARN_LEAD (R25) -/

/-- The warning expiry of a hold that has not been warned, for the WARN_LEAD in force. -/
def warnExpiryOf (set : Settings) (h : ViewerHold) : Option Nat :=
  if set.warnLead = 0 then none else h.yieldTime.map (fun y => y - set.warnLead)

/-- A tuner with the warning expiry of its hold formed afresh. -/
def rewarned (set : Settings) (k : Tuner) : Tuner := { k with hold := k.hold.map (fun h =>
  if h.yieldTime.isSome = true ∧ h.warned = false then { h with warnExpiry := warnExpiryOf set h } else h) }

/-- The warning that this makes due at once. -/
def warningsDue (s : State) (x : TunerId) (k : Tuner) : List Due :=
  match k.hold with
  | some h => if h.yieldTime.isSome = true ∧ h.warned = false
      ∧ (warnExpiryOf s.settings h).any (fun e => decide (e ≤ s.present)) = true then [.warning x] else []
  | none => []

theorem warnInstant_eq {h : ViewerHold} (hw : h.warned = false) (set : Settings) : warnInstant set h = warnExpiryOf set h := by
  unfold warnInstant warnExpiryOf
  by_cases hlead : set.warnLead = 0
  · cases h.yieldTime <;> simp [hlead]
  · cases h.yieldTime <;> simp [hw, hlead, Nat.pos_of_ne_zero hlead]

theorem withTuner_self (s : State) (x : TunerId) : s.withTuner x (s.tuner x) = s := by cases x <;> rfl

theorem withTuner_agenda_self (s : State) (x : TunerId) (k : Tuner) (hk : k = s.tuner x) :
    { s.withTuner x k with agenda := s.agenda ++ [] } = s := by
  rw [hk, withTuner_self, List.append_nil]

theorem setWarning_eq (s : State) (x : TunerId) (h : ViewerHold) : s.setWarning x h =
    { s.withTuner x { s.tuner x with hold := some { h with warnExpiry := warnInstant s.settings h } } with
      agenda := s.agenda ++ if (warnInstant s.settings h).any (fun e => decide (e ≤ s.present)) = true then [.warning x]
        else [] } := by
  unfold State.setWarning
  cases warnInstant s.settings h with
  | none => cases x <;> simp [State.withTuner]
  | some e =>
    by_cases he : e ≤ s.present
    · cases x <;> simp [State.withTuner, State.atOnce, he]
    · cases x <;> simp [State.withTuner, State.atOnce, he]

/-- A hold that has been warned, or that has no yield time, keeps its warning expiry (R25). -/
theorem rewarn_eq (x : TunerId) (s : State) : rewarn x s = { s.withTuner x (rewarned s.settings (s.tuner x)) with
    agenda := s.agenda ++ warningsDue s x (s.tuner x) } := by
  unfold rewarn warningsDue
  cases hhold : (s.tuner x).hold with
  | none =>
    have hkept : rewarned s.settings (s.tuner x) = s.tuner x := by
      unfold rewarned; rw [hhold]; exact congrArg (fun o => { s.tuner x with hold := o }) hhold.symm
    exact (withTuner_agenda_self s x _ hkept).symm
  | some h =>
    by_cases hopen : h.yieldTime.isSome = true ∧ h.warned = false
    · simp [rewarned, hhold, hopen, setWarning_eq, warnInstant_eq hopen.2]
    · have hkept : rewarned s.settings (s.tuner x) = s.tuner x := by
        unfold rewarned; rw [hhold, Option.map_some, if_neg hopen]
        exact congrArg (fun o => { s.tuner x with hold := o }) hhold.symm
      have hshut : ¬ (h.yieldTime.isSome && !h.warned) = true := by simpa using hopen
      simp only [if_neg hshut, if_neg fun hdue => hopen (And.imp_right And.left hdue)]
      exact (withTuner_agenda_self s x _ hkept).symm

/-- Tuner A's warning stands before tuner B's (log entry 7). -/
theorem rewarn_both (s : State) : rewarn .b (rewarn .a s) = { s with
    tunerA := rewarned s.settings s.tunerA
    tunerB := rewarned s.settings s.tunerB
    agenda := s.agenda ++ warningsDue s .a s.tunerA ++ warningsDue s .b s.tunerB } := by
  rw [rewarn_eq, rewarn_eq]; rfl

/-! ### LATE_LIMIT and OVERRUN_LIMIT (R118, R130) -/

theorem finishGroup_nil (ending : State → Booking → Option (Ending × Option Reason)) (s : State) :
    finishGroup ending [] s = s := rfl

/-- The bookings with their late limits and take deadlines formed afresh. -/
def relimited (s : State) : State := s.withBookings (s.plan.bookings.map (relimit s.settings))

theorem lateChanged_eq (s : State) : lateChanged s = settle (finishGroup reachedEnding
    (((relimited s).plan.bookings.filter (limitReached (relimited s))).map Booking.number) (relimited s)) := rfl

/-- The RECORDING bookings past their cap pulled down to it, or to the present. -/
def pulledDown (s : State) : State := s.withBookings (s.plan.bookings.map (pullDown s))

/-- The bookings pulled down to the present. -/
def pulledToPresent (s : State) : List Booking :=
  s.plan.bookings.filter (fun b => pastCap s b && decide (capOf s.settings b ≤ s.present))

theorem pastCap_iff (s : State) (b : Booking) :
    pastCap s b = true ↔ b.state = some .recording ∧ capOf s.settings b < b.provEnd := by
  rw [pastCap, Bool.and_eq_true, beq_iff_eq, decide_eq_true_iff]

theorem pullDown_eq (s : State) (b : Booking) : pullDown s b = if pastCap s b = true then { b with
    provEnd := max (capOf s.settings b) s.present
    provExpiry := some (max (capOf s.settings b) s.present)
    cut := some .limit } else b := by
  by_cases h : pastCap s b = true
  · exact (if_pos ((pastCap_iff s b).mp h)).trans (if_pos h).symm
  · exact (if_neg (mt (pastCap_iff s b).mpr h)).trans (if_neg h).symm

section
variable {before : Nat} {s : State}

theorem overrunLowered_iff : (decide (s.settings.overrunLimit < before) && s.plan.bookings.any (pastCap s)) = true ↔
    s.settings.overrunLimit < before ∧ ∃ b ∈ s.plan.bookings, pastCap s b = true := by
  rw [Bool.and_eq_true, decide_eq_true_iff, List.any_eq_true]

/-- Where no provisional end is lowered nothing happens (log entry 24). -/
theorem overrunChanged_kept (h : ¬ (s.settings.overrunLimit < before ∧ ∃ b ∈ s.plan.bookings, pastCap s b = true)) :
    overrunChanged before s = s := if_neg (mt overrunLowered_iff.mp h)

theorem overrunChanged_lowered (h : s.settings.overrunLimit < before ∧ ∃ b ∈ s.plan.bookings, pastCap s b = true) :
    overrunChanged before s = settle (passIfSet (settle (finishGroup pulledEnding
      ((pulledToPresent s).map Booking.number) (pulledDown s)))) := if_pos (overrunLowered_iff.mpr h)

end

/-! ### PARAM_SET (R173) -/

/-- The value that an admitted setting takes. -/
theorem acceptedValue_eq {r : SettingRow} {w : List Int} (h : r.enumeration = true → r.admits w = true) :
    acceptedValue r w = some (if r.enumeration = true then w else r.clamp w) := by
  cases he : r.enumeration with
  | true => exact (acceptedValue_admitted he (h he)).trans (congrArg some (if_pos rfl).symm)
  | false => exact (acceptedValue_clamped he).trans (congrArg some (if_neg Bool.false_ne_true).symm)

/-- Settles O14: the tests, then the setting replaced (`withSetting`), then the effect of its id on that state. -/
theorem paramSetReplacesOneSetting : Obligations.ParamSetReplacesOneSetting := by
  refine ⟨fun d a s hr hk => ?_, fun d a r s hfree hrow => ?_⟩
  · intro c u
    have hset : u.settings = s.settings := arrive_settings c d s
    refine ⟨fun hs => exec_refused rfl hr hk (paramSetWork_saving hs),
      fun hs hrow => exec_refused rfl hr hk (paramSetWork_noSetting hs hrow), fun r hrow hs => ⟨fun he hout =>
        exec_refused rfl hr hk (paramSetWork_outOfRange hs hrow (acceptedValue_refused he hout)),
        fun he hadm => ⟨_, ?_, hset ▸ setSetting_standing _ _ u⟩, fun he => ⟨_, ?_, hset ▸ setSetting_standing _ _ u⟩⟩⟩
    · have hexec := exec_paramSet hr hk hs hrow (acceptedValue_admitted he hadm)
      rwa [bne_self_eq_false] at hexec
    · exact exec_paramSet hr hk hs hrow (acceptedValue_clamped he)
  · intro c u v answer m hs hadm
    have hset : u.settings = s.settings := arrive_settings c d s
    have hv : acceptedValue r (r.decode a.value) = some v := acceptedValue_eq hadm
    have hanswer : answer (setSetting a.id.toNat v u) := exec_paramSet hfree.running hfree.takes hs hrow hv
    refine ⟨fun hsame => ?_, fun hchanged => ?_⟩
    · rwa [setSetting_same (hset ▸ hsame)] at hanswer
    have hm : withSetting a.id.toNat v u = m :=
      congrArg (fun set : Settings => State.noteChange u.storedContent { u with settings := set.put a.id.toNat v }) hset
    have hdiffers : u.settings.get a.id.toNat ≠ v := hset ▸ hchanged
    have hgives : ∀ t, settingEffect a.id.toNat u.settings m = t → answer t := fun t ht => by
      rwa [setSetting_changed hdiffers, hm, ht] at hanswer
    obtain ⟨hplan, hrequests, hguide, hhost, htunerA, htunerB⟩ := hm ▸ withSetting_rest a.id.toNat v u
    have hagenda : m.agenda = [] := (noteChange_agenda _ _).trans (arrive_agenda c d hfree.agenda)
    refine ⟨fun hi => ?_, hplan, hrequests, hguide, hhost, htunerA, htunerB, fun h => hgives _ (settingEffect_replan h),
      fun h => hgives _ (settingEffect_offset h), fun h => hgives _ (settingEffect_pass h), fun h => hgives _ (settingEffect_space h),
      fun h => hgives _ (settingEffect_wake h), fun h => hgives _ (settingEffect_none h), fun h => ?_, fun h => ?_,
      fun h => ?_⟩
    · obtain ⟨hlen, hin⟩ := acceptedValue_spec (settingRow_range hrow).1 (decode_length r _) hv
      exact hm ▸ withSetting_stale hdiffers (get_put_same _ hrow hlen hin) hi
    · intro expiry warned dues
      have hboth := rewarn_both m
      rw [hagenda, List.nil_append] at hboth
      exact hgives _ ((settingEffect_warn h).trans (congrArg settle hboth))
    · intro f ended
      have hlate : answer (settle (finishGroup reachedEnding (ended.map Booking.number) f)) :=
        hgives _ ((settingEffect_late h).trans (lateChanged_eq m))
      refine ⟨hlate, fun hnone => ?_⟩
      rw [hnone, List.map_nil, finishGroup_nil, settle_of_agenda (s := f) hagenda] at hlate
      exact hlate
    · intro cap past f ended lowered
      have hf : f = pulledDown m := congrArg m.withBookings (List.map_congr_left fun b _ => (pullDown_eq m b).symm)
      refine ⟨fun hkept => hgives _ ((settingEffect_overrun h).trans (overrunChanged_kept hkept)), fun hlow => ?_, fun hlow hnone => ?_⟩
      · rw [hf]
        exact hgives _ ((settingEffect_overrun h).trans (overrunChanged_lowered hlow))
      · have hpulled := hgives _ ((settingEffect_overrun h).trans (overrunChanged_lowered hlow))
        have hend : pulledToPresent m = [] := hnone
        rw [hend, List.map_nil, finishGroup_nil, settle_of_agenda (s := pulledDown m) hagenda] at hpulled
        rwa [hf]

end Sys2Proof.Machine

/-! PROOFS. RESET (R176, R177): what it clears, written out, and the one sampling that follows. -/

namespace Sys2Proof.Machine

/-! ### The schedule cleared (R176 steps 1 to 7) -/

/-- The Image Store once a reset has abandoned a save in progress (R184). -/
def resetImage (s : State) : ImageStore :=
  if s.saving = true then { s.image with state := .failed, changedInSave := false, abandonCause := .reset, capture := none }
  else s.image

/-- The image state then reported to the alert table. -/
def resetImageReport (s : State) : ImageState := if s.saving = true then .failed else s.alerts.image

theorem resetImage_flash (s : State) : (resetImage s).flash = s.image.flash := by
  unfold resetImage; split <;> rfl

theorem resetImage_reported {s : State} (h : ReportsOk s) : resetImageReport s = (resetImage s).state := by
  unfold resetImage resetImageReport
  split
  · rfl
  · exact h.image

theorem resetImage_abandoned {s : State} (h : s.saving = true) :
    (resetImage s).state = .failed ∧ (resetImage s).abandonCause = .reset := by
  rw [resetImage, if_pos h]; exact ⟨rfl, rfl⟩

/-- A part whose schedule a reset has emptied: stored content, clock, host and lines stand. -/
def scheduleCleared (s : State) : State :=
  { s with
    tunerA := { s.tunerA with hold := none }
    tunerB := { s.tunerB with hold := none }
    guide := ⟨[], none, false, false, false, if s.guide.agingPending = true ∨ s.guide.scanWaits = true then
      some (s.present + 900) else s.guide.nextScan, false⟩
    requests := s.requests.filter (fun r => r.state != .dropping)
    plan := ⟨[], 1, false, [], s.plan.freeSpace⟩
    run := ⟨false, 0⟩
    outbox := ⟨[], [], 0, s.outbox.attnEnable⟩
    alerts := ⟨s.alerts.masks, LevelFlags.clear, 0, 0, false, false, resetImageReport s⟩
    image := resetImage s }

/-- A part in a save is in no other image state. -/
theorem saving_ne_failed {s : State} (h : s.saving = true) : s.image.state ≠ .failed := fun he => by
  simp [State.saving, he] at h

/-- A changed image state is reported (R181). -/
theorem setImageState_reported {s : State} {st : ImageState} (h : s.image.state ≠ st) :
    (s.setImageState st).alerts.image = st := by
  rw [State.setImageState, if_neg h, sample_eq]

theorem setImageState_changed {s : State} {st : ImageState} (h : s.image.state ≠ st) : s.setImageState st = { s with
    outbox := { s.outbox with
      notices := (s.setImageState st).outbox.notices, lost := (s.setImageState st).outbox.lost }
    alerts := { s.alerts with inService := (s.setImageState st).alerts.inService, image := st }
    image := { s.image with state := st } } := by
  conv_lhs => rw [setImageState_eq, setImageState_reported h]

theorem stopSave_eq (s : State) : stopSave .reset s = { s with
    outbox := { s.outbox with
      notices := (stopSave .reset s).outbox.notices, lost := (stopSave .reset s).outbox.lost }
    alerts := { s.alerts with
      inService := (stopSave .reset s).alerts.inService, image := resetImageReport s }
    image := resetImage s } := by
  unfold stopSave resetImage resetImageReport
  split
  · rename_i h
    exact setImageState_changed (s := { s with image := { s.image with
      changedInSave := false, abandonCause := .reset, capture := none } }) (saving_ne_failed h)
  · rfl

theorem resetTables_eq (s : State) : resetOutbox (resetTables (resetStreamAndSave s)) = scheduleCleared s := by
  have hdropped : (s.guide.agingPending || s.guide.scanWaits) = true ↔
      (s.guide.agingPending = true ∨ s.guide.scanWaits = true) := Bool.or_eq_true_iff
  simp only [resetStreamAndSave, hdropped]
  rw [stopSave_eq]
  rfl

/-! ### The sampling (R166, R176 step 7) -/

/-- A part in which nothing waits or is in service, and no level source but STORE_STALE can be true. -/
structure Quieted (s : State) : Prop where
  notices : s.outbox.notices = []
  inService : s.alerts.inService = LevelFlags.clear
  clashes : s.alerts.clashCount = 0
  space : s.alerts.spaceCount = 0
  guideFull : s.alerts.guideFull = false
  listShort : s.alerts.listShort = false

/-- STORE_STALE is true and unmasked. -/
def staleFound (s : State) : Bool := s.alerts.image != .current && !s.alerts.masks.level.storeStale

/-- What sampling each source once makes of such a part: where STORE_STALE is found its notice joins alone. -/
def sampledOnce (s : State) : State :=
  if staleFound s = true then { s with
    outbox := { s.outbox with notices := [.storeStale s.alerts.image] }
    alerts := { s.alerts with inService := { LevelFlags.clear with storeStale := true } } }
  else s

theorem staleFound_iff (s : State) :
    staleFound s = true ↔ s.alerts.image ≠ .current ∧ s.alerts.masks.level.storeStale = false := by
  rw [staleFound, Bool.and_eq_true, bne_iff_ne, Bool.not_eq_true']

theorem sampleAll_eq {s : State} (hc : s.alerts.clashCount = 0) (hs : s.alerts.spaceCount = 0)
    (hg : s.alerts.guideFull = false) (hl : s.alerts.listShort = false) : s.sampleAll = s.sample .storeStale := by
  rw [State.sampleAll, sample_of_condition (l := .clashPresent) (by simp [AlertTable.condition, hc]),
    sample_of_condition (l := .spaceShort) (by simp [AlertTable.condition, hs]),
    sample_of_condition (l := .capacity) (by simp [AlertTable.condition, hg, hl])]

/-- A source in service queues nothing more (R162). -/
theorem sample_inService_self {s : State} {l : LevelSource} (h : s.alerts.inService.get l = true) : s.sample l = s := by
  rw [State.sample, if_neg]
  simp [State.samplingQueues, h]

theorem Quieted.sample {s : State} (h : Quieted s) : s.sample .storeStale = sampledOnce s := by
  have hqueues : s.samplingQueues .storeStale = staleFound s := by
    rw [State.samplingQueues, h.inService]
    exact Bool.and_true _
  have hroom : s.outbox.notices.length < Config.maxNotices := by rw [h.notices]; decide
  unfold State.sample sampledOnce
  rw [hqueues, State.joinNotice, if_pos hroom, h.notices, h.inService]
  rfl

theorem Quieted.sampleAll {s : State} (h : Quieted s) : s.sampleAll = sampledOnce s :=
  (sampleAll_eq h.clashes h.space h.guideFull h.listShort).trans h.sample

theorem sampledOnce_found {s : State} (himage : (sampledOnce s).alerts.image ≠ .current)
    (hmask : (sampledOnce s).alerts.masks.level.storeStale = false) :
    (sampledOnce s).outbox.notices = [.storeStale (sampledOnce s).alerts.image]
      ∧ (sampledOnce s).alerts.inService = { LevelFlags.clear with storeStale := true } := by
  unfold sampledOnce at himage hmask ⊢
  split
  · exact ⟨rfl, rfl⟩
  · rename_i h
    rw [if_neg h] at himage hmask
    exact absurd ((staleFound_iff s).mpr ⟨himage, hmask⟩) h

theorem sampledOnce_absent {s : State} (hq : Quieted s)
    (h : (sampledOnce s).alerts.image = .current ∨ (sampledOnce s).alerts.masks.level.storeStale = true) :
    (sampledOnce s).outbox.notices = [] ∧ (sampledOnce s).alerts.inService = LevelFlags.clear := by
  unfold sampledOnce at h ⊢
  split
  · rename_i hf
    rw [if_pos hf] at h
    obtain ⟨himage, hmask⟩ := (staleFound_iff s).mp hf
    exact (h.elim himage fun hm => Bool.false_ne_true (hmask.symm.trans hm)).elim
  · exact ⟨hq.notices, hq.inService⟩

/-- Sampled again, STORE_STALE is in service where it was found. -/
theorem sampledOnce_again {s : State} (h : Quieted s) : (sampledOnce s).sampleAll = sampledOnce s := by
  by_cases hf : staleFound s = true
  · rw [sampledOnce, if_pos hf]
    refine (sampleAll_eq ?_ ?_ ?_ ?_).trans (sample_inService_self rfl)
    exacts [h.clashes, h.space, h.guideFull, h.listShort]
  · have hsame : sampledOnce s = s := if_neg hf
    rw [hsame, h.sampleAll, hsame]

/-! ### The defaults loaded (R177) -/

/-- The defaults in place of the stored content, a CURRENT image being STALE then. -/
def defaultsLoaded (s : State) : State :=
  let t := s.withContent StoredContent.defaults
  { t with
    plan := { t.plan with freeSpace := none }
    image := { t.image with state := if s.image.state = .current then .stale else s.image.state }
    alerts := { t.alerts with image := if s.image.state = .current then .stale else s.alerts.image } }

theorem Quieted.withContent {s : State} (h : Quieted s) (c : StoredContent) : Quieted (s.withContent c) :=
  ⟨h.notices, h.inService, h.clashes, h.space, h.guideFull, h.listShort⟩

theorem Quieted.defaultsLoaded {s : State} (h : Quieted s) : Quieted (defaultsLoaded s) :=
  ⟨h.notices, h.inService, h.clashes, h.space, h.guideFull, h.listShort⟩

theorem markChanged_of_not_current {s : State} (hs : s.saving = false) (h : s.image.state ≠ .current) :
    s.markChanged = s := by
  unfold State.markChanged
  split <;> simp_all [State.saving]

theorem markChanged_current {s : State} (h : s.image.state = .current) : s.markChanged = State.sample { s with
    image := { s.image with state := .stale }, alerts := { s.alerts with image := .stale } } .storeStale := by
  have hne : s.image.state ≠ .stale := by rw [h]; decide
  unfold State.markChanged
  rw [h]
  exact if_neg hne

/-- Marking the image samples STORE_STALE already; the sampling of every source then finds it in service. -/
theorem resetDefaults_sampled {s : State} (hq : Quieted s) (hs : s.saving = false) :
    (resetDefaults s).sampleAll = sampledOnce (defaultsLoaded s) := by
  by_cases hcur : s.image.state = .current
  · have hmarked : (s.withContent StoredContent.defaults).markChanged = sampledOnce { s.withContent StoredContent.defaults with
        image := { s.image with state := .stale }
        alerts := { (s.withContent StoredContent.defaults).alerts with image := .stale } } :=
      (markChanged_current (s := s.withContent StoredContent.defaults) hcur).trans (Quieted.sample
        ⟨hq.notices, hq.inService, hq.clashes, hq.space, hq.guideFull, hq.listShort⟩)
    have hloaded : resetDefaults s = sampledOnce (defaultsLoaded s) := by
      simp only [resetDefaults, defaultsLoaded, hmarked, if_pos hcur]
      rfl
    rw [hloaded, sampledOnce_again hq.defaultsLoaded]
  · have hmarked : (s.withContent StoredContent.defaults).markChanged = s.withContent StoredContent.defaults :=
      markChanged_of_not_current hs hcur
    have hloaded : resetDefaults s = defaultsLoaded s := by
      simp only [resetDefaults, defaultsLoaded, hmarked, if_neg hcur]
      rfl
    rw [hloaded, hq.defaultsLoaded.sampleAll]

/-! ### The work of a reset -/

/-- The state that a reset derives and plans from. -/
def resetTo (defaults : Bool) (s : State) : State :=
  sampledOnce (if defaults = true then defaultsLoaded (scheduleCleared s) else scheduleCleared s)

theorem scheduleCleared_quieted (s : State) : Quieted (scheduleCleared s) := ⟨rfl, rfl, rfl, rfl, rfl, rfl⟩

theorem scheduleCleared_saving (s : State) : (scheduleCleared s).saving = false := by
  cases h : s.saving with
  | false =>
    have hkept : (scheduleCleared s).image = s.image := if_neg (by rw [h]; decide)
    rw [State.saving, hkept]
    exact h
  | true =>
    have hfailed : (scheduleCleared s).image.state = .failed := (resetImage_abandoned h).1
    rw [State.saving, hfailed]
    rfl

theorem resetWork_eq (defaults : Bool) (s : State) : resetWork defaults s = settle (deriveAndPass (resetTo defaults s)) := by
  have hq := scheduleCleared_quieted s
  simp only [resetWork, resetTables_eq]
  cases defaults with
  | false => exact congrArg (fun u => settle (deriveAndPass u)) hq.sampleAll
  | true =>
    exact congrArg (fun u => settle (deriveAndPass u)) (resetDefaults_sampled hq (scheduleCleared_saving s))

/-- What both scopes leave of a part. -/
structure Emptied (s p : State) : Prop where
  line : p.line = s.line
  present : p.present = s.present
  clockSet : p.clockSet = s.clockSet
  host : p.host = s.host
  lines : p.panel.lines = s.panel.lines
  guide : p.guide = (scheduleCleared s).guide
  bookings : p.plan.bookings = []
  counter : p.plan.counter = 1
  listShort : p.plan.listShort = false
  run : p.run = ⟨false, 0⟩
  holdA : p.tunerA.hold = none
  holdB : p.tunerB.hold = none
  directives : p.outbox.directives = []
  lost : p.outbox.lost = 0
  saving : p.saving = false
  flash : p.image.flash = s.image.flash
  clashCount : p.alerts.clashCount = 0
  spaceCount : p.alerts.spaceCount = 0
  fullReported : p.alerts.guideFull = false
  shortReported : p.alerts.listShort = false
  reported : ReportsOk s → p.alerts.image = p.image.state
  abandoned : s.saving = true → p.image.state = .failed ∧ p.image.abandonCause = .reset

theorem scheduleCleared_emptied (s : State) : Emptied s (scheduleCleared s) :=
  ⟨rfl, rfl, rfl, rfl, rfl, rfl, rfl, rfl, rfl, rfl, rfl, rfl, rfl, rfl, scheduleCleared_saving s, resetImage_flash s,
    rfl, rfl, rfl, rfl, resetImage_reported, resetImage_abandoned⟩

theorem defaultsLoaded_saving {s : State} (h : s.saving = false) : (defaultsLoaded s).saving = false := by
  unfold defaultsLoaded State.saving
  simp only []
  split
  · rfl
  · exact h

theorem Emptied.defaultsLoaded {s p : State} (h : Emptied s p) : Emptied s (defaultsLoaded p) :=
  ⟨h.line, h.present, h.clockSet, h.host, h.lines, h.guide, h.bookings, h.counter, h.listShort, h.run, rfl, rfl,
    h.directives, h.lost, defaultsLoaded_saving h.saving, h.flash, h.clashCount, h.spaceCount, h.fullReported,
    h.shortReported, fun k => congrArg (fun st : ImageState => if p.image.state = .current then ImageState.stale else st) (h.reported k), fun k =>
      ⟨(if_neg (by rw [(h.abandoned k).1]; decide)).trans (h.abandoned k).1, (h.abandoned k).2⟩⟩

theorem Emptied.sampledOnce {s p : State} (h : Emptied s p) : Emptied s (sampledOnce p) := by
  unfold Machine.sampledOnce
  split
  · exact ⟨h.line, h.present, h.clockSet, h.host, h.lines, h.guide, h.bookings, h.counter, h.listShort, h.run, h.holdA,
      h.holdB, h.directives, h.lost, h.saving, h.flash, h.clashCount, h.spaceCount, h.fullReported, h.shortReported,
      h.reported, h.abandoned⟩
  · exact h

/-- Stored content outlives a SOFT reset, and so does the free space. -/
theorem resetTo_soft (s : State) : (resetTo false s).storedContent = s.storedContent
    ∧ (resetTo false s).plan.freeSpace = s.plan.freeSpace
    ∧ (resetTo false s).requests = s.requests.filter (fun r => r.state != .dropping) := by
  have hcontent : (scheduleCleared s).storedContent = s.storedContent := by
    simp [State.storedContent, scheduleCleared, List.filter_filter]
  simp only [resetTo, Bool.false_eq_true, if_false]
  unfold sampledOnce
  split
  · exact ⟨hcontent, rfl, rfl⟩
  · exact ⟨hcontent, rfl, rfl⟩

theorem resetTo_defaults (s : State) : (resetTo true s).storedContent = StoredContent.defaults
    ∧ (resetTo true s).plan.freeSpace = none
    ∧ (s.image.state = .current → (resetTo true s).image.state = .stale) := by
  have himage : s.image.state = .current → (defaultsLoaded (scheduleCleared s)).image.state = .stale := fun h => by
    have hkept : (scheduleCleared s).image = s.image := if_neg (by simp [State.saving, h])
    exact if_pos (by rw [hkept, h])
  simp only [resetTo, if_true]
  unfold sampledOnce
  split
  · exact ⟨rfl, rfl, himage⟩
  · exact ⟨rfl, rfl, himage⟩

theorem resetTo_emptied (defaults : Bool) (s : State) : Emptied s (resetTo defaults s) := by
  have hcleared := scheduleCleared_emptied s
  cases defaults with
  | false => exact hcleared.sampledOnce
  | true => exact hcleared.defaultsLoaded.sampledOnce

theorem resetTo_found {defaults : Bool} {s : State} (himage : (resetTo defaults s).alerts.image ≠ .current)
    (hmask : (resetTo defaults s).alerts.masks.level.storeStale = false) :
    (resetTo defaults s).outbox.notices = [.storeStale (resetTo defaults s).alerts.image]
      ∧ (resetTo defaults s).alerts.inService = { LevelFlags.clear with storeStale := true } :=
  sampledOnce_found himage hmask

theorem resetTo_absent {defaults : Bool} {s : State} (h : (resetTo defaults s).alerts.image = .current
      ∨ (resetTo defaults s).alerts.masks.level.storeStale = true) :
    (resetTo defaults s).outbox.notices = [] ∧ (resetTo defaults s).alerts.inService = LevelFlags.clear := by
  refine sampledOnce_absent ?_ h
  cases defaults with
  | false => exact scheduleCleared_quieted s
  | true => exact (scheduleCleared_quieted s).defaultsLoaded

/-! ### RESET from its arrival (R176) -/

/-- The line of a part that works on an accepted RESET: the reply has been sent first. -/
def resetLine (d : Dest) (b : Byte) (s : State) : LineInterface :=
  { (startWork (.reset d (.fields b)) d s).line with
    reply := match d with
      | .own => some (.accepted (.reset b.toNat))
      | .broadcast => s.line.reply }

theorem exec_reset_accepted {d : Dest} {b : Byte} {s : State} (hr : s.running = true) (hk : s.line.state.takes = true)
    (hb : b = 1 ∨ b = 2) :
    let p := resetTo (decide (b = 2)) { s with line := resetLine d b s }
    exec (.reset d (.fields b)) s = .next { settle (deriveAndPass p) with line := { p.line with state := .idle } } := by
  intro p
  have hline : (settle (deriveAndPass p)).line = p.line := (settle_deriveAndPass_works p).line
  have hwork : resetWork (decide (b = 2)) { s with line := resetLine d b s } = settle (deriveAndPass p) := resetWork_eq _ _
  have hexec : exec (.reset d (.fields b)) s = .next (resetAccepted d (.fields b) (decide (b = 2)) s) := by
    rcases hb with rfl | rfl <;> exact congrArg Host.Outcome.next (if_pos (hears_of hr hk))
  have haccepted : resetAccepted d (.fields b) (decide (b = 2)) s
      = { settle (deriveAndPass p) with line := { (settle (deriveAndPass p)).line with state := .idle } } := by
    rw [← hwork]
    rcases hb with rfl | rfl <;> cases d <;> rfl
  rw [hexec, haccepted, hline]

theorem exec_reset_refused {d : Dest} {b : Byte} {s : State} (hr : s.running = true) (hk : s.line.state.takes = true)
    (h1 : b ≠ 1) (h2 : b ≠ 2) : exec (.reset d (.fields b)) s
      = .next ((arrive (.reset d (.fields b)) d s).answering d (.refused 0x07 .range [])) := by
  have hscope : resetScope (.fields b) = none := (if_neg h1).trans (if_neg h2)
  have hmessage : exec (.reset d (.fields b)) s
      = .next (message (.reset d (.fields b)) d (.fields b) (fun _ t => refuse t .range) s) := by
    show Host.Outcome.next (resetMessage d (.fields b) s) = _
    rw [resetMessage, hscope]
  exact exec_refused hmessage hr hk rfl

/-- Settles O17: the derivation and pass start from `resetTo`, of which `Emptied` and the sampling's lemmas tell all. -/
theorem resetEmptiesTheSchedule : Obligations.ResetEmptiesTheSchedule := by
  refine ⟨fun d b s hr hk h1 h2 => exec_reset_refused hr hk h1 h2, fun d b s hr hk hb => ?_⟩
  have h := resetTo_emptied (decide (b = 2)) { s with line := resetLine d b s }
  have hworks := settle_deriveAndPass_works (resetTo (decide (b = 2)) { s with line := resetLine d b s })
  refine ⟨resetTo (decide (b = 2)) { s with line := resetLine d b s }, _, exec_reset_accepted hr hk hb, rfl,
    fun hd => ?_, fun hd => ?_, hworks.present.trans h.present, hworks.clockSet.trans h.clockSet,
    (congrArg LineInterface.dropAddress h.line :), h.host, h.lines, congrArg GuideStore.entries h.guide,
    congrArg GuideStore.stream h.guide, congrArg GuideStore.full h.guide, congrArg GuideStore.scanWaits h.guide,
    h.bookings, h.counter, h.listShort, h.run, h.holdA, h.holdB, congrArg GuideStore.agingPending h.guide,
    congrArg GuideStore.nextScan h.guide, h.directives, h.lost, h.saving, h.flash, h.clashCount, h.spaceCount,
    h.fullReported, h.shortReported, fun k => h.reported ⟨k.guideFull, k.listShort, k.image⟩, resetTo_found, resetTo_absent,
    h.abandoned, fun h1 => ?_, fun h2 => ?_⟩
  · subst hd
    exact (congrArg LineInterface.reply h.line :)
  · subst hd
    exact (congrArg LineInterface.reply h.line :)
  · subst h1
    exact resetTo_soft _
  · subst h2
    exact resetTo_defaults _

end Sys2Proof.Machine

/-! PROOFS. What every command leaves alone: the queue of commands; and the commands that a part does not hear (R167, R169,
R184; log entry 4). -/

namespace Sys2Proof.Machine

/-! ### The queue of commands (log entry 9) -/

/-- `t` has the commands waiting that `s` has. -/
def KeepsQueue (s t : State) : Prop := t.pending = s.pending

namespace KeepsQueue

theorem refl (s : State) : KeepsQueue s s := rfl

theorem trans {s t u : State} (h : KeepsQueue s t) (k : KeepsQueue t u) : KeepsQueue s u := Eq.trans k h

theorem of_works {s t : State} (h : Works s t) : KeepsQueue s t := h.pending

/-- A write of another component. -/
theorem written {s t : State} (h : t.pending = s.pending := by rfl) : KeepsQueue s t := h

/-- The part's own work, after a write that keeps the queue. -/
theorem works {s t u : State} (h : KeepsQueue s t) (k : Works t u) : KeepsQueue s u := h.trans (of_works k)

theorem orRefuse {s : State} {c : Prop} [Decidable c] {r : RefuseReason} {w : State × Answer} (h : KeepsQueue s w.1) :
    KeepsQueue s (if c then refuse s r else w).1 := by
  split
  · exact .refl s
  · exact h

theorem changing {s : State} {f : State → State} (h : KeepsQueue s (f s)) : KeepsQueue s (s.changing f) :=
  h.works (noteChange_works _ _)

end KeepsQueue

theorem withTuner_keepsQueue (s : State) (x : TunerId) (k : Tuner) : KeepsQueue s (s.withTuner x k) := by
  cases x <;> rfl

theorem setImageState_keepsQueue (s : State) (st : ImageState) : KeepsQueue s (s.setImageState st) :=
  .written (by rw [setImageState_eq])

/-! ### Starting, stopping, the line -/

theorem start_keepsQueue (s : State) (p : Straps) : KeepsQueue s (s.start p) := by
  have hloaded : KeepsQueue s (State.loadImage { s.blank true false with line := ⟨dropOf p, rateOf p, .idle, none⟩ }) := by
    unfold State.loadImage
    split <;> rfl
  exact hloaded.works (sampleAll_works _)

theorem powerUp_keepsQueue (p : Straps) (s : State) : KeepsQueue s (powerUp p s) := by
  unfold powerUp
  split
  · rfl
  · exact start_keepsQueue s p

theorem resetPinWork_keepsQueue (e : ResetPinEvent) (s : State) : KeepsQueue s (resetPinWork e s) := by
  cases e with
  | low => rfl
  | release p =>
    simp only [resetPinWork]
    split
    · split
      · exact start_keepsQueue s p
      · rfl
    · rfl

theorem advance_keepsQueue (s : State) : KeepsQueue s (advance s) := by
  unfold advance
  split <;> rfl

theorem line_keepsQueue (s : State) (l : LineInterface) : KeepsQueue s { s with line := l } := .written

theorem onLine_keepsQueue (s : State) (f : LineInterface → LineInterface) : KeepsQueue s (s.onLine f) := by
  unfold State.onLine
  split <;> rfl

theorem arrive_keepsQueue (i : Instr) (d : Dest) (s : State) : KeepsQueue s (arrive i d s) := by
  have harrived : KeepsQueue s (arrived i d s) := by unfold arrived; split <;> rfl
  exact harrived.works (arrive_works i d s)

theorem respond_keepsQueue (kind : Byte) (d : Dest) (w : State × Answer) : KeepsQueue w.1 (respond kind d w) := by
  cases d <;> rfl

/-- A message keeps the queue where its owner does. -/
theorem message_keepsQueue {α : Type} {owner : α → State → State × Answer} (h : ∀ a u, KeepsQueue u (owner a u).1)
    (i : Instr) (d : Dest) (b : Body α) (s : State) : KeepsQueue s (message i d b owner s) := by
  unfold message
  split
  · cases b with
    | fields a => exact ((arrive_keepsQueue i d s).trans (h a _)).trans (respond_keepsQueue _ _ _)
    | badLength p =>
      exact (arrive_keepsQueue i d s).trans (respond_keepsQueue _ _ (arrive i d s, .refuse .length []))
  · rfl

/-! ### Settings, QUERY and RESET -/

theorem setSetting_keepsQueue (id : Nat) (v : List Int) (s : State) : KeepsQueue s (setSetting id v s) := by
  unfold setSetting
  split
  · rfl
  · exact (KeepsQueue.changing (s := s) (f := fun t => { t with settings := t.settings.put id v }) rfl).works
      (settingEffect_works _ _ _)

theorem paramSetWork_keepsQueue (a : ParamSetArgs) (s : State) : KeepsQueue s (paramSetWork a s).1 := by
  unfold paramSetWork
  refine KeepsQueue.orRefuse ?_
  split
  · rfl
  · split
    · rfl
    · exact setSetting_keepsQueue _ _ s

theorem paramGetWork_keepsQueue (a : Byte) (s : State) : KeepsQueue s (paramGetWork a s).1 := by
  unfold paramGetWork
  split <;> rfl

theorem queryWork_keepsQueue (d : Dest) (x : Unit) (s : State) : KeepsQueue s (queryWork d x s).1 := by
  cases d <;> rfl

theorem resetStreamAndSave_keepsQueue (s : State) : KeepsQueue s (resetStreamAndSave s) :=
  (KeepsQueue.works (t := closeWithoutWork s) rfl (stopSave_works .reset (closeWithoutWork s))).trans .written

theorem resetDefaults_keepsQueue (s : State) : KeepsQueue s (resetDefaults s) :=
  .trans (.works .written (markChanged_works (s.withContent StoredContent.defaults))) .written

theorem resetWork_keepsQueue (defaults : Bool) (s : State) : KeepsQueue s (resetWork defaults s) := by
  have hcleared : KeepsQueue s (resetOutbox (resetTables (resetStreamAndSave s))) :=
    (resetStreamAndSave_keepsQueue s).trans .written
  cases defaults with
  | false => exact (hcleared.works (sampleAll_works _)).works (settle_deriveAndPass_works _)
  | true =>
    exact ((hcleared.trans (resetDefaults_keepsQueue _)).works (sampleAll_works _)).works (settle_deriveAndPass_works _)

theorem resetAccepted_keepsQueue (d : Dest) (b : Body Byte) (defaults : Bool) (s : State) :
    KeepsQueue s (resetAccepted d b defaults s) := by
  unfold resetAccepted
  simp only []
  exact ((line_keepsQueue s _).trans (resetWork_keepsQueue defaults _)).trans (line_keepsQueue _ _)

theorem resetMessage_keepsQueue (d : Dest) (b : Body Byte) (s : State) : KeepsQueue s (resetMessage d b s) := by
  unfold resetMessage
  split
  · split
    · exact resetAccepted_keepsQueue d b _ s
    · rfl
  · exact message_keepsQueue (fun _ u => .refl u) _ d b s

/-! ### Bookings -/

theorem spaceWork_keepsQueue (w : Word32) (s : State) : KeepsQueue s (spaceWork w s).1 :=
  .works .written (spacePart_works _)

theorem holdOn_keepsQueue (s : State) : KeepsQueue s (holdOn s) :=
  ((KeepsQueue.written (s := s) (t := { s with run := { s.run with hold := true } }) rfl).works
    (Works.foldl (fun u n => holdBack_works n u) _ _)).works ((finishGroup_works _ _ _).trans (settle_works _))

theorem holdOff_keepsQueue (s : State) : KeepsQueue s (holdOff s).state := by
  have htaken : KeepsQueue s (takeLates { s with run := { s.run with hold := false } }).state :=
    KeepsQueue.works (t := { s with run := { s.run with hold := false } }) rfl (takeLates_works _)
  refine (htaken.works ?_).works (settle_works _)
  split
  · exact .refl _
  · exact afterFinish_works _ _

theorem holdWork_keepsQueue (b : Byte) (s : State) : KeepsQueue s (holdWork b s).1 := by
  unfold holdWork
  split
  · rfl
  · split
    · rfl
    · split
      · exact holdOn_keepsQueue s
      · exact holdOff_keepsQueue s

/-! ### CLOCK -/

theorem clockStep_keepsQueue (v : Nat) (s : State) : KeepsQueue s (clockStep v s) := by
  cases hc : stepClass s.clockSet s.present v with
  | none => rw [clockStep_none hc]; rfl
  | first => rw [clockStep_first hc]; exact KeepsQueue.works (t := firstSet v s) rfl (settle_deriveAndPass_works _)
  | forward =>
    rw [clockStep_forward hc]
    exact KeepsQueue.works (t := { s.setClock v with agenda := crossedDues s.present v (s.setClock v) }) rfl
      ((settle_works _).trans (replanIf_works _ _))
  | backward => rw [clockStep_backward hc]; exact KeepsQueue.works (t := steppedBack v s) rfl (replanIf_works _ _)

theorem clockWork_keepsQueue (w : Word32) (s : State) : KeepsQueue s (clockWork w s).1 := by
  unfold clockWork
  split
  · exact clockStep_keepsQueue _ s
  · rfl

/-! ### The guide -/

theorem guideOpenWork_keepsQueue (a : GuideOpenArgs) (s : State) : KeepsQueue s (guideOpenWork a s).1 := by
  unfold guideOpenWork
  split
  · have hclosed : KeepsQueue s (closeStream s) := KeepsQueue.works (t := closeRecord s) rfl (closeStream_works s)
    exact hclosed
  · rfl

theorem guidePutWork_keepsQueue (a : GuidePutArgs) (s : State) : KeepsQueue s (guidePutWork a s).1 := by
  unfold guidePutWork
  split
  · rfl
  · exact congrArg Standing.pending (putEntries_standing _ _ s _)

/-! ### Host power -/

theorem greetWork_keepsQueue (x : Unit) (s : State) : KeepsQueue s (greetWork x s).1 := by
  have hended := KeepsQueue.of_works ((freeHolds_works s).trans
    (finishEach_works (.outcome .truncated .hostRestart 0) none (restartBookings s) s.freeHolds))
  have hawake := hended.trans (.written : KeepsQueue _ { finishEach (.outcome .truncated .hostRestart 0)
    none (restartBookings s) s.freeHolds with host := (finishEach (.outcome .truncated .hostRestart 0)
    none (restartBookings s) s.freeHolds).host.greeted })
  have htaken := hawake.works (takeLates_works _)
  unfold greetWork
  refine KeepsQueue.trans (KeepsQueue.works ?_ (settle_works _)) .written
  split
  · exact htaken.works (afterFinish_works _ _)
  · exact htaken

theorem restAccepted_keepsQueue (s : State) : KeepsQueue s (restAccepted s).1 := by
  have hfreed : KeepsQueue s (if s.holdsViewer then settle (passIfSet s.freeHolds) else s.freeHolds) := by
    split
    · exact .of_works ((freeHolds_works s).trans (settle_passIfSet_works _))
    · exact .of_works (freeHolds_works s)
  exact (((hfreed.trans .written).works (applyTrigger_works _ .rest)).works (recomputeWake_works _)).works
    (settle_works _)

theorem restWork_keepsQueue (x : Unit) (s : State) : KeepsQueue s (restWork x s).1 := by
  unfold restWork
  exact .orRefuse (.orRefuse (restAccepted_keepsQueue s))

/-! ### The stored image -/

theorem storeSaveWork_keepsQueue (x : Unit) (s : State) : KeepsQueue s (storeSaveWork x s).1 := by
  unfold storeSaveWork
  exact .orRefuse (setImageState_keepsQueue { s with image := _ } _)

theorem eraseDone_keepsQueue (s : State) : KeepsQueue s (eraseDone s) := by
  unfold eraseDone
  split
  · exact setImageState_keepsQueue { s with image := _ } _
  · exact .refl s

theorem writeDone_keepsQueue (s : State) : KeepsQueue s (writeDone s) := by
  unfold writeDone
  split
  · have hwritten : KeepsQueue s (writeImage s) := setImageState_keepsQueue { s with image := _ } _
    exact (hwritten.works (releaseScan_works _)).works (settle_works _)
  · exact .refl s

/-! ### The outbox, the alert table and the panel -/

theorem popItem_keepsQueue (s : State) : KeepsQueue s (popItem s).2 := by
  unfold popItem
  split <;> rfl

theorem takeWork_keepsQueue (d : Dest) (x : Unit) (s : State) : KeepsQueue s (takeWork d x s).1 := by
  cases d with
  | broadcast => exact .refl s
  | own =>
    unfold takeWork
    simp only []
    split
    · exact (popItem_keepsQueue s).works (handTaken_works _ _)
    · exact popItem_keepsQueue s
    · exact popItem_keepsQueue s

theorem acknowledge_keepsQueue (l : LevelSource) (s : State) : KeepsQueue s (acknowledge l s) :=
  .works .written (sample_works _ l)

theorem alertAckWork_keepsQueue (b : Byte) (s : State) : KeepsQueue s (alertAckWork b s).1 := by
  unfold alertAckWork
  split
  · exact .refl s
  · exact .refl s
  · exact .orRefuse (acknowledge_keepsQueue _ s)

theorem changeMask_keepsQueue (x : Source) (v : Bool) (s : State) : KeepsQueue s (changeMask x v s) := by
  have hput : KeepsQueue s (s.changing fun u => u.setMask x v) := KeepsQueue.changing .written
  unfold changeMask
  cases x with
  | level l =>
    simp only []
    split
    · exact hput
    · exact hput.works (sample_works _ l)
  | edge e => exact hput

theorem alertMaskWork_keepsQueue (a : AlertMaskArgs) (s : State) : KeepsQueue s (alertMaskWork a s).1 := by
  unfold alertMaskWork
  split
  · refine KeepsQueue.orRefuse ?_
    split
    · exact .refl s
    · exact changeMask_keepsQueue _ _ s
  · exact .refl s

theorem attnEnableWork_keepsQueue (b : Byte) (s : State) : KeepsQueue s (attnEnableWork b s).1 := by
  unfold attnEnableWork
  split
  · exact .refl s
  · exact .orRefuse (.changing (f := fun u => u.setAttn _) .written)

theorem panelStageWork_keepsQueue (a : PanelStageArgs) (s : State) : KeepsQueue s (panelStageWork a s).1 := by
  unfold panelStageWork
  refine KeepsQueue.orRefuse ?_
  split
  · exact .changing (f := fun u => u.stage _ _) .written
  · exact .refl s

theorem panelSetWork_keepsQueue (b : Byte) (s : State) : KeepsQueue s (panelSetWork b s).1 := by
  unfold panelSetWork
  split <;> rfl

/-! ### Requests -/

/-- A change of the stored content, and the derivation and pass it asks for. -/
theorem KeepsQueue.changingDerived {s : State} {f : State → State} (h : KeepsQueue s (f s)) :
    KeepsQueue s (settle (deriveAndPass (s.changing f))) :=
  (KeepsQueue.changing h).works (settle_deriveAndPass_works _)

theorem reqAddWork_keepsQueue (a : ReqAddArgs) (s : State) : KeepsQueue s (reqAddWork a s).1 := by
  unfold reqAddWork
  refine KeepsQueue.orRefuse ?_
  split
  · exact .refl s
  · refine KeepsQueue.orRefuse (KeepsQueue.orRefuse (KeepsQueue.orRefuse ?_))
    split
    · exact .refl s
    · exact .changingDerived .written

theorem editAccepted_keepsQueue (b : ReqEditBody) (r : Request) (s : State) : KeepsQueue s (editAccepted b r s).1 := by
  have hput : KeepsQueue s (s.mapRequest r.number fun _ => editedRequest b r) := .written
  unfold editAccepted
  simp only []
  split
  · exact .refl s
  · simp only [accept]
    split
    · exact .changingDerived hput
    · exact .changing hput

theorem reqEditWork_keepsQueue (a : ReqEditArgs) (s : State) : KeepsQueue s (reqEditWork a s).1 := by
  unfold reqEditWork
  refine KeepsQueue.orRefuse (KeepsQueue.orRefuse ?_)
  split
  · exact .refl s
  · exact .orRefuse (.orRefuse (.orRefuse (.orRefuse (.orRefuse (editAccepted_keepsQueue _ _ s)))))

theorem reqReadWork_keepsQueue (a : ReqReadArgs) (s : State) : KeepsQueue s (reqReadWork a s).1 := by
  unfold reqReadWork
  refine KeepsQueue.orRefuse ?_
  split
  · exact .refl s
  · simp only []
    split <;> exact .refl s

/-! ### Services, tuners and viewer holds -/

theorem svcPutWork_keepsQueue (a : SvcPutArgs) (s : State) : KeepsQueue s (svcPutWork a s).1 := by
  unfold svcPutWork
  refine KeepsQueue.orRefuse (KeepsQueue.orRefuse ?_)
  split
  · exact .orRefuse (.changingDerived .written)
  · refine KeepsQueue.orRefuse ?_
    split
    · exact .refl s
    · exact .changingDerived .written

theorem svcDropWork_keepsQueue (w : Word16) (s : State) : KeepsQueue s (svcDropWork w s).1 := by
  unfold svcDropWork
  exact .orRefuse (.orRefuse (.orRefuse (.orRefuse (.changingDerived .written))))

theorem svcReadWork_keepsQueue (w : Word16) (s : State) : KeepsQueue s (svcReadWork w s).1 := by
  unfold svcReadWork
  exact .orRefuse (.refl s)

theorem tunerCfgJudged_keepsQueue (t : TunerId) (enabled : Bool) (mask : BitVec 4) (s : State) :
    KeepsQueue s (tunerCfgJudged t enabled mask s).1 := by
  unfold tunerCfgJudged
  refine KeepsQueue.orRefuse ?_
  split
  · exact .refl s
  · exact (KeepsQueue.changing (withTuner_keepsQueue s t _)).works (settle_passIfSet_works _)

theorem tunerCfgWork_keepsQueue (a : TunerCfgArgs) (s : State) : KeepsQueue s (tunerCfgWork a s).1 := by
  unfold tunerCfgWork
  refine KeepsQueue.orRefuse ?_
  split
  · exact tunerCfgJudged_keepsQueue _ _ _ s
  · exact .refl s

theorem viewJudged_keepsQueue (t : TunerId) (v : Service) (s : State) : KeepsQueue s (viewJudged t v s).1 := by
  unfold viewJudged
  refine KeepsQueue.orRefuse ?_
  split
  · exact .refl s
  · exact (withTuner_keepsQueue s t _).works (settle_passIfSet_works _)

theorem viewOnWork_keepsQueue (a : ViewOnArgs) (s : State) : KeepsQueue s (viewOnWork a s).1 := by
  unfold viewOnWork
  refine KeepsQueue.orRefuse ?_
  split
  · exact .refl s
  · refine KeepsQueue.orRefuse ?_
    split
    · exact .refl s
    · exact viewJudged_keepsQueue _ _ s

/-! ### The commands -/

/-- Every command answers a state with the queue that it found. -/
theorem exec_keepsQueue (i : Instr) (s : State) : ∃ t, exec i s = .next t ∧ KeepsQueue s t := by
  have expired := fun d => KeepsQueue.of_works (expire_works d s)
  cases i with
  | powerOn p => exact ⟨_, rfl, powerUp_keepsQueue p s⟩
  | resetPin e => exact ⟨_, rfl, resetPinWork_keepsQueue e s⟩
  | powerLoss => exact ⟨_, rfl, .written⟩
  | presentAdvance => exact ⟨_, rfl, advance_keepsQueue s⟩
  | assemblyTimeout lead => exact ⟨_, rfl, onLine_keepsQueue s _⟩
  | deselection lead x => exact ⟨_, rfl, onLine_keepsQueue s _⟩
  | impossibleLength d len => exact ⟨_, rfl, onLine_keepsQueue s _⟩
  | replyComplete => exact ⟨_, rfl, onLine_keepsQueue s _⟩
  | badCheckMessage d => exact ⟨_, rfl, message_keepsQueue (fun _ u => .refl u) _ d _ s⟩
  | unknownKindMessage d => exact ⟨_, rfl, message_keepsQueue (fun _ u => .refl u) _ d _ s⟩
  | greet d b => exact ⟨_, rfl, message_keepsQueue greetWork_keepsQueue _ d b s⟩
  | rest d b => exact ⟨_, rfl, message_keepsQueue restWork_keepsQueue _ d b s⟩
  | clock d b => exact ⟨_, rfl, message_keepsQueue clockWork_keepsQueue _ d b s⟩
  | query d b => exact ⟨_, rfl, message_keepsQueue (queryWork_keepsQueue d) _ d b s⟩
  | paramSet d b => exact ⟨_, rfl, message_keepsQueue paramSetWork_keepsQueue _ d b s⟩
  | paramGet d b => exact ⟨_, rfl, message_keepsQueue paramGetWork_keepsQueue _ d b s⟩
  | reset d b => exact ⟨_, rfl, resetMessage_keepsQueue d b s⟩
  | svcPut d b => exact ⟨_, rfl, message_keepsQueue svcPutWork_keepsQueue _ d b s⟩
  | svcDrop d b => exact ⟨_, rfl, message_keepsQueue svcDropWork_keepsQueue _ d b s⟩
  | svcRead d b => exact ⟨_, rfl, message_keepsQueue svcReadWork_keepsQueue _ d b s⟩
  | tunerCfg d b => exact ⟨_, rfl, message_keepsQueue tunerCfgWork_keepsQueue _ d b s⟩
  | viewOn d b => exact ⟨_, rfl, message_keepsQueue viewOnWork_keepsQueue _ d b s⟩
  | viewOff d b => exact ⟨_, rfl, message_keepsQueue (fun a u => .of_works (viewOffWork_works a u)) _ d b s⟩
  | guideOpen d b => exact ⟨_, rfl, message_keepsQueue guideOpenWork_keepsQueue _ d b s⟩
  | guidePut d b => exact ⟨_, rfl, message_keepsQueue guidePutWork_keepsQueue _ d b s⟩
  | guideFlush d b => exact ⟨_, rfl, message_keepsQueue (fun a u => .of_works (guideFlushWork_works a u)) _ d b s⟩
  | running d b => exact ⟨_, rfl, message_keepsQueue (fun a u => .of_works (runningWork_works a u)) _ d b s⟩
  | reqAdd d b => exact ⟨_, rfl, message_keepsQueue reqAddWork_keepsQueue _ d b s⟩
  | reqEdit d b => exact ⟨_, rfl, message_keepsQueue reqEditWork_keepsQueue _ d b s⟩
  | reqDrop d b => exact ⟨_, rfl, message_keepsQueue (fun a u => .of_works (reqDropWork_works a u)) _ d b s⟩
  | reqPause d b => exact ⟨_, rfl, message_keepsQueue (fun a u => .of_works (reqPauseWork_works a u)) _ d b s⟩
  | reqResume d b => exact ⟨_, rfl, message_keepsQueue (fun a u => .of_works (reqResumeWork_works a u)) _ d b s⟩
  | reqRead d b => exact ⟨_, rfl, message_keepsQueue reqReadWork_keepsQueue _ d b s⟩
  | bookRead d b => exact ⟨_, rfl, message_keepsQueue (fun _ u => .refl u) _ d b s⟩
  | bookCancel d b => exact ⟨_, rfl, message_keepsQueue (fun a u => .of_works (bookCancelWork_works a u)) _ d b s⟩
  | bookStop d b => exact ⟨_, rfl, message_keepsQueue (fun a u => .of_works (bookStopWork_works a u)) _ d b s⟩
  | space d b => exact ⟨_, rfl, message_keepsQueue spaceWork_keepsQueue _ d b s⟩
  | hold d b => exact ⟨_, rfl, message_keepsQueue holdWork_keepsQueue _ d b s⟩
  | take d b => exact ⟨_, rfl, message_keepsQueue (takeWork_keepsQueue d) _ d b s⟩
  | confirm d b => exact ⟨_, rfl, message_keepsQueue (fun a u => .of_works (confirmMessage_works a u)) _ d b s⟩
  | alertAck d b => exact ⟨_, rfl, message_keepsQueue alertAckWork_keepsQueue _ d b s⟩
  | alertMask d b => exact ⟨_, rfl, message_keepsQueue alertMaskWork_keepsQueue _ d b s⟩
  | attnEnable d b => exact ⟨_, rfl, message_keepsQueue attnEnableWork_keepsQueue _ d b s⟩
  | panelStage d b => exact ⟨_, rfl, message_keepsQueue panelStageWork_keepsQueue _ d b s⟩
  | panelSet d b => exact ⟨_, rfl, message_keepsQueue panelSetWork_keepsQueue _ d b s⟩
  | storeSave d b => exact ⟨_, rfl, message_keepsQueue storeSaveWork_keepsQueue _ d b s⟩
  | storeQuery d b => exact ⟨_, rfl, message_keepsQueue (fun _ u => .refl u) _ d b s⟩
  | eraseComplete => exact ⟨_, rfl, eraseDone_keepsQueue s⟩
  | writeComplete => exact ⟨_, rfl, writeDone_keepsQueue s⟩
  | agingScan => exact ⟨_, rfl, expired .scan⟩
  | windowStart n => exact ⟨_, rfl, expired (.windowStart n)⟩
  | lateLimit n => exact ⟨_, rfl, expired (.lateLimit n)⟩
  | takeDeadline n => exact ⟨_, rfl, expired (.takeDeadline n)⟩
  | confirmTimer n => exact ⟨_, rfl, expired (.confirmTimer n)⟩
  | provisionalEnd n => exact ⟨_, rfl, expired (.provisionalEnd n)⟩
  | wakeExpiry => exact ⟨_, rfl, expired .wake⟩
  | wakeTimeout => exact ⟨_, rfl, expired .wakeTimer⟩
  | warningExpiry t => exact ⟨_, rfl, expired (.warning t)⟩

/-! ### What is not heard (R167, R169, R184) -/

theorem hears_stopped {s : State} (h : s.running = false) : s.hears = false := by
  rw [State.hears, h, Bool.false_and]

theorem hears_busy {s : State} (h : s.line.state.takes = false) : s.hears = false := by
  rw [State.hears, h, Bool.and_false]

theorem message_unheard {α : Type} {s : State} (h : s.hears = false) (i : Instr) (d : Dest) (b : Body α)
    (owner : α → State → State × Answer) : message i d b owner s = s := if_neg (Bool.eq_false_iff.mp h)

theorem resetMessage_unheard {s : State} (h : s.hears = false) (d : Dest) (b : Body Byte) : resetMessage d b s = s := by
  unfold resetMessage
  split
  · exact if_neg (Bool.eq_false_iff.mp h)
  · exact message_unheard h _ _ _ _

/-- A message that is not heard is lost. -/
theorem exec_message_unheard {c : Instr} {s : State} (hc : (payloadOf c).isSome = true) (h : s.hears = false) :
    exec c s = .next s := by
  cases c with
  | powerOn _ | resetPin _ | powerLoss | presentAdvance => cases hc
  | assemblyTimeout _ | deselection _ _ | impossibleLength _ _ | replyComplete => cases hc
  | eraseComplete | writeComplete => cases hc
  | agingScan | windowStart _ | lateLimit _ | takeDeadline _ | confirmTimer _ | provisionalEnd _ => cases hc
  | wakeExpiry | wakeTimeout | warningExpiry _ => cases hc
  | reset d b => exact congrArg Host.Outcome.next (resetMessage_unheard h d b)
  | _ => exact congrArg Host.Outcome.next (message_unheard h _ _ _ _)

theorem advance_stopped {s : State} (h : s.running = false) : advance s = s := if_neg (Bool.eq_false_iff.mp h)

theorem onLine_stopped {s : State} (h : s.running = false) (f : LineInterface → LineInterface) : s.onLine f = s :=
  if_neg (Bool.eq_false_iff.mp h)

theorem eraseDone_stopped {s : State} (h : s.running = false) : eraseDone s = s := if_neg (by simp [h])

theorem writeDone_stopped {s : State} (h : s.running = false) : writeDone s = s := if_neg (by simp [h])

theorem expire_stopped {s : State} (h : s.running = false) (d : Due) : expire d s = s := if_neg (Bool.eq_false_iff.mp h)

/-- A part without supply, or held in reset, knows only the supply and the pin. -/
theorem exec_stopped {c : Instr} {s : State} (h : s.running = false) (hon : ∀ p, c ≠ .powerOn p)
    (hpin : ∀ e, c ≠ .resetPin e) (hloss : c ≠ .powerLoss) : exec c s = .next s := by
  cases c with
  | powerOn p => exact absurd rfl (hon p)
  | resetPin e => exact absurd rfl (hpin e)
  | powerLoss => exact absurd rfl hloss
  | presentAdvance => exact congrArg Host.Outcome.next (advance_stopped h)
  | assemblyTimeout _ | deselection _ _ | impossibleLength _ _ | replyComplete =>
    exact congrArg Host.Outcome.next (onLine_stopped h _)
  | eraseComplete => exact congrArg Host.Outcome.next (eraseDone_stopped h)
  | writeComplete => exact congrArg Host.Outcome.next (writeDone_stopped h)
  | agingScan | windowStart _ | lateLimit _ | takeDeadline _ | confirmTimer _ | provisionalEnd _ | wakeExpiry | wakeTimeout
  | warningExpiry _ => exact congrArg Host.Outcome.next (expire_stopped h _)
  | reset d b => exact congrArg Host.Outcome.next (resetMessage_unheard (hears_stopped h) d b)
  | _ => exact congrArg Host.Outcome.next (message_unheard (hears_stopped h) _ _ _ _)

/-- Settles O2: the answer and the queue command by command, each from what its owner writes; and what is not heard from
the guard that each event and each message begins with. -/
theorem execAnswersAndKeepsQueue : Obligations.ExecAnswersAndKeepsQueue :=
  ⟨exec_keepsQueue, fun _ _ => ⟨exec_stopped, fun hbusy hmessage => exec_message_unheard hmessage (hears_busy hbusy)⟩⟩

end Sys2Proof.Machine
